-- ==== Sys2Proof/Word.lean ====
section
/-! DEFINITION. The word types of the machine: bytes, instruction words, 64-bit register values and addresses, and
the 5-bit register fields of an instruction (10 R40, R41; 20 R90; 30 R140, R142). -/

namespace Sys2Proof

/-- The smallest addressable unit of memory (20 R90). -/
abbrev Byte := BitVec 8

/-- One A64 instruction (30 R140). -/
abbrev Word := BitVec 32

/-- The contents of a 64-bit register (10 R40). -/
abbrev DWord := BitVec 64

/-- A virtual address (20 R90). -/
abbrev Addr := BitVec 64

/-- A register field of an instruction, 0 to 31 (30 R142). Whether 31 names the zero register or the stack pointer
is a property of the operand position (10 R41). -/
abbrev Reg := BitVec 5

end Sys2Proof
end

