-- ==== Sys2Proof/Config.lean ====
section
/-! DEFINITION. What an implementation fixes (the parameters `P_*` of 00 R6) and the free values the spec leaves open
(00 R12). A machine's `Config` never changes while it runs. -/

namespace Sys2Proof

/-- The oracle `P_UNKNOWN` (00 R12): the k-th UNKNOWN value that a run draws. It has no body, so nothing can be proved
of its values. DESIGN CHOICE (log 7). -/
opaque Config.unknown : Nat → BitVec 64

/-- Exception level (60 R804). -/
inductive EL where
  | el0 | el1 | el2 | el3
deriving DecidableEq, Repr

/-- The 2-bit number of an Exception level, as `PSTATE.EL` shows it (60 R804). -/
def EL.bits : EL → BitVec 2
  | .el0 => 0#2
  | .el1 => 1#2
  | .el2 => 2#2
  | .el3 => 3#2

/-- The Exception level a 2-bit number names (60 R804). -/
def EL.ofBits (b : BitVec 2) : EL :=
  if b = 0#2 then .el0 else if b = 1#2 then .el1 else if b = 2#2 then .el2 else .el3

/-- The number of an Exception level, for comparing privilege (60 R804). -/
def EL.toNat (e : EL) : Nat := e.bits.toNat

/-- What a memory access asks permission for (20 R114). -/
inductive AccessKind where
  | read | write | execute
deriving DecidableEq, Repr

/-- A run of `size` byte addresses from `base`. -/
structure Region where
  base : Nat
  size : Nat
deriving DecidableEq, Repr

/-- An entry of the platform's permission predicate `P_PERM` (20 R114): accesses of this kind at this privilege are
denied in this region. -/
structure Denial where
  region : Region
  el : EL
  kind : AccessKind
deriving DecidableEq, Repr

/-- The choices permitted where a load pair has `t == t2` (00 R11; 47 R540, R560). -/
inductive LoadPairChoice where
  | unknown | undef | nop
deriving DecidableEq, Repr

/-- The choices permitted where a load with writeback overwrites its base (46 R461, 47 R540). -/
inductive LoadWritebackChoice where
  | wbSuppress | unknown | undef | nop
deriving DecidableEq, Repr

/-- The choices permitted where a store with writeback stores its base (46 R461, 47 R540). -/
inductive StoreWritebackChoice where
  | none | unknown | undef | nop
deriving DecidableEq, Repr

/-- The choices permitted where the status register of a Store-Exclusive is also its data or base register
(47 R560(d), 20 R129; log 19). -/
inductive StoreExclusiveChoice where
  | unknown | none | undef | nop
deriving DecidableEq, Repr

/-- `P_CONSTRAIN` (00 R6, R11): the choice taken at each CONSTRAINED UNPREDICTABLE site. Each site's type holds the
permitted choices and nothing else. -/
structure Constrain where
  ldPairOverlap : LoadPairChoice
  ldWbackOverlap : LoadWritebackChoice
  stWbackOverlap : StoreWritebackChoice
  stxStatusDataOverlap : StoreExclusiveChoice
  stxStatusBaseOverlap : StoreExclusiveChoice
deriving DecidableEq, Repr

/-- Where DISR_EL1 or VDISR_EL2 holds a deferred SError: a parameter, because the source gives no layout (49 R718; log 22). -/
structure DeferredLayout where
  /-- The bit that tells that an SError was deferred (A). -/
  aBit : BitVec 6
  /-- The bits of the syndrome that the register holds. -/
  kept : BitVec 25
  /-- The bit of the register that holds bit 0 of the syndrome. -/
  low : BitVec 6
deriving DecidableEq, Repr

/-- What 60 R849 says of the layout: A is bit 31, and the syndrome is in the low bits. -/
def DeferredLayout.default : DeferredLayout where
  aBit := 31#6
  kept := 0x1FFFFFF#25
  low := 0#6

/-- A system register that the user of the model adds to `P_SYSREG` (10 R62, R73; log 39): its address
`op0:op1:CRn:CRm:op2`, whether MRS and MSR may name it, the bits that a write changes, and its value after reset. -/
structure ExtraReg where
  address : BitVec 16
  readable : Bool
  writable : Bool
  mask : BitVec 64
  resetValue : BitVec 64
deriving DecidableEq, Repr

namespace Machine

/-- The system registers: those of 10 R62, and those that the user of the model adds. -/
inductive SysReg where
  | nzcv | daif | currentEL | spSel | pan | uao
  | spEL0 | spEL1 | spEL2
  | spsr (level : EL) | elr (level : EL) | esr (level : EL) | far (level : EL) | vbar (level : EL) | sctlr (level : EL)
  | hcr | scr | dlr | dspsr | disr | vdisr | par | dczid | tpidr | isar0
  | extra (r : ExtraReg)
deriving DecidableEq, Repr

/-- The registers of 10 R62. -/
def SysReg.defaults : List SysReg :=
  [ .nzcv, .daif, .currentEL, .spSel, .pan, .uao, .spEL0, .spEL1, .spEL2,
    .spsr .el1, .elr .el1, .spsr .el2, .elr .el2, .spsr .el3, .elr .el3,
    .esr .el1, .esr .el2, .esr .el3, .far .el1, .far .el2, .far .el3,
    .vbar .el1, .vbar .el2, .vbar .el3, .sctlr .el1, .sctlr .el2, .sctlr .el3,
    .hcr, .scr, .dlr, .dspsr, .disr, .vdisr, .par, .dczid, .tpidr, .isar0 ]

end Machine

/-- The parameters of 00 R6. `P_UNKNOWN` is `Config.unknown`, and `P_MONITOR_SPURIOUS_CLEAR` is an action of the
environment's schedule, which lists the steps at which it happens (log 10). -/
structure Config where
  haveEL2 : Bool
  haveEL3 : Bool
  haveAtomics : Bool
  haveCRC : Bool
  havePAN : Bool
  haveUAO : Bool
  haveRAS : Bool
  haveSPE : Bool
  haveLOR : Bool
  haveVHE : Bool
  haveATS1E1 : Bool
  haveDCPoP : Bool
  bigEndianSupported : Bool
  /-- `P_ERG_LOG2` is 4 more than this field, so that it lies in 4 to 11 as 20 R128 says. -/
  ergLog2Minus4 : Fin 8
  constrain : Constrain
  /-- `P_SYSREG`: the registers that exist; each has one address (10 R62; log 39). -/
  sysRegs : List Machine.SysReg
  /-- `P_PA_BITS`, which only the result of AT reads (93 U1.13; 49 R744). -/
  paBits : Nat
  /-- `P_VA_BITS`, which no rule reads (93 U1.13). -/
  vaBits : Nat
  disrLayout : DeferredLayout
  vdisrLayout : DeferredLayout
  exFailAborts : Bool
  /-- `P_DCZVA_LOG2_BYTES` is 2 more than this field, the `BS` field of DCZID_EL0 (49 R745). -/
  dczvaBS : BitVec 4
  /-- `P_MAPPED`: the regions that hold no memory (20 R110; log 9). -/
  unmapped : List Region
  /-- `P_PERM`: what is denied (20 R114; log 9). -/
  denied : List Denial
  resetPC : Addr
  resetEE : Bool
  /-- Whether the interrupt routing bits of SCR_EL3 and HCR_EL2 are read; FALSE takes them as 0 (60 R821; log 20). -/
  interruptRouting : Bool
deriving DecidableEq, Repr

/-- The choice UNDEF at every site (00 R6, R11; 92 D3). -/
def Constrain.undefEverywhere : Constrain where
  ldPairOverlap := .undef
  ldWbackOverlap := .undef
  stWbackOverlap := .undef
  stxStatusDataOverlap := .undef
  stxStatusBaseOverlap := .undef

/-- The defaults of 00 R6 (92 D1). `resetPC` has no default in the spec: DESIGN CHOICE 0 (log 4). -/
def Config.default : Config where
  haveEL2 := false
  haveEL3 := false
  haveAtomics := true
  haveCRC := true
  havePAN := true
  haveUAO := true
  haveRAS := false
  haveSPE := false
  haveLOR := true
  haveVHE := false
  haveATS1E1 := true
  haveDCPoP := true
  bigEndianSupported := false
  ergLog2Minus4 := 0
  constrain := .undefEverywhere
  sysRegs := Machine.SysReg.defaults
  paBits := 48
  vaBits := 48
  disrLayout := .default
  vdisrLayout := .default
  exFailAborts := false
  dczvaBS := 4#4
  unmapped := []
  denied := []
  resetPC := 0#64
  resetEE := false
  interruptRouting := false

/-- `P_ERG_LOG2`, 4 to 11 (20 R128). -/
def Config.ergLog2 (c : Config) : Nat := c.ergLog2Minus4.val + 4

/-- `P_DCZVA_LOG2_BYTES` (20 R136). -/
def Config.dczvaLog2Bytes (c : Config) : Nat := c.dczvaBS.toNat + 2

/-- The highest implemented Exception level (10 R80). -/
def Config.highestEL (c : Config) : EL :=
  if c.haveEL3 then .el3 else if c.haveEL2 then .el2 else .el1

/-- `HaveEL` (60 R804): EL0 and EL1 always exist. -/
def Config.haveEL (c : Config) : EL → Bool
  | .el0 => true
  | .el1 => true
  | .el2 => c.haveEL2
  | .el3 => c.haveEL3

end Sys2Proof
end

