-- ==== Sys2Proof/Machine/State.lean ====
section
/-! DEFINITION. The state of one processing element and its memory as plain data (10 R40 to R80), the state after reset
(10 R80, 70 R860), and the reasons a step can stop. -/

namespace Sys2Proof.Machine

/-- Why a step stops without a next state. -/
inductive Fault where
  /-- Raised by `step` when the PE is in Debug state: a Halt ends the run (60 R844), and the spec does not describe how
  the external debugger goes on. Safe. -/
  | halted
deriving DecidableEq, Repr

/-- Why a step gives no meaning to an instruction. -/
inductive Refusal where
  /-- Raised by an arm of `exec` whose instruction has no meaning yet; no arm is left so. Safe. -/
  | notModelled (mnemonic : String)
deriving DecidableEq, Repr

/-- The process state PSTATE (10 R48). The fields D, A, I, F are the exception masks, `sp` is the stack pointer select
and `il` the illegal execution state. -/
structure PState where
  n : Bool
  z : Bool
  c : Bool
  v : Bool
  d : Bool
  a : Bool
  i : Bool
  f : Bool
  pan : Bool
  uao : Bool
  sp : Bool
  el : EL
  il : Bool
  ss : Bool
deriving DecidableEq, Repr

/-- The registers that EL1, EL2 and EL3 each have one of (60 R804; 10 R63 to R66, R72). -/
structure ELRegs where
  elr : DWord
  spsr : DWord
  esr : DWord
  far : DWord
  vbar : DWord
  sctlr : DWord
deriving DecidableEq, Repr

/-- A marked range of the local exclusive monitor: its physical address and its size in bytes (20 R125). -/
structure Mark where
  pa : Addr
  size : Nat
deriving DecidableEq, Repr

/-- The bytes of memory, address and value (20 R90): strictly rising addresses, and no entry holding what an unlisted
address reads as (log 5). -/
abbrev Memory := List Host.Cell

/-- What the environment of the PE may do at an instruction boundary (60 R850; 20 R127; log 10). -/
inductive EnvAction where
  | setIrq (pending : Bool)
  | setFiq (pending : Bool)
  | setSError (pending : Bool) (iss : BitVec 25)
  | setVSError (pending : Bool) (iss : BitVec 25)
  /-- SEV on another PE (60 R846(a)). -/
  | sendEvent
  /-- Another observer takes the monitor away, which is an event (20 R127; 60 R846(e)). -/
  | clearMonitor
  /-- `P_MONITOR_SPURIOUS_CLEAR`: the local monitor becomes Open for no architectural reason (20 R127). -/
  | spuriousClear
  /-- A store of one byte by another observer (60 R850(a)). -/
  | store (addr : Addr) (value : Byte)
  /-- The external debugger allows or forbids halting and writes EDSCR (10 R69; 49 R705). -/
  | debug (haltingAllowed : Bool) (edscr : BitVec 32)
deriving DecidableEq, Repr

/-- The machine: one PE, its memory and its inputs. `cfg` never changes (log 6). -/
structure State where
  cfg : Config
  /-- X0 to X30 (10 R40). -/
  x : Vector DWord 31
  spEL0 : DWord
  spEL1 : DWord
  spEL2 : DWord
  spEL3 : DWord
  /-- The address of the instruction that executes next (10 R47). -/
  pc : Addr
  p : PState
  /-- The local exclusive monitor; `none` is Open (10 R50). -/
  monitor : Option Mark
  /-- The event register (10 R51). -/
  event : Bool
  irqPending : Bool
  fiqPending : Bool
  serrorPending : Bool
  /-- The syndrome the platform supplies with an SError (60 R802). -/
  serrorIss : BitVec 25
  /-- A virtual SError, which only ESB looks at (60 R820, R849; log 21). -/
  vserrorPending : Bool
  vserrorIss : BitVec 25
  /-- Whether the PE is in Debug state (10 R53). -/
  halted : Bool
  /-- EDSCR: HDE is bit 14, SDD bit 16 (10 R69). -/
  edscr : BitVec 32
  /-- The input `HaltingAllowed()` (49 R705). -/
  haltingAllowed : Bool
  el1 : ELRegs
  el2 : ELRegs
  el3 : ELRegs
  hcr : DWord
  scr : DWord
  dlr : DWord
  dspsr : DWord
  disr : DWord
  vdisr : DWord
  par : DWord
  tpidr : DWord
  /-- The registers that the user of the model adds, by address (10 R62; log 39). -/
  extra : List (BitVec 16 × DWord)
  mem : Memory
  /-- The model's own: how many UNKNOWN values have been drawn (log 7). -/
  draws : Nat
  /-- The model's own: what the environment does at each step to come (log 10). -/
  env : List (List EnvAction)
  /-- The model's own: the last step was an exception entry, an ERET, or a WFI that completed with an interrupt due. An
  interrupt that is due is then taken even before a WFI (49 R715; 60 R822, R840; log 37). -/
  interruptFirst : Bool
deriving DecidableEq, Repr

/-- PSTATE after reset (10 R80, 70 R860): all masks set, the highest level with its own stack pointer. The flags are
DESIGN CHOICE 0 (log 2). -/
def PState.reset (c : Config) : PState where
  n := false
  z := false
  c := false
  v := false
  d := true
  a := true
  i := true
  f := true
  pan := false
  uao := false
  sp := true
  el := c.highestEL
  il := false
  ss := false

/-- The registers of a level after reset. Of the level the PE resets to, SCTLR.A is 0 and SCTLR.EE is `P_RESET_EE`
(10 R80), which reads 0 without big-endian support (20 R95); all else is DESIGN CHOICE 0 (log 3). -/
def ELRegs.reset (c : Config) (level : EL) : ELRegs where
  elr := 0#64
  spsr := 0#64
  esr := 0#64
  far := 0#64
  vbar := 0#64
  sctlr := if level = c.highestEL ∧ c.resetEE ∧ c.bigEndianSupported then 0x2000000#64 else 0#64

/-- The registers that the user of the model adds, at their values after reset (10 R62; log 39). -/
def extraRegsReset (regs : List SysReg) : List (BitVec 16 × DWord) :=
  regs.filterMap fun reg =>
    match reg with
    | .extra r => some (r.address, r.resetValue)
    | _ => none

/-- The machine of a configuration right after reset (70 R860). Registers the spec leaves unspecified are DESIGN CHOICE 0
(log 1 to 4), memory lists nothing (log 5), no input is asserted (60 R820), and EDSCR.SDD is 1 (10 R69). -/
def State.resetWith (c : Config) : State where
  cfg := c
  x := Vector.replicate 31 0#64
  spEL0 := 0#64
  spEL1 := 0#64
  spEL2 := 0#64
  spEL3 := 0#64
  pc := c.resetPC
  p := PState.reset c
  monitor := none
  event := false
  irqPending := false
  fiqPending := false
  serrorPending := false
  serrorIss := 0#25
  vserrorPending := false
  vserrorIss := 0#25
  halted := false
  edscr := 0x10000#32
  haltingAllowed := false
  el1 := ELRegs.reset c .el1
  el2 := ELRegs.reset c .el2
  el3 := ELRegs.reset c .el3
  hcr := 0#64
  scr := 0#64
  dlr := 0#64
  dspsr := 0#64
  disr := 0#64
  vdisr := 0#64
  par := 0#64
  tpidr := 0#64
  extra := extraRegsReset c.sysRegs
  mem := []
  draws := 0
  env := []
  interruptFirst := false

/-- The machine right after reset, with the default parameters of 00 R6. -/
def State.reset : State := State.resetWith Config.default

end Sys2Proof.Machine
end

