-- ==== Sys2Proof/Machine/Flags.lean ====
section
/-! DEFINITION. The condition flags: the addition that computes them (00 R13), the flags of a logical result (10 R49) and
the conditions that read them (00 R17). -/

namespace Sys2Proof.Machine

/-- The four condition flags (10 R48). -/
structure Flags where
  n : Bool
  z : Bool
  c : Bool
  v : Bool
deriving DecidableEq, Repr

/-- The flags that a 4-bit value `n:z:c:v` names (00 R8). -/
def Flags.ofBits (b : BitVec 4) : Flags :=
  ⟨b.getLsbD 3, b.getLsbD 2, b.getLsbD 1, b.getLsbD 0⟩

/-- The 4-bit value `n:z:c:v` (00 R8). -/
def Flags.toBits (f : Flags) : BitVec 4 :=
  BitVec.ofBool f.n ++ BitVec.ofBool f.z ++ BitVec.ofBool f.c ++ BitVec.ofBool f.v

/-- The flags of PSTATE (10 R48). -/
def PState.flags (p : PState) : Flags := ⟨p.n, p.z, p.c, p.v⟩

/-- PSTATE with its four flags written together (10 R49). -/
def PState.withFlags (p : PState) (f : Flags) : PState :=
  { p with n := f.n, z := f.z, c := f.c, v := f.v }

/-- `AddWithCarry` (00 R13): the exact sums decide the carry and the overflow. -/
def addWithCarry {w : Nat} (x y : BitVec w) (carry : Bool) : BitVec w × Flags :=
  let unsignedSum : Nat := x.toNat + y.toNat + carry.toNat
  let signedSum : Int := x.toInt + y.toInt + carry.toNat
  let result := BitVec.ofNat w unsignedSum
  (result,
    { n := result.msb
      z := decide (result = 0#w)
      c := decide (result.toNat ≠ unsignedSum)
      v := decide (result.toInt ≠ signedSum) })

/-- The flags of a logical result: N and Z from it, C and V clear (10 R49). -/
def logicalFlags {w : Nat} (result : BitVec w) : Flags where
  n := result.msb
  z := decide (result = 0#w)
  c := false
  v := false

/-- `ConditionHolds` (00 R17). -/
def conditionHolds (f : Flags) (cond : BitVec 4) : Bool :=
  let base :=
    match (cond.extractLsb' 1 3).toNat with
    | 0 => f.z
    | 1 => f.c
    | 2 => f.n
    | 3 => f.v
    | 4 => f.c && !f.z
    | 5 => f.n == f.v
    | 6 => f.n == f.v && !f.z
    | _ => true
  if cond.getLsbD 0 ∧ cond ≠ 15#4 then !base else base

end Sys2Proof.Machine
end

