-- ==== Sys2Proof/Machine/Ops.lean ====
section
/-! DEFINITION. The named operations over registers, memory, the monitor and exceptions, each stated once: register and
stack pointer access (10 R40 to R46), memory access with its checks (20 R90 to R115), the local monitor (20 R125 to R127),
taking an exception (60 R800 to R834), returning from one (60 R840, R841), interrupts (60 R820 to R822), and the actions of
the environment (60 R850). -/

namespace Sys2Proof.Machine

/-- What executing one instruction gives. -/
abbrev Result := Host.Outcome State Fault Refusal

/-! ## Registers -/

/-- The operand size that an `sf` bit selects (00 R9). -/
def datasize (sf : BitVec 1) : Nat := if sf = 1#1 then 64 else 32

/-- All 64 bits of general register `r`; number 31 is the zero register (10 R42). -/
def State.readX (s : State) (r : Reg) : DWord :=
  if h : r.toNat < 31 then s.x[r.toNat] else 0#64

/-- The low `w` bits of general register `r` (00 R9). -/
def State.readXW (s : State) (w : Nat) (r : Reg) : BitVec w := (s.readX r).setWidth w

/-- A write of general register `r`: a narrower value is zero-extended, and a write to number 31 is discarded (10 R43). -/
def State.writeX {w : Nat} (s : State) (r : Reg) (v : BitVec w) : State :=
  if h : r.toNat < 31 then { s with x := s.x.set r.toNat (v.setWidth 64) } else s

/-- The stack pointer register of a level. -/
def State.spOf (s : State) : EL → DWord
  | .el0 => s.spEL0
  | .el1 => s.spEL1
  | .el2 => s.spEL2
  | .el3 => s.spEL3

/-- A write of the stack pointer register of a level. -/
def State.setSpOf (s : State) (level : EL) (v : DWord) : State :=
  match level with
  | .el0 => { s with spEL0 := v }
  | .el1 => { s with spEL1 := v }
  | .el2 => { s with spEL2 := v }
  | .el3 => { s with spEL3 := v }

/-- The level whose stack pointer is in use (10 R45). -/
def State.spLevel (s : State) : EL := if s.p.sp then s.p.el else .el0

/-- The current stack pointer (10 R45). -/
def State.sp (s : State) : DWord := s.spOf s.spLevel

/-- A write of the current stack pointer; a narrower value is zero-extended (10 R45). -/
def State.writeSp {w : Nat} (s : State) (v : BitVec w) : State := s.setSpOf s.spLevel (v.setWidth 64)

/-- `xsp[i]`: number 31 is the stack pointer (00 R8). -/
def State.readXsp (s : State) (r : Reg) : DWord := if r = 31#5 then s.sp else s.readX r

/-- The low `w` bits of `xsp[i]`. -/
def State.readXspW (s : State) (w : Nat) (r : Reg) : BitVec w := (s.readXsp r).setWidth w

/-- A write of `xsp[i]` (00 R8). -/
def State.writeXsp {w : Nat} (s : State) (r : Reg) (v : BitVec w) : State :=
  if r = 31#5 then s.writeSp v else s.writeX r v

/-- A write of the four flags together (10 R49). -/
def State.writeFlags (s : State) (f : Flags) : State := { s with p := s.p.withFlags f }

/-- A branch (00 R8). -/
def State.branch (s : State) (target : Addr) : State := { s with pc := target }

/-- The next instruction is the one after this (10 R47). -/
def State.advance (s : State) : State := { s with pc := s.pc + 4#64 }

/-- The registers of a level. EL0 has none (60 R804); the value for it is never used. -/
def State.elRegs (s : State) : EL → ELRegs
  | .el0 => s.el1
  | .el1 => s.el1
  | .el2 => s.el2
  | .el3 => s.el3

/-- A write of the registers of a level. -/
def State.setElRegs (s : State) (level : EL) (r : ELRegs) : State :=
  match level with
  | .el0 => { s with el1 := r }
  | .el1 => { s with el1 := r }
  | .el2 => { s with el2 := r }
  | .el3 => { s with el3 := r }

/-- The next UNKNOWN value (00 R12; log 7). -/
def State.unknown (s : State) : DWord := Config.unknown s.draws

/-- The state after UNKNOWN values have been drawn. -/
def State.drawn (s : State) (count : Nat) : State := { s with draws := s.draws + count }

/-! ## Levels and security -/

/-- `IsSecure()` (60 R804). Without EL3 the model is Non-secure. -/
def State.isSecure (s : State) : Bool :=
  s.cfg.haveEL3 && (decide (s.p.el = .el3) || !s.scr.getLsbD 0)

/-- EL2 is implemented and the PE is Non-secure: the condition under which HCR_EL2 acts (60 R804). -/
def State.el2Acts (s : State) : Bool := s.cfg.haveEL2 && !s.isSecure

/-- `HCR_EL2.TGE`, where it acts (10 R67). -/
def State.tge (s : State) : Bool := s.el2Acts && s.hcr.getLsbD 27

/-- `IsInHost()` for a level (60 R804). -/
def State.inHostAt (s : State) : EL → Bool
  | .el0 => s.cfg.haveVHE && s.el2Acts && s.hcr.getLsbD 34 && s.hcr.getLsbD 27
  | .el2 => s.cfg.haveVHE && s.el2Acts && s.hcr.getLsbD 34
  | _ => false

/-- `IsInHost()` (60 R804). -/
def State.inHost (s : State) : Bool := s.inHostAt s.p.el

/-- The system control register that governs the current level; EL0 has that of EL1, or of EL2 in host mode
(20 R95, R100; log 16). -/
def State.sctlr (s : State) : DWord :=
  match s.p.el with
  | .el0 => if s.inHost then s.el2.sctlr else s.el1.sctlr
  | level => (s.elRegs level).sctlr

/-- `BigEndian()` (20 R95): E0E (bit 24) at EL0, EE (bit 25) above; always FALSE without big-endian support. -/
def State.bigEndian (s : State) : Bool :=
  s.cfg.bigEndianSupported && (if s.p.el = .el0 then s.sctlr.getLsbD 24 else s.sctlr.getLsbD 25)

/-! ## Exceptions -/

/-- Why an access aborts (60 R812). -/
inductive AbortKind where
  | alignment | translation | permission
deriving DecidableEq, Repr

/-- The fault status code of an abort (60 R812, R813). -/
def AbortKind.status : AbortKind → BitVec 6
  | .alignment => 0b100001#6
  | .translation => 0b000100#6
  | .permission => 0b001111#6

/-- The synchronous exceptions (60 R802). -/
inductive Exc where
  | undefined
  | wfxTrap (target : EL) (isWfe : Bool)
  | illegalState
  | supervisorCall (imm : BitVec 16)
  | hypervisorCall (imm : BitVec 16)
  | secureMonitorCall (imm : BitVec 16)
  | smcTrap (imm : BitVec 16)
  | systemRegisterTrap (target : EL) (op0 : BitVec 2) (op2 op1 : BitVec 3) (crn : BitVec 4) (rt : BitVec 5)
      (crm : BitVec 4) (dir : BitVec 1)
  | instructionAbort (vaddr : Addr) (kind : AbortKind)
  | pcAlignment
  | dataAbort (vaddr : Addr) (kind : AbortKind) (wnr cm : Bool)
  | spAlignment
  | softwareBreakpoint (imm : BitVec 16)
deriving DecidableEq, Repr

/-- The general case of the target level (60 R831). -/
def State.generalTarget (s : State) : EL :=
  match s.p.el with
  | .el0 => if s.tge then .el2 else .el1
  | level => level

/-- The target level of a synchronous exception (60 R831; R807 for BRK, log 33; R808 and R809 for the rerouting). -/
def Exc.target (e : Exc) (s : State) : EL :=
  match e with
  | .wfxTrap level _ => if level = .el1 ∧ s.tge then .el2 else level
  | .systemRegisterTrap level _ _ _ _ _ _ _ => if level = .el1 ∧ s.tge then .el2 else level
  | .hypervisorCall _ => if s.p.el = .el3 then .el3 else .el2
  | .secureMonitorCall _ => .el3
  | .smcTrap _ => .el2
  | .softwareBreakpoint _ => if s.p.el.toNat < 2 ∧ s.tge then .el2 else s.generalTarget
  | _ => s.generalTarget

/-- The exception class (60 R802): two classes tell an exception from a lower level from one of the same level. -/
def Exc.ec (e : Exc) (lower : Bool) : BitVec 6 :=
  match e with
  | .undefined => 0x00#6
  | .wfxTrap _ _ => 0x01#6
  | .illegalState => 0x0E#6
  | .supervisorCall _ => 0x15#6
  | .hypervisorCall _ => 0x16#6
  | .secureMonitorCall _ => 0x17#6
  | .smcTrap _ => 0x17#6
  | .systemRegisterTrap _ _ _ _ _ _ _ _ => 0x18#6
  | .instructionAbort _ _ => if lower then 0x20#6 else 0x21#6
  | .pcAlignment => 0x22#6
  | .dataAbort _ _ _ _ => if lower then 0x24#6 else 0x25#6
  | .spAlignment => 0x26#6
  | .softwareBreakpoint _ => 0x3C#6

/-- The syndrome of the class (60 R802, R812). -/
def Exc.iss (e : Exc) : BitVec 25 :=
  match e with
  | .wfxTrap _ isWfe => 1#1 ++ 14#4 ++ 0#19 ++ BitVec.ofBool isWfe
  | .supervisorCall imm => imm.setWidth 25
  | .hypervisorCall imm => imm.setWidth 25
  | .secureMonitorCall imm => imm.setWidth 25
  | .smcTrap imm => imm.setWidth 25
  | .softwareBreakpoint imm => imm.setWidth 25
  | .systemRegisterTrap _ op0 op2 op1 crn rt crm dir => 0#3 ++ op0 ++ op2 ++ op1 ++ crn ++ rt ++ crm ++ dir
  | .instructionAbort _ kind => kind.status.setWidth 25
  | .dataAbort _ kind wnr cm => 0#16 ++ BitVec.ofBool cm ++ 0#1 ++ BitVec.ofBool wnr ++ kind.status
  | _ => 0#25

/-- The preferred return address (60 R832). -/
def Exc.returnAddress (e : Exc) (s : State) : Addr :=
  match e with
  | .supervisorCall _ => s.pc + 4#64
  | .hypervisorCall _ => s.pc + 4#64
  | .secureMonitorCall _ => s.pc + 4#64
  | _ => s.pc

/-- The faulting address, for the classes that have one (60 R830 step 4). -/
def Exc.faultAddress (e : Exc) (s : State) : Option Addr :=
  match e with
  | .instructionAbort vaddr _ => some vaddr
  | .dataAbort vaddr _ _ _ => some vaddr
  | .pcAlignment => some s.pc
  | _ => none

/-- The image of PSTATE that a saved program status register holds (10 R65). -/
def PState.image (p : PState) : DWord :=
  0#32 ++ p.flags.toBits ++ 0#4 ++ BitVec.ofBool p.uao ++ BitVec.ofBool p.pan ++ BitVec.ofBool p.ss
    ++ BitVec.ofBool p.il ++ 0#10 ++ BitVec.ofBool p.d ++ BitVec.ofBool p.a ++ BitVec.ofBool p.i
    ++ BitVec.ofBool p.f ++ 0#2 ++ p.el.bits ++ 0#1 ++ BitVec.ofBool p.sp

/-- `ESR_ELx`: the class, IL = 1, the syndrome (60 R802). -/
def syndrome (ec : BitVec 6) (iss : BitVec 25) : DWord := 0#32 ++ ec ++ 1#1 ++ iss

/-- What an exception does to FAR of its target (60 R830 step 4). -/
inductive FarEffect where
  | keep
  | address (a : Addr)
  | unknown
deriving DecidableEq, Repr

/-- The offset of the vector (60 R830 step 5, R833). -/
def vectorOffset (vect : BitVec 11) (target source : EL) (sp : Bool) : BitVec 11 :=
  if source.toNat < target.toNat then vect + 0x400#11
  else if sp then vect + 0x200#11
  else vect

/-- PSTATE after an exception entry (60 R830 step 6). -/
def State.entryPState (s : State) (target : EL) : PState :=
  { s.p with
    el := target
    sp := true
    d := true
    a := true
    i := true
    f := true
    ss := false
    il := false
    pan :=
      s.p.pan ||
        (s.cfg.havePAN && (decide (target = .el1) || (decide (target = .el2) && s.inHostAt .el2)) &&
          !(s.elRegs target).sctlr.getLsbD 23)
    uao := s.p.uao && !s.cfg.haveUAO }

/-- The registers of the target after an exception entry (60 R830 steps 1 to 4). -/
def State.entryRegs (s : State) (target : EL) (esr : Option DWord) (far : FarEffect) (ret : Addr) : ELRegs :=
  let r := s.elRegs target
  { r with
    spsr := s.p.image
    elr := ret
    esr := esr.getD r.esr
    far :=
      match far with
      | .keep => r.far
      | .address a => a
      | .unknown => s.unknown }

/-- `TakeException` (60 R830), the one entry that every exception and interrupt uses. An interrupt that is due after it is
taken before the first instruction of the handler, whatever that is (60 R822). -/
def State.takeException (s : State) (target : EL) (esr : Option DWord) (far : FarEffect) (ret : Addr)
    (vect : BitVec 11) : State :=
  let s' := s.setElRegs target (s.entryRegs target esr far ret)
  { s' with
    p := s.entryPState target
    pc := (s.elRegs target).vbar.extractLsb' 11 53 ++ vectorOffset vect target s.p.el s.p.sp
    monitor := none
    draws := if far = .unknown then s.draws + 1 else s.draws
    interruptFirst := true }

/-- The state after synchronous exception `e` is taken from `s` (60 R800, R830). -/
def State.takeSync (s : State) (e : Exc) : State :=
  let target := e.target s
  s.takeException target (some (syndrome (e.ec (decide (s.p.el.toNat < target.toNat))) e.iss))
    (match e.faultAddress s with
      | some a => .address a
      | none => .unknown)
    (e.returnAddress s) 0x000#11

/-- What a `raise` leaves: the exception is taken (60 R800), but in Debug state an Undefined is not taken as an exception:
nothing changes, and what the debug logic then does is outside the model (49 R706; log 23). -/
def State.raised (s : State) (e : Exc) : State := if s.halted ∧ e = .undefined then s else s.takeSync e

/-- `raise X` (60 R800): the instruction has no effect but the exception. -/
def raise (s : State) (e : Exc) : Result := .next (s.raised e)

/-- An instruction after which the next one is at `pc + 4` (10 R47). -/
def finish (s : State) (r : Except Exc State) : Result :=
  match r with
  | .ok s' => .next s'.advance
  | .error e => raise s e

/-- An operand that a decode check refuses (`ReservedValue()`, `UnallocatedEncoding()`) is UNDEFINED (00 R10). -/
def orUndefined {α : Type} (o : Option α) : Except Exc α :=
  match o with
  | some a => .ok a
  | none => .error .undefined

/-- A check: an exception unless the condition holds. -/
def require (cond : Bool) (e : Exc) : Except Exc Unit := if cond then .ok () else .error e

/-! ## Exception return -/

/-- `IllegalReturn` (60 R841). -/
def State.illegalReturn (s : State) (spsr : DWord) : Bool :=
  let level := EL.ofBits (spsr.extractLsb' 2 2)
  decide (s.p.el.toNat < level.toNat)
    || !s.cfg.haveEL level
    || spsr.getLsbD 4
    || spsr.getLsbD 1
    || decide (spsr.extractLsb' 0 4 = 1#4)
    || (decide (level = .el2) && decide (s.p.el = .el3) && !s.scr.getLsbD 0)
    || (decide (level = .el1) && s.cfg.haveEL2 && (!s.cfg.haveEL3 || s.scr.getLsbD 0) && s.hcr.getLsbD 27)

/-- The PSTATE that a return from `spsr` gives (60 R840): the level, the stack select and IL only if the return is legal,
IL set if it is not; the rest in both cases. -/
def State.returnPState (s : State) (spsr : DWord) : PState :=
  let illegal := s.illegalReturn spsr
  { s.p.withFlags (Flags.ofBits (spsr.extractLsb' 28 4)) with
    el := if illegal then s.p.el else EL.ofBits (spsr.extractLsb' 2 2)
    sp := if illegal then s.p.sp else spsr.getLsbD 0
    il := if illegal then true else spsr.getLsbD 20
    ss := false
    d := spsr.getLsbD 9
    a := spsr.getLsbD 8
    i := spsr.getLsbD 7
    f := spsr.getLsbD 6
    pan := if s.cfg.havePAN then spsr.getLsbD 22 else s.p.pan
    uao := if s.cfg.haveUAO then spsr.getLsbD 23 else s.p.uao }

/-- `AArch64.ExceptionReturn` (60 R840): an interrupt that is due after it is taken before the first instruction at
`target`, whatever that is. -/
def State.exceptionReturn (s : State) (target : Addr) (spsr : DWord) : State :=
  { s with p := s.returnPState spsr, monitor := none, event := true, pc := target, interruptFirst := true }

/-! ## Memory -/

/-- What a byte that memory does not list reads as: DESIGN CHOICE 0 (log 5). -/
def Memory.unlisted : Byte := 0#8

/-- The byte at an address (20 R90). -/
def Memory.read : Memory → Nat → Byte
  | [], _ => Memory.unlisted
  | (k, b) :: rest, a => if k = a then b else Memory.read rest a

/-- A list with an entry for `a`, unless the byte is what an unlisted address reads as. -/
def Memory.cons (a : Nat) (b : Byte) (m : Memory) : Memory := if b = Memory.unlisted then m else (a, b) :: m

/-- A write of the byte at an address; it keeps the canonical form. -/
def Memory.write : Memory → Nat → Byte → Memory
  | [], a, b => Memory.cons a b []
  | (k, c) :: rest, a, b =>
    if a < k then Memory.cons a b ((k, c) :: rest)
    else if a = k then Memory.cons a b rest
    else (k, c) :: Memory.write rest a b

/-- The canonical form: rising addresses of the 64-bit space, and no entry that an unlisted address would read as. -/
abbrev Memory.wf (m : Memory) : Prop :=
  m.Pairwise (fun p q => p.1 < q.1) ∧ ∀ c ∈ m, c.1 < 2 ^ 64 ∧ c.2 ≠ Memory.unlisted

/-- The byte at a virtual address; translation is the identity (20 R112). -/
def Memory.byte (m : Memory) (a : Addr) : Byte := m.read a.toNat

/-- A write of the byte at a virtual address. -/
def Memory.setByte (m : Memory) (a : Addr) (b : Byte) : Memory := m.write a.toNat b

/-- The `n` bytes at `a`, the lowest address least significant (20 R92). -/
def Memory.readLE (m : Memory) (a : Addr) : (n : Nat) → BitVec (8 * n)
  | 0 => 0#0
  | n + 1 => Memory.readLE m (a + 1#64) n ++ m.byte a

/-- The `n` bytes at `a`, the lowest address most significant (20 R92). -/
def Memory.readBE (m : Memory) (a : Addr) : (n : Nat) → BitVec (8 * n)
  | 0 => 0#0
  | n + 1 => Memory.readBE m a n ++ m.byte (a + BitVec.ofNat 64 n)

/-- `n` bytes at `a` in the given byte order (20 R92). -/
def Memory.load (m : Memory) (big : Bool) (a : Addr) (n : Nat) : BitVec (8 * n) :=
  if big then m.readBE a n else m.readLE a n

/-- Byte `i` of a value. -/
def byteOf {w : Nat} (v : BitVec w) (i : Nat) : Byte := v.extractLsb' (8 * i) 8

/-- The first `n` bytes of `v` stored at `a`: byte `i` of the value at `a + i`, or at `a + (n-1-i)` when big-endian
(20 R93). -/
def Memory.store {w : Nat} (m : Memory) (big : Bool) (a : Addr) (v : BitVec w) (n : Nat) : Memory :=
  go n
where
  /-- The bytes below `a + k` stored. -/
  go : Nat → Memory
  | 0 => m
  | k + 1 => (go k).setByte (a + BitVec.ofNat 64 k) (byteOf v (if big then n - 1 - k else k))

/-- `n` zero bytes stored from `a` (20 R136). -/
def Memory.zero (m : Memory) (a : Addr) : Nat → Memory
  | 0 => m
  | n + 1 => (Memory.zero m a n).setByte (a + BitVec.ofNat 64 n) 0#8

/-- The access types (20 R94). -/
inductive AccType where
  | normal | stream | unpriv | ordered | limitedOrdered | atomic | atomicRW | orderedRW
deriving DecidableEq, Repr

/-- The access types whose address must be aligned whatever SCTLR.A holds (20 R100). -/
def AccType.alwaysAligned : AccType → Bool
  | .ordered => true
  | .limitedOrdered => true
  | .atomic => true
  | .atomicRW => true
  | .orderedRW => true
  | .normal => false
  | .stream => false
  | .unpriv => false

/-- A region holds an address. -/
def regionHolds (r : Region) (a : Addr) : Bool := decide (r.base ≤ a.toNat) && decide (a.toNat < r.base + r.size)

/-- `P_MAPPED` (20 R110; log 9). -/
def State.mapped (s : State) (a : Addr) : Bool := !s.cfg.unmapped.any (fun r => regionHolds r a)

/-- `P_PERM` (20 R114; log 9). -/
def State.platformAllows (s : State) (level : EL) (kind : AccessKind) (a : Addr) : Bool :=
  !s.cfg.denied.any (fun d => decide (d.el = level) && decide (d.kind = kind) && regionHolds d.region a)

/-- The privilege of an access (20 R113): an unprivileged access has that of EL0 at EL1 and in host mode with
`HCR_EL2.{E2H, TGE}` = {1, 1} at EL2, unless PSTATE.UAO lifts the restriction. -/
def State.accessLevel (s : State) (acc : AccType) : EL :=
  if acc = .unpriv ∧ ¬(s.cfg.haveUAO ∧ s.p.uao)
      ∧ (s.p.el = .el1 ∨ (s.p.el = .el2 ∧ s.inHost ∧ s.hcr.getLsbD 27)) then .el0
  else s.p.el

/-- PSTATE.PAN denies a privileged data access to what EL0 may access in the same way (20 R114; log 28). -/
def State.panDenies (s : State) (acc : AccType) (kind : AccessKind) (a : Addr) : Bool :=
  s.p.pan && decide (acc ≠ .unpriv) && (decide (s.p.el = .el1) || (decide (s.p.el = .el2) && s.inHost))
    && s.platformAllows .el0 kind a

/-- A data access to a byte is permitted (20 R114). -/
def State.permits (s : State) (acc : AccType) (kind : AccessKind) (a : Addr) : Bool :=
  s.platformAllows (s.accessLevel acc) kind a && !s.panDenies acc kind a

/-- The first of `n` bytes from `a` that has a property, in ascending order (60 R812). -/
def firstByte (bad : Addr → Bool) (a : Addr) : Nat → Option Addr
  | 0 => none
  | n + 1 => if bad a then some a else firstByte bad (a + 1#64) n

/-- An access of `n` bytes at `a` is misaligned and must not be (20 R100). -/
def State.misaligned (s : State) (a : Addr) (n : Nat) (acc : AccType) : Bool :=
  decide (a.toNat % n ≠ 0) && (acc.alwaysAligned || s.sctlr.getLsbD 1)

/-- The checks of one access of `n` bytes at `a`: alignment, then translation, then permission (20 R92, R93; 60 R803,
R812). `rmw` marks the write of a read-modify-write instruction or a store-exclusive: its WnR is 1 only for a permission
fault that a read would not have raised (60 R812; log 14). -/
def State.checkAccess (s : State) (a : Addr) (n : Nat) (acc : AccType) (kind : AccessKind) (rmw : Bool) :
    Except Exc Unit :=
  let write := decide (kind = .write)
  if s.misaligned a n acc then .error (.dataAbort a .alignment (write && !rmw) false)
  else
    match firstByte (fun b => !s.mapped b) a n with
    | some b => .error (.dataAbort b .translation (write && !rmw) false)
    | none =>
      match firstByte (fun b => !s.permits acc kind b) a n with
      | some b => .error (.dataAbort b .permission (write && (!rmw || s.permits acc .read b)) false)
      | none => .ok ()

/-- The checks of an access to two adjacent elements of `n` bytes that is aligned to both together: alignment of the whole,
then the element at the lower address, then the other (60 R803(8); 20 R100; log 38). -/
def State.checkPair (s : State) (a : Addr) (n : Nat) (acc : AccType) (kind : AccessKind) (rmw : Bool) :
    Except Exc Unit :=
  if s.misaligned a (2 * n) acc then .error (.dataAbort a .alignment (decide (kind = .write) && !rmw) false)
  else
    match s.checkAccess a n acc kind rmw with
    | .ok _ => s.checkAccess (a + BitVec.ofNat 64 n) n acc kind rmw
    | .error e => .error e

/-- The value that memory holds at `a`, in the current byte order (20 R92 steps 3, 4). -/
def State.loadBytes (s : State) (a : Addr) (n : Nat) : BitVec (8 * n) := s.mem.load s.bigEndian a n

/-- The state with the first `n` bytes of a value stored at `a`, in the current byte order (20 R93). -/
def State.storeBytes {w : Nat} (s : State) (a : Addr) (n : Nat) (v : BitVec w) : State :=
  { s with mem := s.mem.store s.bigEndian a v n }

/-- `MemRead` (20 R92). -/
def State.memRead (s : State) (a : Addr) (n : Nat) (acc : AccType) : Except Exc (BitVec (8 * n)) :=
  match s.checkAccess a n acc .read false with
  | .ok _ => .ok (s.loadBytes a n)
  | .error e => .error e

/-- `MemWrite` (20 R93). -/
def State.memWrite {w : Nat} (s : State) (a : Addr) (n : Nat) (v : BitVec w) (acc : AccType) : Except Exc State :=
  match s.checkAccess a n acc .write false with
  | .ok _ => .ok (s.storeBytes a n v)
  | .error e => .error e

/-- `CheckSPAlignment()` (10 R46): SA0 (bit 4) of SCTLR_EL1 at EL0, SA (bit 3) of SCTLR_ELx at ELx. -/
def State.checkSPAlignment (s : State) : Except Exc Unit :=
  let enabled := if s.p.el = .el0 then s.el1.sctlr.getLsbD 4 else (s.elRegs s.p.el).sctlr.getLsbD 3
  require (!enabled || decide (s.sp.extractLsb' 0 4 = 0#4)) .spAlignment

/-- The base address of a memory instruction: the stack pointer, checked, when the field is 31 (10 R46). -/
def State.baseAddress (s : State) (n : Reg) : Except Exc Addr :=
  if n = 31#5 then
    match s.checkSPAlignment with
    | .ok _ => .ok s.sp
    | .error e => .error e
  else .ok (s.readX n)

/-! ## The local exclusive monitor -/

/-- `AArch64.SetExclusiveMonitors` (20 R125). -/
def State.setMonitor (s : State) (a : Addr) (n : Nat) : State := { s with monitor := some ⟨a, n⟩ }

/-- `ClearExclusiveLocal` (20 R127). -/
def State.clearMonitor (s : State) : State := { s with monitor := none }

/-- Two addresses lie in one exclusives reservation granule (20 R126, R128). -/
def State.sameGranule (s : State) (a b : Addr) : Bool :=
  decide (a >>> s.cfg.ergLog2 = b >>> s.cfg.ergLog2)

/-- The result of `AArch64.ExclusiveMonitorsPass` (20 R126): the monitor is Exclusive for the granule. -/
def State.monitorPasses (s : State) (a : Addr) : Bool :=
  match s.monitor with
  | some m => s.sameGranule m.pa a
  | none => false

/-! ## Interrupts -/

/-- The physical interrupts, in the order in which they are taken (60 R803, R820). -/
inductive Interrupt where
  | serror | fiq | irq
deriving DecidableEq, Repr

/-- An interrupt is pending (60 R820). -/
def State.pending (s : State) : Interrupt → Bool
  | .serror => s.serrorPending
  | .fiq => s.fiqPending
  | .irq => s.irqPending

/-- `InterruptPending()`, whatever the masks (60 R820). -/
def State.interruptPending (s : State) : Bool := s.irqPending || s.fiqPending || s.serrorPending

/-- The mask bit of an interrupt (60 R821). -/
def State.masked (s : State) : Interrupt → Bool
  | .serror => s.p.a
  | .fiq => s.p.f
  | .irq => s.p.i

/-- The routing bit of an interrupt in SCR_EL3 and in HCR_EL2 (60 R821). -/
def Interrupt.routingBits : Interrupt → Nat × Nat
  | .serror => (3, 5)
  | .fiq => (2, 3)
  | .irq => (1, 4)

/-- The target level of an interrupt (60 R821; log 20). -/
def State.interruptTarget (s : State) (k : Interrupt) : EL :=
  if s.cfg.haveEL3 && s.cfg.interruptRouting && s.scr.getLsbD k.routingBits.1 then .el3
  else if s.el2Acts && (decide (s.p.el = .el2) || s.hcr.getLsbD 27
      || (s.cfg.interruptRouting && s.hcr.getLsbD k.routingBits.2)) then .el2
  else .el1

/-- A pending interrupt is taken now (60 R821): never to a lower level, to the same level or to EL1 from EL0 unless masked,
to EL2 or EL3 from below always. -/
def State.interruptTaken (s : State) (k : Interrupt) : Bool :=
  let target := s.interruptTarget k
  s.pending k && decide (s.p.el.toNat ≤ target.toNat)
    && ((decide (s.p.el.toNat < target.toNat) && decide (target ≠ .el1)) || !s.masked k)

/-- The interrupt that is taken before the next instruction, if any (60 R803(1), R822). -/
def State.nextInterrupt (s : State) : Option Interrupt :=
  [Interrupt.serror, .fiq, .irq].find? s.interruptTaken

/-- The vector of an interrupt (60 R822). -/
def Interrupt.vector : Interrupt → BitVec 11
  | .irq => 0x080#11
  | .fiq => 0x100#11
  | .serror => 0x180#11

/-- Taking an interrupt, the next instruction being at `ret` (60 R815, R822): ESR is written for SError only, FAR never. -/
def State.takeInterrupt (s : State) (k : Interrupt) (ret : Addr) : State :=
  s.takeException (s.interruptTarget k)
    (if k = .serror then some (syndrome 0x2F#6 s.serrorIss) else none) .keep ret k.vector

/-- The state in which a step runs its instruction: what the step before left for the interrupts is used up (log 37). -/
def State.startStep (s : State) : State := { s with interruptFirst := false }

/-- A WFI completes with an interrupt due: it only moves the pc, and the interrupt is taken before the next instruction
(49 R715). -/
def State.completeWait (s : State) : State := { s.advance with interruptFirst := true }

/-! ## The environment -/

/-- A store by another observer: it takes the monitor away from a marked granule, which is an event (20 R127;
60 R846(e), R850). -/
def State.foreignStore (s : State) (a : Addr) (b : Byte) : State :=
  let hit := s.monitorPasses a
  { s with
    mem := s.mem.setByte a b
    monitor := if hit then none else s.monitor
    event := s.event || hit }

/-- One action of the environment (60 R850; log 10). -/
def State.act (s : State) : EnvAction → State
  | .setIrq pending => { s with irqPending := pending }
  | .setFiq pending => { s with fiqPending := pending }
  | .setSError pending iss => { s with serrorPending := pending, serrorIss := iss }
  | .setVSError pending iss => { s with vserrorPending := pending, vserrorIss := iss }
  | .sendEvent => { s with event := true }
  | .clearMonitor => { s with monitor := none, event := s.event || s.monitor.isSome }
  | .spuriousClear => s.clearMonitor
  | .store a b => s.foreignStore a b
  | .debug allowed edscr => { s with haltingAllowed := allowed, edscr := edscr }

/-- The actions that the environment makes before this step (log 10). -/
def State.environment (s : State) : State :=
  match s.env with
  | [] => s
  | actions :: rest => actions.foldl State.act { s with env := rest }

end Sys2Proof.Machine
end

