-- ==== Sys2Proof/Machine/Operands.lean ====
section
/-! DEFINITION. The operand forms: shifted and extended registers (00 R14, R15), immediates (30 R150, R151), bit masks
(00 R16), bit counting and reversal (00 R19), branch offsets and addresses. A form that has reserved values answers `none`
for them. -/

namespace Sys2Proof.Machine

/-- The bit vector whose bit `i` is `f i`. -/
def bitsOf : (w : Nat) → (Nat → Bool) → BitVec w
  | 0, _ => 0#0
  | w + 1, f => BitVec.cons (f w) (bitsOf w f)

/-! ## Shifts and extensions -/

/-- The shift types (00 R14). -/
inductive ShiftType where
  | lsl | lsr | asr | ror
deriving DecidableEq, Repr

/-- `DecodeShift` (00 R14). -/
def decodeShift (op : BitVec 2) : ShiftType :=
  if op = 0#2 then .lsl else if op = 1#2 then .lsr else if op = 2#2 then .asr else .ror

/-- A value shifted by an amount below its width (00 R14). -/
def shiftValue {w : Nat} (t : ShiftType) (v : BitVec w) (amount : Nat) : BitVec w :=
  match t with
  | .lsl => v <<< amount
  | .lsr => v >>> amount
  | .asr => v.sshiftRight amount
  | .ror => v.rotateRight amount

/-- The amount of a shifted register: a 32-bit form reserves `imm6[5]` = 1 (30 R150). -/
def shiftAmount (sf : BitVec 1) (imm6 : BitVec 6) : Option Nat :=
  if sf = 0#1 ∧ imm6.getLsbD 5 then none else some imm6.toNat

/-- `ShiftReg` at the operand size of `sf` (00 R14; 30 R150). -/
def State.shiftedRegister (s : State) (sf : BitVec 1) (rm : Reg) (shift : BitVec 2) (imm6 : BitVec 6) :
    Option (BitVec (datasize sf)) :=
  (shiftAmount sf imm6).map fun amount => shiftValue (decodeShift shift) (s.readXW (datasize sf) rm) amount

/-- The shifted register of an addition or subtraction, which reserves ROR (30 R150). -/
def State.shiftedAddend (s : State) (sf : BitVec 1) (rm : Reg) (shift : BitVec 2) (imm6 : BitVec 6) :
    Option (BitVec (datasize sf)) :=
  if shift = 3#2 then none else s.shiftedRegister sf rm shift imm6

/-- `DecodeRegExtend` (00 R15): whether the extension is unsigned, and the width it extends from. -/
def decodeRegExtend (option : BitVec 3) : Bool × Nat :=
  (!option.getLsbD 2, 8 <<< (option.extractLsb' 0 2).toNat)

/-- `ExtendReg` on a value (00 R15). -/
def extendValue {w : Nat} (v : BitVec w) (option : BitVec 3) (shift : Nat) : BitVec w :=
  let (unsigned, len) := decodeRegExtend option
  let len := min len (w - shift)
  let low := v.setWidth len
  (if unsigned then low.setWidth w else low.signExtend w) <<< shift

/-- The extended register of an addition or subtraction: a shift above 4 is reserved (30 R150). -/
def State.extendedRegister (s : State) (w : Nat) (rm : Reg) (option imm3 : BitVec 3) : Option (BitVec w) :=
  if imm3.toNat > 4 then none else some (extendValue (s.readXW w rm) option imm3.toNat)

/-! ## Immediates -/

/-- The immediate of an addition or subtraction (40 R204): 12 bits, shifted left by 0 or 12; other shifts are reserved. -/
def arithImmediate (w : Nat) (shift : BitVec 2) (imm12 : BitVec 12) : Option (BitVec w) :=
  if shift = 0#2 then some (imm12.setWidth w)
  else if shift = 1#2 then some ((imm12 ++ 0#12).setWidth w)
  else none

/-- The position of a wide immediate (41 R265); a 32-bit form has positions 0 and 16 only (30 R151). -/
def widePosition (sf : BitVec 1) (hw : BitVec 2) : Option Nat :=
  if sf = 0#1 ∧ hw.getLsbD 1 then none else some (16 * hw.toNat)

/-- `HighestSetBit` (00 R19); `none` is -1. -/
def highestSetBit {w : Nat} (v : BitVec w) : Option Nat := if v = 0#w then none else some v.toNat.log2

/-- `DecodeBitMasks` (00 R16): `(wmask, tmask)` of `w` bits, `none` for the reserved values. -/
def decodeBitMasks (w : Nat) (immN : BitVec 1) (imms immr : BitVec 6) (immediate : Bool) :
    Option (BitVec w × BitVec w) :=
  match highestSetBit (immN ++ ~~~imms) with
  | none => none
  | some 0 => none
  | some len =>
    let esize := 2 ^ len
    let ones := imms.toNat % esize
    let rotation := immr.toNat % esize
    if immediate ∧ ones = esize - 1 then none
    else
      let d := (ones + esize - rotation) % esize
      some (bitsOf w fun i => decide ((i + rotation) % esize ≤ ones), bitsOf w fun i => decide (i % esize ≤ d))

/-- The bit mask of a logical immediate; a 32-bit form reserves N = 1 (30 R150). -/
def logicalImmediate (sf n : BitVec 1) (imms immr : BitVec 6) : Option (BitVec (datasize sf)) :=
  if sf = 0#1 ∧ n ≠ 0#1 then none
  else (decodeBitMasks (datasize sf) n imms immr true).map Prod.fst

/-- The masks of a bitfield move; N must equal `sf`, and a 32-bit form reserves `immr[5]` and `imms[5]` (30 R150). -/
def bitfieldMasks (sf n : BitVec 1) (immr imms : BitVec 6) :
    Option (BitVec (datasize sf) × BitVec (datasize sf)) :=
  if n ≠ sf ∨ (sf = 0#1 ∧ (immr.getLsbD 5 ∨ imms.getLsbD 5)) then none
  else decodeBitMasks (datasize sf) n imms immr false

/-- The offset of a branch or of a literal: a signed count of words (45 R430; 46 R461). -/
def wordOffset {w : Nat} (imm : BitVec w) : Addr := (imm ++ 0#2).signExtend 64

/-- The link value of BL and BLR (45 R430(d)). -/
def State.link (s : State) : Addr := s.pc + 4#64

/-! ## Counting and reversing bits -/

/-- `CountLeadingZeroBits` (00 R19). -/
def countLeadingZeroBits {w : Nat} (v : BitVec w) : Nat :=
  match highestSetBit v with
  | none => w
  | some k => w - 1 - k

/-- `CountLeadingSignBits` (00 R19). -/
def countLeadingSignBits {w : Nat} (v : BitVec w) : Nat :=
  countLeadingZeroBits (v.extractLsb' 1 (w - 1) ^^^ v.extractLsb' 0 (w - 1))

/-- `BitReverse` (00 R19). -/
def bitReverse {w : Nat} (v : BitVec w) : BitVec w := bitsOf w fun i => v.getLsbD (w - 1 - i)

/-- The bytes of every container of `c` bytes in reverse order (42 R318). -/
def reverseBytes {w : Nat} (c : Nat) (v : BitVec w) : BitVec w :=
  bitsOf w fun i =>
    let byte := i / 8
    v.getLsbD (8 * (c * (byte / c) + (c - 1 - byte % c)) + i % 8)

/-- The reduction of `Poly32Mod2` from bit `31 + k` downwards (00 R19). -/
def polyReduce {w : Nat} (poly : BitVec 32) : Nat → BitVec w → BitVec w
  | 0, data => data
  | k + 1, data =>
    polyReduce poly k (if data.getLsbD (32 + k) then data ^^^ (poly.setWidth w <<< k) else data)

/-- `Poly32Mod2` (00 R19). -/
def poly32Mod2 {w : Nat} (data : BitVec w) (poly : BitVec 32) : BitVec 32 :=
  (polyReduce poly (w - 32) data).setWidth 32

/-- The size in bits of a CRC32 operand; 64 bits exactly when `sf` is 1 (44 R391). -/
def crcSize (sf : BitVec 1) (sz : BitVec 2) : Option Nat :=
  if sf = 1#1 ↔ sz = 3#2 then some (8 <<< sz.toNat) else none

/-- The CRC of the low `size` bits of `val` onto `acc` (44 R391). -/
def crc32Value (poly acc : BitVec 32) (val : DWord) (size : Nat) : BitVec 32 :=
  let tempacc : BitVec (32 + size) := bitReverse acc ++ 0#size
  let tempval : BitVec (32 + size) := (bitReverse (val.setWidth size)).setWidth (32 + size) <<< 32
  bitReverse (poly32Mod2 (tempacc ^^^ tempval) poly)

end Sys2Proof.Machine
end

