-- ==== Sys2Proof/Machine/LoadStore.lean ====
section
/-! DEFINITION. Loads and stores of one register, and prefetches (46 R460 to R529). -/

namespace Sys2Proof.Machine

/-- The bytes of a form whose size bit selects a word or a doubleword (46 R462). -/
def wordBytes (size0 : BitVec 1) : Nat := if size0 = 1#1 then 8 else 4

/-- The log2 of the bytes of such a form. -/
def wordScale (size0 : BitVec 1) : Nat := if size0 = 1#1 then 3 else 2

/-- How loaded data is extended to the register: with zeros, or with its sign to `regsize` bits and then with zeros
(46 R460(e)). -/
inductive Extension where
  | zero
  | sign (regsize : Nat)
deriving DecidableEq, Repr

/-- The register value of loaded data (46 R460(e)). -/
def Extension.apply {w : Nat} (ext : Extension) (v : BitVec w) : DWord :=
  match ext with
  | .zero => v.setWidth 64
  | .sign regsize => (v.signExtend regsize).setWidth 64

/-- The sign extension that `opc<0>` selects: 1 a 32-bit register, 0 a 64-bit register (46 R466). -/
def signedTo (opc0 : BitVec 1) : Extension := .sign (if opc0 = 1#1 then 32 else 64)

/-- The addressing forms (46 R460(c)). -/
inductive Indexing where
  | post | pre | offset
deriving DecidableEq, Repr

/-- The form writes the base register. -/
def Indexing.writesBack : Indexing → Bool
  | .post => true
  | .pre => true
  | .offset => false

/-- The address of the access (46 R461 step 3). -/
def Indexing.address (mode : Indexing) (base offset : Addr) : Addr :=
  match mode with
  | .post => base
  | .pre => base + offset
  | .offset => base + offset

/-- What becomes of the base register (46 R461 steps 1, 5). -/
inductive Writeback where
  | none | address | unknown
deriving DecidableEq, Repr

/-- The writeback of a form that meets no overlap. -/
def Indexing.writeback (mode : Indexing) : Writeback := if mode.writesBack then .address else .none

/-- Step 5 of 46 R461; an UNKNOWN writeback makes the base UNKNOWN (log 34). -/
def State.writeBack (s : State) (wb : Writeback) (n : Reg) (a : Addr) : State :=
  match wb with
  | .none => s
  | .address => s.writeXsp n a
  | .unknown => (s.drawn 1).writeXsp n s.unknown

/-- The site at which a load writes back a base register that it loads (46 R461 step 1; log 8). -/
def atLoadWriteback (s : State) (overlap : Bool) (mode : Indexing) (k : Writeback → Result) : Result :=
  if overlap then
    match s.cfg.constrain.ldWbackOverlap with
    | .wbSuppress => k .none
    | .unknown => k .unknown
    | .undef => raise s .undefined
    | .nop => .next s.advance
  else k mode.writeback

/-- The site at which a store writes back a base register that it stores; `k` is told whether the stored value is
UNKNOWN (46 R461 step 1; log 8). -/
def atStoreWriteback (s : State) (overlap : Bool) (k : Bool → Result) : Result :=
  if overlap then
    match s.cfg.constrain.stWbackOverlap with
    | .none => k false
    | .unknown => k true
    | .undef => raise s .undefined
    | .nop => .next s.advance
  else k false

/-- A load of one register: `LSImm` and `LSOff` (46 R461, R500(c)). -/
def loadRegister (bytes : Nat) (ext : Extension) (acc : AccType) (mode : Indexing) (n t : Reg) (offset : Addr)
    (s : State) : Result :=
  atLoadWriteback s (mode.writesBack && decide (n = t) && decide (n ≠ 31#5)) mode fun wb =>
    finish s do
      let base ← s.baseAddress n
      let data ← s.memRead (mode.address base offset) bytes acc
      return (s.writeX t (ext.apply data)).writeBack wb n (base + offset)

/-- A store of one register: `LSImm` and `LSOff` (46 R461, R500(c)). -/
def storeRegister (bytes : Nat) (acc : AccType) (mode : Indexing) (n t : Reg) (offset : Addr) (s : State) : Result :=
  atStoreWriteback s (mode.writesBack && decide (n = t) && decide (n ≠ 31#5)) fun isUnknown =>
    finish s do
      let base ← s.baseAddress n
      let data := if isUnknown then s.unknown else s.readX t
      let stored ← s.memWrite (mode.address base offset) bytes data acc
      return (stored.drawn (if isUnknown then 1 else 0)).writeBack mode.writeback n (base + offset)

/-- The offset of a register-offset form: `option<1>` = 0 is unallocated (46 R500(d)). -/
def State.indexOffset (s : State) (rm : Reg) (option : BitVec 3) (shift : Nat) : Option Addr :=
  if option.getLsbD 1 then some (extendValue (s.readX rm) option shift) else none

/-- The shift of a register-offset form: the log2 of the access size when `S` is 1 (46 R500(d)). -/
def indexShift (s1 : BitVec 1) (scale : Nat) : Nat := if s1 = 1#1 then scale else 0

/-- A load from a register offset (46 R501). -/
def loadIndexed (bytes : Nat) (ext : Extension) (rm : Reg) (option : BitVec 3) (shift : Nat) (n t : Reg)
    (s : State) : Result :=
  match s.indexOffset rm option shift with
  | some offset => loadRegister bytes ext .normal .offset n t offset s
  | none => raise s .undefined

/-- A store to a register offset (46 R508). -/
def storeIndexed (bytes : Nat) (rm : Reg) (option : BitVec 3) (shift : Nat) (n t : Reg) (s : State) : Result :=
  match s.indexOffset rm option shift with
  | some offset => storeRegister bytes .normal .offset n t offset s
  | none => raise s .undefined

/-- The scaled offset of an unsigned-offset form (46 R460(c)). -/
def scaledOffset (imm12 : BitVec 12) (scale : Nat) : Addr := imm12.setWidth 64 <<< scale

/-- A load from a label (46 R463). -/
def loadLiteral (bytes : Nat) (ext : Extension) (imm19 : BitVec 19) (t : Reg) (s : State) : Result :=
  finish s ((s.memRead (s.pc + wordOffset imm19) bytes .normal).map fun data => s.writeX t (ext.apply data))

/-- A prefetch: nothing but the next instruction, and no abort (20 R135; 46 R470). -/
def prefetch (s : State) : Result := .next s.advance

/-- A prefetch at a register offset, whose decode has the check of 46 R500(d) (46 R507). -/
def prefetchIndexed (rm : Reg) (option : BitVec 3) (shift : Nat) (s : State) : Result :=
  match s.indexOffset rm option shift with
  | some _ => prefetch s
  | none => raise s .undefined

/-! ## The meanings -/

/-- LDR (immediate, post-index) (46 R462). -/
def execLdrImmediatePostIndex (size0 : BitVec 1) (imm9 : BitVec 9) (rn rt : Reg) (s : State) : Result :=
  loadRegister (wordBytes size0) .zero .normal .post rn rt (imm9.signExtend 64) s

/-- LDR (immediate, pre-index) (46 R462). -/
def execLdrImmediatePreIndex (size0 : BitVec 1) (imm9 : BitVec 9) (rn rt : Reg) (s : State) : Result :=
  loadRegister (wordBytes size0) .zero .normal .pre rn rt (imm9.signExtend 64) s

/-- LDR (immediate, unsigned offset) (46 R462). -/
def execLdrImmediateUnsignedOffset (size0 : BitVec 1) (imm12 : BitVec 12) (rn rt : Reg) (s : State) : Result :=
  loadRegister (wordBytes size0) .zero .normal .offset rn rt (scaledOffset imm12 (wordScale size0)) s

/-- LDR (literal) (46 R463). -/
def execLdrLiteral (opc0 : BitVec 1) (imm19 : BitVec 19) (rt : Reg) (s : State) : Result :=
  loadLiteral (wordBytes opc0) .zero imm19 rt s

/-- LDR (register) (46 R501). -/
def execLdrRegister (size0 : BitVec 1) (rm : Reg) (option : BitVec 3) (s1 : BitVec 1) (rn rt : Reg) (s : State) :
    Result :=
  loadIndexed (wordBytes size0) .zero rm option (indexShift s1 (wordScale size0)) rn rt s

/-- LDRB (immediate, post-index) (46 R464). -/
def execLdrbImmediatePostIndex (imm9 : BitVec 9) (rn rt : Reg) (s : State) : Result :=
  loadRegister 1 .zero .normal .post rn rt (imm9.signExtend 64) s

/-- LDRB (immediate, pre-index) (46 R464). -/
def execLdrbImmediatePreIndex (imm9 : BitVec 9) (rn rt : Reg) (s : State) : Result :=
  loadRegister 1 .zero .normal .pre rn rt (imm9.signExtend 64) s

/-- LDRB (immediate, unsigned offset) (46 R464). -/
def execLdrbImmediateUnsignedOffset (imm12 : BitVec 12) (rn rt : Reg) (s : State) : Result :=
  loadRegister 1 .zero .normal .offset rn rt (scaledOffset imm12 0) s

/-- LDRB (register) (46 R502). -/
def execLdrbRegister (rm : Reg) (option : BitVec 3) (_s1 : BitVec 1) (rn rt : Reg) (s : State) : Result :=
  loadIndexed 1 .zero rm option 0 rn rt s

/-- LDRH (immediate, post-index) (46 R465). -/
def execLdrhImmediatePostIndex (imm9 : BitVec 9) (rn rt : Reg) (s : State) : Result :=
  loadRegister 2 .zero .normal .post rn rt (imm9.signExtend 64) s

/-- LDRH (immediate, pre-index) (46 R465). -/
def execLdrhImmediatePreIndex (imm9 : BitVec 9) (rn rt : Reg) (s : State) : Result :=
  loadRegister 2 .zero .normal .pre rn rt (imm9.signExtend 64) s

/-- LDRH (immediate, unsigned offset) (46 R465). -/
def execLdrhImmediateUnsignedOffset (imm12 : BitVec 12) (rn rt : Reg) (s : State) : Result :=
  loadRegister 2 .zero .normal .offset rn rt (scaledOffset imm12 1) s

/-- LDRH (register) (46 R503). -/
def execLdrhRegister (rm : Reg) (option : BitVec 3) (s1 : BitVec 1) (rn rt : Reg) (s : State) : Result :=
  loadIndexed 2 .zero rm option (indexShift s1 1) rn rt s

/-- LDRSB (immediate, post-index) (46 R466). -/
def execLdrsbImmediatePostIndex (opc0 : BitVec 1) (imm9 : BitVec 9) (rn rt : Reg) (s : State) : Result :=
  loadRegister 1 (signedTo opc0) .normal .post rn rt (imm9.signExtend 64) s

/-- LDRSB (immediate, pre-index) (46 R466). -/
def execLdrsbImmediatePreIndex (opc0 : BitVec 1) (imm9 : BitVec 9) (rn rt : Reg) (s : State) : Result :=
  loadRegister 1 (signedTo opc0) .normal .pre rn rt (imm9.signExtend 64) s

/-- LDRSB (immediate, unsigned offset) (46 R466). -/
def execLdrsbImmediateUnsignedOffset (opc0 : BitVec 1) (imm12 : BitVec 12) (rn rt : Reg) (s : State) : Result :=
  loadRegister 1 (signedTo opc0) .normal .offset rn rt (scaledOffset imm12 0) s

/-- LDRSB (register) (46 R504). -/
def execLdrsbRegister (opc0 : BitVec 1) (rm : Reg) (option : BitVec 3) (_s1 : BitVec 1) (rn rt : Reg) (s : State)
    : Result :=
  loadIndexed 1 (signedTo opc0) rm option 0 rn rt s

/-- LDRSH (immediate, post-index) (46 R467). -/
def execLdrshImmediatePostIndex (opc0 : BitVec 1) (imm9 : BitVec 9) (rn rt : Reg) (s : State) : Result :=
  loadRegister 2 (signedTo opc0) .normal .post rn rt (imm9.signExtend 64) s

/-- LDRSH (immediate, pre-index) (46 R467). -/
def execLdrshImmediatePreIndex (opc0 : BitVec 1) (imm9 : BitVec 9) (rn rt : Reg) (s : State) : Result :=
  loadRegister 2 (signedTo opc0) .normal .pre rn rt (imm9.signExtend 64) s

/-- LDRSH (immediate, unsigned offset) (46 R467). -/
def execLdrshImmediateUnsignedOffset (opc0 : BitVec 1) (imm12 : BitVec 12) (rn rt : Reg) (s : State) : Result :=
  loadRegister 2 (signedTo opc0) .normal .offset rn rt (scaledOffset imm12 1) s

/-- LDRSH (register) (46 R505). -/
def execLdrshRegister (opc0 : BitVec 1) (rm : Reg) (option : BitVec 3) (s1 : BitVec 1) (rn rt : Reg) (s : State) :
    Result :=
  loadIndexed 2 (signedTo opc0) rm option (indexShift s1 1) rn rt s

/-- LDRSW (immediate, post-index) (46 R468). -/
def execLdrswImmediatePostIndex (imm9 : BitVec 9) (rn rt : Reg) (s : State) : Result :=
  loadRegister 4 (.sign 64) .normal .post rn rt (imm9.signExtend 64) s

/-- LDRSW (immediate, pre-index) (46 R468). -/
def execLdrswImmediatePreIndex (imm9 : BitVec 9) (rn rt : Reg) (s : State) : Result :=
  loadRegister 4 (.sign 64) .normal .pre rn rt (imm9.signExtend 64) s

/-- LDRSW (immediate, unsigned offset) (46 R468). -/
def execLdrswImmediateUnsignedOffset (imm12 : BitVec 12) (rn rt : Reg) (s : State) : Result :=
  loadRegister 4 (.sign 64) .normal .offset rn rt (scaledOffset imm12 2) s

/-- LDRSW (literal) (46 R469). -/
def execLdrswLiteral (imm19 : BitVec 19) (rt : Reg) (s : State) : Result :=
  loadLiteral 4 (.sign 64) imm19 rt s

/-- LDRSW (register) (46 R506). -/
def execLdrswRegister (rm : Reg) (option : BitVec 3) (s1 : BitVec 1) (rn rt : Reg) (s : State) : Result :=
  loadIndexed 4 (.sign 64) rm option (indexShift s1 2) rn rt s

/-- LDTR (46 R511). -/
def execLdtr (size0 : BitVec 1) (imm9 : BitVec 9) (rn rt : Reg) (s : State) : Result :=
  loadRegister (wordBytes size0) .zero .unpriv .offset rn rt (imm9.signExtend 64) s

/-- LDTRB (46 R512). -/
def execLdtrb (imm9 : BitVec 9) (rn rt : Reg) (s : State) : Result :=
  loadRegister 1 .zero .unpriv .offset rn rt (imm9.signExtend 64) s

/-- LDTRH (46 R513). -/
def execLdtrh (imm9 : BitVec 9) (rn rt : Reg) (s : State) : Result :=
  loadRegister 2 .zero .unpriv .offset rn rt (imm9.signExtend 64) s

/-- LDTRSB (46 R514). -/
def execLdtrsb (opc0 : BitVec 1) (imm9 : BitVec 9) (rn rt : Reg) (s : State) : Result :=
  loadRegister 1 (signedTo opc0) .unpriv .offset rn rt (imm9.signExtend 64) s

/-- LDTRSH (46 R515). -/
def execLdtrsh (opc0 : BitVec 1) (imm9 : BitVec 9) (rn rt : Reg) (s : State) : Result :=
  loadRegister 2 (signedTo opc0) .unpriv .offset rn rt (imm9.signExtend 64) s

/-- LDTRSW (46 R516). -/
def execLdtrsw (imm9 : BitVec 9) (rn rt : Reg) (s : State) : Result :=
  loadRegister 4 (.sign 64) .unpriv .offset rn rt (imm9.signExtend 64) s

/-- LDUR (46 R520). -/
def execLdur (size0 : BitVec 1) (imm9 : BitVec 9) (rn rt : Reg) (s : State) : Result :=
  loadRegister (wordBytes size0) .zero .normal .offset rn rt (imm9.signExtend 64) s

/-- LDURB (46 R521). -/
def execLdurb (imm9 : BitVec 9) (rn rt : Reg) (s : State) : Result :=
  loadRegister 1 .zero .normal .offset rn rt (imm9.signExtend 64) s

/-- LDURH (46 R522). -/
def execLdurh (imm9 : BitVec 9) (rn rt : Reg) (s : State) : Result :=
  loadRegister 2 .zero .normal .offset rn rt (imm9.signExtend 64) s

/-- LDURSB (46 R523). -/
def execLdursb (opc0 : BitVec 1) (imm9 : BitVec 9) (rn rt : Reg) (s : State) : Result :=
  loadRegister 1 (signedTo opc0) .normal .offset rn rt (imm9.signExtend 64) s

/-- LDURSH (46 R524). -/
def execLdursh (opc0 : BitVec 1) (imm9 : BitVec 9) (rn rt : Reg) (s : State) : Result :=
  loadRegister 2 (signedTo opc0) .normal .offset rn rt (imm9.signExtend 64) s

/-- LDURSW (46 R525). -/
def execLdursw (imm9 : BitVec 9) (rn rt : Reg) (s : State) : Result :=
  loadRegister 4 (.sign 64) .normal .offset rn rt (imm9.signExtend 64) s

/-- PRFM (immediate) (46 R470). -/
def execPrfmImmediate (_imm12 : BitVec 12) (_rn _rt : Reg) (s : State) : Result :=
  prefetch s

/-- PRFM (literal) (46 R471). -/
def execPrfmLiteral (_imm19 : BitVec 19) (_rt : Reg) (s : State) : Result :=
  prefetch s

/-- PRFM (register) (46 R507). -/
def execPrfmRegister (rm : Reg) (option : BitVec 3) (s1 : BitVec 1) (_rn _rt : Reg) (s : State) : Result :=
  prefetchIndexed rm option (indexShift s1 3) s

/-- PRFUM (46 R526). -/
def execPrfum (_imm9 : BitVec 9) (_rn _rt : Reg) (s : State) : Result :=
  prefetch s

/-- STR (immediate, post-index) (46 R472). -/
def execStrImmediatePostIndex (size0 : BitVec 1) (imm9 : BitVec 9) (rn rt : Reg) (s : State) : Result :=
  storeRegister (wordBytes size0) .normal .post rn rt (imm9.signExtend 64) s

/-- STR (immediate, pre-index) (46 R472). -/
def execStrImmediatePreIndex (size0 : BitVec 1) (imm9 : BitVec 9) (rn rt : Reg) (s : State) : Result :=
  storeRegister (wordBytes size0) .normal .pre rn rt (imm9.signExtend 64) s

/-- STR (immediate, unsigned offset) (46 R472). -/
def execStrImmediateUnsignedOffset (size0 : BitVec 1) (imm12 : BitVec 12) (rn rt : Reg) (s : State) : Result :=
  storeRegister (wordBytes size0) .normal .offset rn rt (scaledOffset imm12 (wordScale size0)) s

/-- STR (register) (46 R508). -/
def execStrRegister (size0 : BitVec 1) (rm : Reg) (option : BitVec 3) (s1 : BitVec 1) (rn rt : Reg) (s : State) :
    Result :=
  storeIndexed (wordBytes size0) rm option (indexShift s1 (wordScale size0)) rn rt s

/-- STRB (immediate, post-index) (46 R473). -/
def execStrbImmediatePostIndex (imm9 : BitVec 9) (rn rt : Reg) (s : State) : Result :=
  storeRegister 1 .normal .post rn rt (imm9.signExtend 64) s

/-- STRB (immediate, pre-index) (46 R473). -/
def execStrbImmediatePreIndex (imm9 : BitVec 9) (rn rt : Reg) (s : State) : Result :=
  storeRegister 1 .normal .pre rn rt (imm9.signExtend 64) s

/-- STRB (immediate, unsigned offset) (46 R473). -/
def execStrbImmediateUnsignedOffset (imm12 : BitVec 12) (rn rt : Reg) (s : State) : Result :=
  storeRegister 1 .normal .offset rn rt (scaledOffset imm12 0) s

/-- STRB (register) (46 R509). -/
def execStrbRegister (rm : Reg) (option : BitVec 3) (_s1 : BitVec 1) (rn rt : Reg) (s : State) : Result :=
  storeIndexed 1 rm option 0 rn rt s

/-- STRH (immediate, post-index) (46 R474). -/
def execStrhImmediatePostIndex (imm9 : BitVec 9) (rn rt : Reg) (s : State) : Result :=
  storeRegister 2 .normal .post rn rt (imm9.signExtend 64) s

/-- STRH (immediate, pre-index) (46 R474). -/
def execStrhImmediatePreIndex (imm9 : BitVec 9) (rn rt : Reg) (s : State) : Result :=
  storeRegister 2 .normal .pre rn rt (imm9.signExtend 64) s

/-- STRH (immediate, unsigned offset) (46 R474). -/
def execStrhImmediateUnsignedOffset (imm12 : BitVec 12) (rn rt : Reg) (s : State) : Result :=
  storeRegister 2 .normal .offset rn rt (scaledOffset imm12 1) s

/-- STRH (register) (46 R510). -/
def execStrhRegister (rm : Reg) (option : BitVec 3) (s1 : BitVec 1) (rn rt : Reg) (s : State) : Result :=
  storeIndexed 2 rm option (indexShift s1 1) rn rt s

/-- STTR (46 R517). -/
def execSttr (size0 : BitVec 1) (imm9 : BitVec 9) (rn rt : Reg) (s : State) : Result :=
  storeRegister (wordBytes size0) .unpriv .offset rn rt (imm9.signExtend 64) s

/-- STTRB (46 R518). -/
def execSttrb (imm9 : BitVec 9) (rn rt : Reg) (s : State) : Result :=
  storeRegister 1 .unpriv .offset rn rt (imm9.signExtend 64) s

/-- STTRH (46 R519). -/
def execSttrh (imm9 : BitVec 9) (rn rt : Reg) (s : State) : Result :=
  storeRegister 2 .unpriv .offset rn rt (imm9.signExtend 64) s

/-- STUR (46 R527). -/
def execStur (size0 : BitVec 1) (imm9 : BitVec 9) (rn rt : Reg) (s : State) : Result :=
  storeRegister (wordBytes size0) .normal .offset rn rt (imm9.signExtend 64) s

/-- STURB (46 R528). -/
def execSturb (imm9 : BitVec 9) (rn rt : Reg) (s : State) : Result :=
  storeRegister 1 .normal .offset rn rt (imm9.signExtend 64) s

/-- STURH (46 R529). -/
def execSturh (imm9 : BitVec 9) (rn rt : Reg) (s : State) : Result :=
  storeRegister 2 .normal .offset rn rt (imm9.signExtend 64) s

end Sys2Proof.Machine
end

