-- ==== Sys2Proof/Machine/Pair.lean ====
section
/-! DEFINITION. Loads and stores of register pairs (47 R540 to R545). -/

namespace Sys2Proof.Machine

/-- The `i`-th UNKNOWN value to come (00 R12; log 7). -/
def State.unknownAt (s : State) (i : Nat) : DWord := Config.unknown (s.draws + i)

/-- The offset of a pair form: a signed count of elements (47 R540(b)). -/
def pairOffset (imm7 : BitVec 7) (scale : Nat) : Addr := imm7.signExtend 64 <<< scale

/-- The site at which a load pair names one register twice; `k` is told whether the result is UNKNOWN (47 R540(d)). -/
def atLoadPair (s : State) (same : Bool) (k : Bool → Result) : Result :=
  if same then
    match s.cfg.constrain.ldPairOverlap with
    | .unknown => k true
    | .undef => raise s .undefined
    | .nop => .next s.advance
  else k false

/-- A load of a pair: `LSPair` (47 R540(d)). -/
def loadPair (bytes : Nat) (ext : Extension) (acc : AccType) (mode : Indexing) (n t t2 : Reg) (offset : Addr)
    (s : State) : Result :=
  atLoadWriteback s (mode.writesBack && (decide (t = n) || decide (t2 = n)) && decide (n ≠ 31#5)) mode fun wb =>
    atLoadPair s (decide (t = t2)) fun isUnknown =>
      finish s do
        let base ← s.baseAddress n
        let address := mode.address base offset
        let data1 ← s.memRead address bytes acc
        let data2 ← s.memRead (address + BitVec.ofNat 64 bytes) bytes acc
        let data1 := if isUnknown then (s.unknownAt 0).setWidth (8 * bytes) else data1
        let data2 := if isUnknown then (s.unknownAt 1).setWidth (8 * bytes) else data2
        let loaded := (s.writeX t (ext.apply data1)).writeX t2 (ext.apply data2)
        return (loaded.drawn (if isUnknown then 2 else 0)).writeBack wb n (base + offset)

/-- A store of a pair: `LSPair`; both accesses are checked before either writes (47 R540(d); 20 R115). Of the UNKNOWN
choice, only the element whose register is the base is UNKNOWN (47 R545). -/
def storePair (bytes : Nat) (acc : AccType) (mode : Indexing) (n t t2 : Reg) (offset : Addr) (s : State) : Result :=
  atStoreWriteback s (mode.writesBack && (decide (t = n) || decide (t2 = n)) && decide (n ≠ 31#5)) fun isUnknown =>
    finish s do
      let base ← s.baseAddress n
      let address1 := mode.address base offset
      let address2 := address1 + BitVec.ofNat 64 bytes
      s.checkAccess address1 bytes acc .write false
      s.checkAccess address2 bytes acc .write false
      let data1 := if isUnknown ∧ t = n then s.unknownAt 0 else s.readX t
      let data2 := if isUnknown ∧ t2 = n then s.unknownAt 1 else s.readX t2
      let stored := (s.storeBytes address1 bytes data1).storeBytes address2 bytes data2
      return (stored.drawn (if isUnknown then 2 else 0)).writeBack mode.writeback n (base + offset)

/-! ## The meanings -/

/-- LDNP (47 R541). -/
def execLdnp (opc1 : BitVec 1) (imm7 : BitVec 7) (rt2 rn rt : Reg) (s : State) : Result :=
  loadPair (wordBytes opc1) .zero .stream .offset rn rt rt2 (pairOffset imm7 (wordScale opc1)) s

/-- LDP (post-index) (47 R542). -/
def execLdpPostIndex (opc1 : BitVec 1) (imm7 : BitVec 7) (rt2 rn rt : Reg) (s : State) : Result :=
  loadPair (wordBytes opc1) .zero .normal .post rn rt rt2 (pairOffset imm7 (wordScale opc1)) s

/-- LDP (pre-index) (47 R542). -/
def execLdpPreIndex (opc1 : BitVec 1) (imm7 : BitVec 7) (rt2 rn rt : Reg) (s : State) : Result :=
  loadPair (wordBytes opc1) .zero .normal .pre rn rt rt2 (pairOffset imm7 (wordScale opc1)) s

/-- LDP (signed offset) (47 R542). -/
def execLdpSignedOffset (opc1 : BitVec 1) (imm7 : BitVec 7) (rt2 rn rt : Reg) (s : State) : Result :=
  loadPair (wordBytes opc1) .zero .normal .offset rn rt rt2 (pairOffset imm7 (wordScale opc1)) s

/-- LDPSW (post-index) (47 R543). -/
def execLdpswPostIndex (imm7 : BitVec 7) (rt2 rn rt : Reg) (s : State) : Result :=
  loadPair 4 (.sign 64) .normal .post rn rt rt2 (pairOffset imm7 2) s

/-- LDPSW (pre-index) (47 R543). -/
def execLdpswPreIndex (imm7 : BitVec 7) (rt2 rn rt : Reg) (s : State) : Result :=
  loadPair 4 (.sign 64) .normal .pre rn rt rt2 (pairOffset imm7 2) s

/-- LDPSW (signed offset) (47 R543). -/
def execLdpswSignedOffset (imm7 : BitVec 7) (rt2 rn rt : Reg) (s : State) : Result :=
  loadPair 4 (.sign 64) .normal .offset rn rt rt2 (pairOffset imm7 2) s

/-- STNP (47 R544). -/
def execStnp (opc1 : BitVec 1) (imm7 : BitVec 7) (rt2 rn rt : Reg) (s : State) : Result :=
  storePair (wordBytes opc1) .stream .offset rn rt rt2 (pairOffset imm7 (wordScale opc1)) s

/-- STP (post-index) (47 R545). -/
def execStpPostIndex (opc1 : BitVec 1) (imm7 : BitVec 7) (rt2 rn rt : Reg) (s : State) : Result :=
  storePair (wordBytes opc1) .normal .post rn rt rt2 (pairOffset imm7 (wordScale opc1)) s

/-- STP (pre-index) (47 R545). -/
def execStpPreIndex (opc1 : BitVec 1) (imm7 : BitVec 7) (rt2 rn rt : Reg) (s : State) : Result :=
  storePair (wordBytes opc1) .normal .pre rn rt rt2 (pairOffset imm7 (wordScale opc1)) s

/-- STP (signed offset) (47 R545). -/
def execStpSignedOffset (opc1 : BitVec 1) (imm7 : BitVec 7) (rt2 rn rt : Reg) (s : State) : Result :=
  storePair (wordBytes opc1) .normal .offset rn rt rt2 (pairOffset imm7 (wordScale opc1)) s

end Sys2Proof.Machine
end

