-- ==== Sys2Proof/Machine/Exclusive.lean ====
section
/-! DEFINITION. Exclusive and ordered loads and stores (47 R560 to R588). -/

namespace Sys2Proof.Machine

/-- An instruction of a feature that a parameter turns off is UNDEFINED (30 R147). -/
def whenFeature (have_ : Bool) (s : State) (r : Result) : Result := if have_ then r else raise s .undefined

/-- `LdOrd` (47 R560(c)). -/
def loadOrdered (bytes : Nat) (acc : AccType) (n t : Reg) (s : State) : Result :=
  finish s do
    let address ← s.baseAddress n
    let data ← s.memRead address bytes acc
    return s.writeX t data

/-- `StOrd` (47 R560(c)). -/
def storeOrdered (bytes : Nat) (acc : AccType) (n t : Reg) (s : State) : Result :=
  finish s do
    let address ← s.baseAddress n
    s.memWrite address bytes (s.readX t) acc

/-- `LdExcl` (47 R560(c)). -/
def loadExclusive (bytes : Nat) (acc : AccType) (n t : Reg) (s : State) : Result :=
  finish s do
    let address ← s.baseAddress n
    let data ← s.memRead address bytes acc
    return (s.setMonitor address bytes).writeX t data

/-- The two elements of a pair that one access moves: the first is at the lower address in both byte orders
(20 R96). -/
def State.splitPair {w : Nat} (s : State) (data : BitVec (w + w)) : BitVec w × BitVec w :=
  let high := data.extractLsb' w w
  let low := data.extractLsb' 0 w
  if s.bigEndian then (high, low) else (low, high)

/-- The value that one access of a pair moves (20 R96). -/
def State.joinPair {w : Nat} (s : State) (e1 e2 : BitVec w) : BitVec (w + w) :=
  if s.bigEndian then e1 ++ e2 else e2 ++ e1

/-- A load-exclusive of a pair: a pair of words is one access, a pair of doublewords two, at a 16-byte aligned address
(47 R560(e)). Of one register named twice, the UNKNOWN choice sets the monitor and reads no memory. -/
def loadExclusivePair (sz : BitVec 1) (acc : AccType) (n t t2 : Reg) (s : State) : Result :=
  atLoadPair s (decide (t = t2)) fun isUnknown =>
    finish s do
      let address ← s.baseAddress n
      if isUnknown then
        return ((s.setMonitor address (2 * wordBytes sz)).writeX t s.unknown).drawn 1
      else
        s.checkPair address (wordBytes sz) acc .read false
        if sz = 0#1 then
          let elements := s.splitPair (w := 32) (s.loadBytes address 8)
          return ((s.setMonitor address 8).writeX t elements.1).writeX t2 elements.2
        else
          return ((s.setMonitor address 16).writeX t (s.loadBytes address 8)).writeX t2 (s.loadBytes (address + 8#64) 8)

/-- A site at which the status register of a store-exclusive is also a data or base register; `k` is told whether the
value is UNKNOWN (47 R560(d); log 8, 19). -/
def atStoreExclusive (s : State) (choice : StoreExclusiveChoice) (overlap : Bool) (k : Bool → Result) : Result :=
  if overlap then
    match choice with
    | .unknown => k true
    | .none => k false
    | .undef => raise s .undefined
    | .nop => .next s.advance
  else k false

/-- What a store-exclusive stores. -/
inductive ExclusiveData where
  | one (bytes : Nat)
  | pair (bytes : Nat)
deriving DecidableEq, Repr

/-- The bytes that a store-exclusive stores. -/
def ExclusiveData.bytes : ExclusiveData → Nat
  | .one n => n
  | .pair n => 2 * n

/-- The checks of a store-exclusive; of a pair, those of the element at the lower address come first (60 R803(8);
log 38). -/
def State.checkExclusive (s : State) (size : ExclusiveData) (a : Addr) (acc : AccType) : Except Exc Unit :=
  match size with
  | .one n => s.checkAccess a n acc .write true
  | .pair n => s.checkPair a n acc .write true

/-- The memory part of a store-exclusive (47 R560(d) steps 5, 6; 20 R126): if the monitor passes, the store and status 0;
else status 1, and an abort only if the implementation says so (20 R101). The monitor becomes Open. -/
def State.exclusiveStore {w : Nat} (s : State) (size : ExclusiveData) (acc : AccType) (address : Addr) (data : BitVec w)
    (rs : Reg) : Except Exc State :=
  if s.monitorPasses address then do
    s.checkExclusive size address acc
    return (s.storeBytes address size.bytes data).clearMonitor.writeX rs 0#32
  else do
    if s.cfg.exFailAborts then s.checkExclusive size address acc
    return s.clearMonitor.writeX rs 1#32

/-- `StExcl` (47 R560(d)). -/
def storeExclusive {w : Nat} (size : ExclusiveData) (acc : AccType) (rs n : Reg) (dataOverlap : Bool) (data : BitVec w)
    (s : State) : Result :=
  atStoreExclusive s s.cfg.constrain.stxStatusDataOverlap dataOverlap fun dataUnknown =>
    atStoreExclusive s s.cfg.constrain.stxStatusBaseOverlap (decide (rs = n) && decide (n ≠ 31#5))
      fun addressUnknown =>
        finish s do
          let base ← s.baseAddress n
          let address := if addressUnknown then s.unknownAt 0 else base
          let value := if dataUnknown then (s.unknownAt 2 ++ s.unknownAt 1).setWidth w else data
          (s.drawn (if dataUnknown ∨ addressUnknown then 3 else 0)).exclusiveStore size acc address value rs

/-- A store-exclusive of one register. -/
def storeExclusiveOne (bytes : Nat) (acc : AccType) (rs n t : Reg) (s : State) : Result :=
  storeExclusive (.one bytes) acc rs n (decide (rs = t)) (s.readX t) s

/-- A store-exclusive of a pair, one access (47 R560(e)). -/
def storeExclusivePair (sz : BitVec 1) (acc : AccType) (rs t2 n t : Reg) (s : State) : Result :=
  storeExclusive (.pair (wordBytes sz)) acc rs n (decide (rs = t) || decide (rs = t2))
    (s.joinPair (s.readXW (8 * wordBytes sz) t) (s.readXW (8 * wordBytes sz) t2)) s

/-! ## The meanings -/

/-- LDAR (47 R561). -/
def execLdar (size0 : BitVec 1) (rn rt : Reg) (s : State) : Result :=
  loadOrdered (wordBytes size0) .ordered rn rt s

/-- LDARB (47 R562). -/
def execLdarb (rn rt : Reg) (s : State) : Result :=
  loadOrdered 1 .ordered rn rt s

/-- LDARH (47 R563). -/
def execLdarh (rn rt : Reg) (s : State) : Result :=
  loadOrdered 2 .ordered rn rt s

/-- LDAXP (47 R564). -/
def execLdaxp (sz : BitVec 1) (rt2 rn rt : Reg) (s : State) : Result :=
  loadExclusivePair sz .ordered rn rt rt2 s

/-- LDAXR (47 R565). -/
def execLdaxr (size0 : BitVec 1) (rn rt : Reg) (s : State) : Result :=
  loadExclusive (wordBytes size0) .ordered rn rt s

/-- LDAXRB (47 R566). -/
def execLdaxrb (rn rt : Reg) (s : State) : Result :=
  loadExclusive 1 .ordered rn rt s

/-- LDAXRH (47 R567). -/
def execLdaxrh (rn rt : Reg) (s : State) : Result :=
  loadExclusive 2 .ordered rn rt s

/-- LDLARB (47 R568). -/
def execLdlarb (rn rt : Reg) (s : State) : Result :=
  whenFeature s.cfg.haveLOR s (loadOrdered 1 .limitedOrdered rn rt s)

/-- LDLARH (47 R569). -/
def execLdlarh (rn rt : Reg) (s : State) : Result :=
  whenFeature s.cfg.haveLOR s (loadOrdered 2 .limitedOrdered rn rt s)

/-- LDLAR (47 R570). -/
def execLdlar (size0 : BitVec 1) (rn rt : Reg) (s : State) : Result :=
  whenFeature s.cfg.haveLOR s (loadOrdered (wordBytes size0) .limitedOrdered rn rt s)

/-- LDXP (47 R571). -/
def execLdxp (sz : BitVec 1) (rt2 rn rt : Reg) (s : State) : Result :=
  loadExclusivePair sz .atomic rn rt rt2 s

/-- LDXR (47 R572). -/
def execLdxr (size0 : BitVec 1) (rn rt : Reg) (s : State) : Result :=
  loadExclusive (wordBytes size0) .atomic rn rt s

/-- LDXRB (47 R573). -/
def execLdxrb (rn rt : Reg) (s : State) : Result :=
  loadExclusive 1 .atomic rn rt s

/-- LDXRH (47 R574). -/
def execLdxrh (rn rt : Reg) (s : State) : Result :=
  loadExclusive 2 .atomic rn rt s

/-- STLLRB (47 R575). -/
def execStllrb (rn rt : Reg) (s : State) : Result :=
  whenFeature s.cfg.haveLOR s (storeOrdered 1 .limitedOrdered rn rt s)

/-- STLLRH (47 R576). -/
def execStllrh (rn rt : Reg) (s : State) : Result :=
  whenFeature s.cfg.haveLOR s (storeOrdered 2 .limitedOrdered rn rt s)

/-- STLLR (47 R577). -/
def execStllr (size0 : BitVec 1) (rn rt : Reg) (s : State) : Result :=
  whenFeature s.cfg.haveLOR s (storeOrdered (wordBytes size0) .limitedOrdered rn rt s)

/-- STLR (47 R578). -/
def execStlr (size0 : BitVec 1) (rn rt : Reg) (s : State) : Result :=
  storeOrdered (wordBytes size0) .ordered rn rt s

/-- STLRB (47 R579). -/
def execStlrb (rn rt : Reg) (s : State) : Result :=
  storeOrdered 1 .ordered rn rt s

/-- STLRH (47 R580). -/
def execStlrh (rn rt : Reg) (s : State) : Result :=
  storeOrdered 2 .ordered rn rt s

/-- STLXP (47 R581). -/
def execStlxp (sz : BitVec 1) (rs rt2 rn rt : Reg) (s : State) : Result :=
  storeExclusivePair sz .ordered rs rt2 rn rt s

/-- STLXR (47 R582). -/
def execStlxr (size0 : BitVec 1) (rs rn rt : Reg) (s : State) : Result :=
  storeExclusiveOne (wordBytes size0) .ordered rs rn rt s

/-- STLXRB (47 R583). -/
def execStlxrb (rs rn rt : Reg) (s : State) : Result :=
  storeExclusiveOne 1 .ordered rs rn rt s

/-- STLXRH (47 R584). -/
def execStlxrh (rs rn rt : Reg) (s : State) : Result :=
  storeExclusiveOne 2 .ordered rs rn rt s

/-- STXP (47 R585). -/
def execStxp (sz : BitVec 1) (rs rt2 rn rt : Reg) (s : State) : Result :=
  storeExclusivePair sz .atomic rs rt2 rn rt s

/-- STXR (47 R586). -/
def execStxr (size0 : BitVec 1) (rs rn rt : Reg) (s : State) : Result :=
  storeExclusiveOne (wordBytes size0) .atomic rs rn rt s

/-- STXRB (47 R587). -/
def execStxrb (rs rn rt : Reg) (s : State) : Result :=
  storeExclusiveOne 1 .atomic rs rn rt s

/-- STXRH (47 R588). -/
def execStxrh (rs rn rt : Reg) (s : State) : Result :=
  storeExclusiveOne 2 .atomic rs rn rt s

end Sys2Proof.Machine
end

