-- ==== Sys2Proof/Machine/Atomics.lean ====
section
/-! DEFINITION. Compare and swap, and the atomic memory operations (48 R610 to R665). -/

namespace Sys2Proof.Machine

/-- The operations of the atomic instructions (48 R610(d)). -/
inductive AtomicOp where
  | add | clr | eor | set | smax | smin | umax | umin | swp
deriving DecidableEq, Repr

/-- What an atomic instruction stores (48 R610(d)). -/
def AtomicOp.apply {w : Nat} (op : AtomicOp) (data value : BitVec w) : BitVec w :=
  match op with
  | .add => data + value
  | .clr => data &&& ~~~value
  | .eor => data ^^^ value
  | .set => data ||| value
  | .smax => if data.toInt > value.toInt then data else value
  | .smin => if data.toInt > value.toInt then value else data
  | .umax => if data.toNat > value.toNat then data else value
  | .umin => if data.toNat > value.toNat then value else data
  | .swp => value

/-- The access type of one half of an atomic instruction (48 R610(e)). -/
def atomicAcc (ordered : Bool) : AccType := if ordered then .orderedRW else .atomicRW

/-- The checks of both halves: the location must be readable and writable (48 R610(h); log 14). -/
def State.checkAtomic (s : State) (a : Addr) (bytes : Nat) (ld st : AccType) : Except Exc Unit := do
  s.checkAccess a bytes ld .read true
  s.checkAccess a bytes st .write true

/-- The checks of an atomic access to a pair: both halves at the lower address, then both at the other (60 R803(8);
20 R100; log 38). -/
def State.checkAtomicPair (s : State) (a : Addr) (bytes : Nat) (ld st : AccType) : Except Exc Unit := do
  require (!s.misaligned a (2 * bytes) ld) (.dataAbort a .alignment false false)
  s.checkAtomic a bytes ld st
  s.checkAtomic (a + BitVec.ofNat 64 bytes) bytes ld st

/-- `AtomicLd` (48 R610(c)). An acquire form whose destination is the zero register loses the acquire (48 R610(e)). -/
def atomicLoad (op : AtomicOp) (bytes : Nat) (a r : BitVec 1) (rs n t : Reg) (s : State) : Result :=
  whenFeature s.cfg.haveAtomics s <| finish s do
    let address ← s.baseAddress n
    s.checkAtomic address bytes (atomicAcc (a = 1#1 ∧ t ≠ 31#5)) (atomicAcc (r = 1#1))
    let data := s.loadBytes address bytes
    return (s.storeBytes address bytes (op.apply data (s.readXW (8 * bytes) rs))).writeX t data

/-- Compare and swap (48 R611, R612, R614). -/
def compareAndSwap (bytes : Nat) (l : BitVec 1) (rs : Reg) (o0 : BitVec 1) (n t : Reg) (s : State) : Result :=
  whenFeature s.cfg.haveAtomics s <| finish s do
    let address ← s.baseAddress n
    s.checkAtomic address bytes (atomicAcc (l = 1#1)) (atomicAcc (o0 = 1#1))
    let data := s.loadBytes address bytes
    let stored := if data = s.readXW (8 * bytes) rs then s.storeBytes address bytes (s.readX t) else s
    return stored.writeX rs data

/-- Compare and swap of a pair, one access: odd register numbers are unallocated (48 R613). -/
def compareAndSwapPair (sz l : BitVec 1) (rs : Reg) (o0 : BitVec 1) (n t : Reg) (s : State) : Result :=
  whenFeature s.cfg.haveAtomics s <| finish s do
    require (!rs.getLsbD 0) .undefined
    require (!t.getLsbD 0) .undefined
    let w := 8 * wordBytes sz
    let address ← s.baseAddress n
    s.checkAtomicPair address (wordBytes sz) (atomicAcc (l = 1#1)) (atomicAcc (o0 = 1#1))
    let data := (s.loadBytes address (2 * wordBytes sz)).setWidth (w + w)
    let expected := s.joinPair (s.readXW w rs) (s.readXW w (rs + 1#5))
    let replacement := s.joinPair (s.readXW w t) (s.readXW w (t + 1#5))
    let stored := if data = expected then s.storeBytes address (2 * wordBytes sz) replacement else s
    let elements := s.splitPair data
    return (stored.writeX rs elements.1).writeX (rs + 1#5) elements.2

/-! ## The meanings -/

/-- CASB, CASAB, CASALB, CASLB (48 R611). -/
def execCasb (l : BitVec 1) (rs : Reg) (o0 : BitVec 1) (rn rt : Reg) (s : State) : Result :=
  compareAndSwap 1 l rs o0 rn rt s

/-- CASH, CASAH, CASALH, CASLH (48 R612). -/
def execCash (l : BitVec 1) (rs : Reg) (o0 : BitVec 1) (rn rt : Reg) (s : State) : Result :=
  compareAndSwap 2 l rs o0 rn rt s

/-- CASP, CASPA, CASPAL, CASPL (48 R613). -/
def execCasp (sz l : BitVec 1) (rs : Reg) (o0 : BitVec 1) (rn rt : Reg) (s : State) : Result :=
  compareAndSwapPair sz l rs o0 rn rt s

/-- CAS, CASA, CASAL, CASL (48 R614). -/
def execCas (size0 l : BitVec 1) (rs : Reg) (o0 : BitVec 1) (rn rt : Reg) (s : State) : Result :=
  compareAndSwap (wordBytes size0) l rs o0 rn rt s

/-- LDADDB, LDADDAB, LDADDALB, LDADDLB (48 R615). -/
def execLdaddb (a r : BitVec 1) (rs rn rt : Reg) (s : State) : Result :=
  atomicLoad .add 1 a r rs rn rt s

/-- LDADDH, LDADDAH, LDADDALH, LDADDLH (48 R616). -/
def execLdaddh (a r : BitVec 1) (rs rn rt : Reg) (s : State) : Result :=
  atomicLoad .add 2 a r rs rn rt s

/-- LDADD, LDADDA, LDADDAL, LDADDL (48 R617). -/
def execLdadd (size0 a r : BitVec 1) (rs rn rt : Reg) (s : State) : Result :=
  atomicLoad .add (wordBytes size0) a r rs rn rt s

/-- LDCLRB, LDCLRAB, LDCLRALB, LDCLRLB (48 R618). -/
def execLdclrb (a r : BitVec 1) (rs rn rt : Reg) (s : State) : Result :=
  atomicLoad .clr 1 a r rs rn rt s

/-- LDCLRH, LDCLRAH, LDCLRALH, LDCLRLH (48 R619). -/
def execLdclrh (a r : BitVec 1) (rs rn rt : Reg) (s : State) : Result :=
  atomicLoad .clr 2 a r rs rn rt s

/-- LDCLR, LDCLRA, LDCLRAL, LDCLRL (48 R620). -/
def execLdclr (size0 a r : BitVec 1) (rs rn rt : Reg) (s : State) : Result :=
  atomicLoad .clr (wordBytes size0) a r rs rn rt s

/-- LDEORB, LDEORAB, LDEORALB, LDEORLB (48 R621). -/
def execLdeorb (a r : BitVec 1) (rs rn rt : Reg) (s : State) : Result :=
  atomicLoad .eor 1 a r rs rn rt s

/-- LDEORH, LDEORAH, LDEORALH, LDEORLH (48 R622). -/
def execLdeorh (a r : BitVec 1) (rs rn rt : Reg) (s : State) : Result :=
  atomicLoad .eor 2 a r rs rn rt s

/-- LDEOR, LDEORA, LDEORAL, LDEORL (48 R623). -/
def execLdeor (size0 a r : BitVec 1) (rs rn rt : Reg) (s : State) : Result :=
  atomicLoad .eor (wordBytes size0) a r rs rn rt s

/-- LDSETB, LDSETAB, LDSETALB, LDSETLB (48 R624). -/
def execLdsetb (a r : BitVec 1) (rs rn rt : Reg) (s : State) : Result :=
  atomicLoad .set 1 a r rs rn rt s

/-- LDSETH, LDSETAH, LDSETALH, LDSETLH (48 R625). -/
def execLdseth (a r : BitVec 1) (rs rn rt : Reg) (s : State) : Result :=
  atomicLoad .set 2 a r rs rn rt s

/-- LDSET, LDSETA, LDSETAL, LDSETL (48 R626). -/
def execLdset (size0 a r : BitVec 1) (rs rn rt : Reg) (s : State) : Result :=
  atomicLoad .set (wordBytes size0) a r rs rn rt s

/-- LDSMAXB, LDSMAXAB, LDSMAXALB, LDSMAXLB (48 R627). -/
def execLdsmaxb (a r : BitVec 1) (rs rn rt : Reg) (s : State) : Result :=
  atomicLoad .smax 1 a r rs rn rt s

/-- LDSMAXH, LDSMAXAH, LDSMAXALH, LDSMAXLH (48 R628). -/
def execLdsmaxh (a r : BitVec 1) (rs rn rt : Reg) (s : State) : Result :=
  atomicLoad .smax 2 a r rs rn rt s

/-- LDSMAX, LDSMAXA, LDSMAXAL, LDSMAXL (48 R629). -/
def execLdsmax (size0 a r : BitVec 1) (rs rn rt : Reg) (s : State) : Result :=
  atomicLoad .smax (wordBytes size0) a r rs rn rt s

/-- LDSMINB, LDSMINAB, LDSMINALB, LDSMINLB (48 R630). -/
def execLdsminb (a r : BitVec 1) (rs rn rt : Reg) (s : State) : Result :=
  atomicLoad .smin 1 a r rs rn rt s

/-- LDSMINH, LDSMINAH, LDSMINALH, LDSMINLH (48 R631). -/
def execLdsminh (a r : BitVec 1) (rs rn rt : Reg) (s : State) : Result :=
  atomicLoad .smin 2 a r rs rn rt s

/-- LDSMIN, LDSMINA, LDSMINAL, LDSMINL (48 R632). -/
def execLdsmin (size0 a r : BitVec 1) (rs rn rt : Reg) (s : State) : Result :=
  atomicLoad .smin (wordBytes size0) a r rs rn rt s

/-- LDUMAXB, LDUMAXAB, LDUMAXALB, LDUMAXLB (48 R633). -/
def execLdumaxb (a r : BitVec 1) (rs rn rt : Reg) (s : State) : Result :=
  atomicLoad .umax 1 a r rs rn rt s

/-- LDUMAXH, LDUMAXAH, LDUMAXALH, LDUMAXLH (48 R634). -/
def execLdumaxh (a r : BitVec 1) (rs rn rt : Reg) (s : State) : Result :=
  atomicLoad .umax 2 a r rs rn rt s

/-- LDUMAX, LDUMAXA, LDUMAXAL, LDUMAXL (48 R635). -/
def execLdumax (size0 a r : BitVec 1) (rs rn rt : Reg) (s : State) : Result :=
  atomicLoad .umax (wordBytes size0) a r rs rn rt s

/-- LDUMINB, LDUMINAB, LDUMINALB, LDUMINLB (48 R636). -/
def execLduminb (a r : BitVec 1) (rs rn rt : Reg) (s : State) : Result :=
  atomicLoad .umin 1 a r rs rn rt s

/-- LDUMINH, LDUMINAH, LDUMINALH, LDUMINLH (48 R637). -/
def execLduminh (a r : BitVec 1) (rs rn rt : Reg) (s : State) : Result :=
  atomicLoad .umin 2 a r rs rn rt s

/-- LDUMIN, LDUMINA, LDUMINAL, LDUMINL (48 R638). -/
def execLdumin (size0 a r : BitVec 1) (rs rn rt : Reg) (s : State) : Result :=
  atomicLoad .umin (wordBytes size0) a r rs rn rt s

/-- SWPB, SWPAB, SWPALB, SWPLB (48 R663). -/
def execSwpb (a r : BitVec 1) (rs rn rt : Reg) (s : State) : Result :=
  atomicLoad .swp 1 a r rs rn rt s

/-- SWPH, SWPAH, SWPALH, SWPLH (48 R664). -/
def execSwph (a r : BitVec 1) (rs rn rt : Reg) (s : State) : Result :=
  atomicLoad .swp 2 a r rs rn rt s

/-- SWP, SWPA, SWPAL, SWPL (48 R665). -/
def execSwp (size0 a r : BitVec 1) (rs rn rt : Reg) (s : State) : Result :=
  atomicLoad .swp (wordBytes size0) a r rs rn rt s

/-- STADDB, STADDLB (48 R639), an alias of LDADDB, LDADDAB, LDADDALB, LDADDLB (30 R196). -/
def execStaddb (r : BitVec 1) (rs rn : Reg) (s : State) : Result :=
  atomicLoad .add 1 0#1 r rs rn 31#5 s

/-- STADDH, STADDLH (48 R640), an alias of LDADDH, LDADDAH, LDADDALH, LDADDLH (30 R196). -/
def execStaddh (r : BitVec 1) (rs rn : Reg) (s : State) : Result :=
  atomicLoad .add 2 0#1 r rs rn 31#5 s

/-- STADD, STADDL (48 R641), an alias of LDADD, LDADDA, LDADDAL, LDADDL (30 R196). -/
def execStadd (size0 r : BitVec 1) (rs rn : Reg) (s : State) : Result :=
  atomicLoad .add (wordBytes size0) 0#1 r rs rn 31#5 s

/-- STCLRB, STCLRLB (48 R642), an alias of LDCLRB, LDCLRAB, LDCLRALB, LDCLRLB (30 R196). -/
def execStclrb (r : BitVec 1) (rs rn : Reg) (s : State) : Result :=
  atomicLoad .clr 1 0#1 r rs rn 31#5 s

/-- STCLRH, STCLRLH (48 R643), an alias of LDCLRH, LDCLRAH, LDCLRALH, LDCLRLH (30 R196). -/
def execStclrh (r : BitVec 1) (rs rn : Reg) (s : State) : Result :=
  atomicLoad .clr 2 0#1 r rs rn 31#5 s

/-- STCLR, STCLRL (48 R644), an alias of LDCLR, LDCLRA, LDCLRAL, LDCLRL (30 R196). -/
def execStclr (size0 r : BitVec 1) (rs rn : Reg) (s : State) : Result :=
  atomicLoad .clr (wordBytes size0) 0#1 r rs rn 31#5 s

/-- STEORB, STEORLB (48 R645), an alias of LDEORB, LDEORAB, LDEORALB, LDEORLB (30 R196). -/
def execSteorb (r : BitVec 1) (rs rn : Reg) (s : State) : Result :=
  atomicLoad .eor 1 0#1 r rs rn 31#5 s

/-- STEORH, STEORLH (48 R646), an alias of LDEORH, LDEORAH, LDEORALH, LDEORLH (30 R196). -/
def execSteorh (r : BitVec 1) (rs rn : Reg) (s : State) : Result :=
  atomicLoad .eor 2 0#1 r rs rn 31#5 s

/-- STEOR, STEORL (48 R647), an alias of LDEOR, LDEORA, LDEORAL, LDEORL (30 R196). -/
def execSteor (size0 r : BitVec 1) (rs rn : Reg) (s : State) : Result :=
  atomicLoad .eor (wordBytes size0) 0#1 r rs rn 31#5 s

/-- STSETB, STSETLB (48 R648), an alias of LDSETB, LDSETAB, LDSETALB, LDSETLB (30 R196). -/
def execStsetb (r : BitVec 1) (rs rn : Reg) (s : State) : Result :=
  atomicLoad .set 1 0#1 r rs rn 31#5 s

/-- STSETH, STSETLH (48 R649), an alias of LDSETH, LDSETAH, LDSETALH, LDSETLH (30 R196). -/
def execStseth (r : BitVec 1) (rs rn : Reg) (s : State) : Result :=
  atomicLoad .set 2 0#1 r rs rn 31#5 s

/-- STSET, STSETL (48 R650), an alias of LDSET, LDSETA, LDSETAL, LDSETL (30 R196). -/
def execStset (size0 r : BitVec 1) (rs rn : Reg) (s : State) : Result :=
  atomicLoad .set (wordBytes size0) 0#1 r rs rn 31#5 s

/-- STSMAXB, STSMAXLB (48 R651), an alias of LDSMAXB, LDSMAXAB, LDSMAXALB, LDSMAXLB (30 R196). -/
def execStsmaxb (r : BitVec 1) (rs rn : Reg) (s : State) : Result :=
  atomicLoad .smax 1 0#1 r rs rn 31#5 s

/-- STSMAXH, STSMAXLH (48 R652), an alias of LDSMAXH, LDSMAXAH, LDSMAXALH, LDSMAXLH (30 R196). -/
def execStsmaxh (r : BitVec 1) (rs rn : Reg) (s : State) : Result :=
  atomicLoad .smax 2 0#1 r rs rn 31#5 s

/-- STSMAX, STSMAXL (48 R653), an alias of LDSMAX, LDSMAXA, LDSMAXAL, LDSMAXL (30 R196). -/
def execStsmax (size0 r : BitVec 1) (rs rn : Reg) (s : State) : Result :=
  atomicLoad .smax (wordBytes size0) 0#1 r rs rn 31#5 s

/-- STSMINB, STSMINLB (48 R654), an alias of LDSMINB, LDSMINAB, LDSMINALB, LDSMINLB (30 R196). -/
def execStsminb (r : BitVec 1) (rs rn : Reg) (s : State) : Result :=
  atomicLoad .smin 1 0#1 r rs rn 31#5 s

/-- STSMINH, STSMINLH (48 R655), an alias of LDSMINH, LDSMINAH, LDSMINALH, LDSMINLH (30 R196). -/
def execStsminh (r : BitVec 1) (rs rn : Reg) (s : State) : Result :=
  atomicLoad .smin 2 0#1 r rs rn 31#5 s

/-- STSMIN, STSMINL (48 R656), an alias of LDSMIN, LDSMINA, LDSMINAL, LDSMINL (30 R196). -/
def execStsmin (size0 r : BitVec 1) (rs rn : Reg) (s : State) : Result :=
  atomicLoad .smin (wordBytes size0) 0#1 r rs rn 31#5 s

/-- STUMAXB, STUMAXLB (48 R657), an alias of LDUMAXB, LDUMAXAB, LDUMAXALB, LDUMAXLB (30 R196). -/
def execStumaxb (r : BitVec 1) (rs rn : Reg) (s : State) : Result :=
  atomicLoad .umax 1 0#1 r rs rn 31#5 s

/-- STUMAXH, STUMAXLH (48 R658), an alias of LDUMAXH, LDUMAXAH, LDUMAXALH, LDUMAXLH (30 R196). -/
def execStumaxh (r : BitVec 1) (rs rn : Reg) (s : State) : Result :=
  atomicLoad .umax 2 0#1 r rs rn 31#5 s

/-- STUMAX, STUMAXL (48 R659), an alias of LDUMAX, LDUMAXA, LDUMAXAL, LDUMAXL (30 R196). -/
def execStumax (size0 r : BitVec 1) (rs rn : Reg) (s : State) : Result :=
  atomicLoad .umax (wordBytes size0) 0#1 r rs rn 31#5 s

/-- STUMINB, STUMINLB (48 R660), an alias of LDUMINB, LDUMINAB, LDUMINALB, LDUMINLB (30 R196). -/
def execStuminb (r : BitVec 1) (rs rn : Reg) (s : State) : Result :=
  atomicLoad .umin 1 0#1 r rs rn 31#5 s

/-- STUMINH, STUMINLH (48 R661), an alias of LDUMINH, LDUMINAH, LDUMINALH, LDUMINLH (30 R196). -/
def execStuminh (r : BitVec 1) (rs rn : Reg) (s : State) : Result :=
  atomicLoad .umin 2 0#1 r rs rn 31#5 s

/-- STUMIN, STUMINL (48 R662), an alias of LDUMIN, LDUMINA, LDUMINAL, LDUMINL (30 R196). -/
def execStumin (size0 r : BitVec 1) (rs rn : Reg) (s : State) : Result :=
  atomicLoad .umin (wordBytes size0) 0#1 r rs rn 31#5 s

end Sys2Proof.Machine
end

