-- ==== Sys2Proof/Machine/Branch.lean ====
section
/-! DEFINITION. Branches (45 R430 to R440). -/

namespace Sys2Proof.Machine

/-- A branch by `offset` if a test succeeds, else the next instruction (45 R430(c)). -/
def branchIf (taken : Bool) (offset : Addr) (s : State) : Result :=
  .next (if taken then s.branch (s.pc + offset) else s.advance)

/-- A branch to `target`, with the return address in X30 if it is a call (45 R433, R434). -/
def branchTo (call : Bool) (target : Addr) (s : State) : Result :=
  .next ((if call then s.writeX 30#5 s.link else s).branch target)

/-- CBZ and CBNZ (45 R436, R437). -/
def compareAndBranch (onZero : Bool) (sf : BitVec 1) (imm19 : BitVec 19) (rt : Reg) (s : State) : Result :=
  branchIf (decide (s.readXW (datasize sf) rt = 0#(datasize sf)) == onZero) (wordOffset imm19) s

/-- TBZ and TBNZ: bit `b5:b40` of a register (45 R439, R440). -/
def testAndBranch (bit : Bool) (b5 : BitVec 1) (b40 : BitVec 5) (imm14 : BitVec 14) (rt : Reg) (s : State) : Result :=
  branchIf ((s.readXW (datasize b5) rt).getLsbD (b5 ++ b40).toNat == bit) (wordOffset imm14) s

/-! ## The meanings -/

/-- B.cond (45 R431). -/
def execBCond (imm19 : BitVec 19) (cond : BitVec 4) (s : State) : Result :=
  branchIf (conditionHolds s.p.flags cond) (wordOffset imm19) s

/-- B (45 R432). -/
def execB (imm26 : BitVec 26) (s : State) : Result :=
  branchTo false (s.pc + wordOffset imm26) s

/-- BL (45 R433). -/
def execBl (imm26 : BitVec 26) (s : State) : Result :=
  branchTo true (s.pc + wordOffset imm26) s

/-- BLR (45 R434). -/
def execBlr (rn : Reg) (s : State) : Result :=
  branchTo true (s.readX rn) s

/-- BR (45 R435). -/
def execBr (rn : Reg) (s : State) : Result :=
  branchTo false (s.readX rn) s

/-- CBNZ (45 R436). -/
def execCbnz (sf : BitVec 1) (imm19 : BitVec 19) (rt : Reg) (s : State) : Result :=
  compareAndBranch false sf imm19 rt s

/-- CBZ (45 R437). -/
def execCbz (sf : BitVec 1) (imm19 : BitVec 19) (rt : Reg) (s : State) : Result :=
  compareAndBranch true sf imm19 rt s

/-- RET (45 R438). -/
def execRet (rn : Reg) (s : State) : Result :=
  branchTo false (s.readX rn) s

/-- TBNZ (45 R439). -/
def execTbnz (b5 : BitVec 1) (b40 : BitVec 5) (imm14 : BitVec 14) (rt : Reg) (s : State) : Result :=
  testAndBranch true b5 b40 imm14 rt s

/-- TBZ (45 R440). -/
def execTbz (b5 : BitVec 1) (b40 : BitVec 5) (imm14 : BitVec 14) (rt : Reg) (s : State) : Result :=
  testAndBranch false b5 b40 imm14 rt s

end Sys2Proof.Machine
end

