-- ==== Sys2Proof/Machine/Arith.lean ====
section
/-! DEFINITION. Addition, subtraction and address formation (40 R200 to R228). -/

namespace Sys2Proof.Machine

/-- `x + y`, or `x - y` as `x + NOT(y) + 1`, with its flags (40 R200(b)). -/
def addSub {w : Nat} (sub : Bool) (x y : BitVec w) : BitVec w × Flags :=
  addWithCarry x (if sub then ~~~y else y) sub

/-- The result of an addition in register `rd`, and its flags if the form sets them (40 R200(c)). -/
def State.writeSum {w : Nat} (s : State) (setFlags : Bool) (rd : Reg) (sum : BitVec w × Flags) : State :=
  if setFlags then (s.writeFlags sum.2).writeX rd sum.1 else s.writeX rd sum.1

/-- The same for the forms whose `Rd` 31 is the stack pointer unless they set flags (40 R200(d)). -/
def State.writeSumSp {w : Nat} (s : State) (setFlags : Bool) (rd : Reg) (sum : BitVec w × Flags) : State :=
  if setFlags then (s.writeFlags sum.2).writeX rd sum.1 else s.writeXsp rd sum.1

/-- Add or subtract with carry (40 R201, R221). -/
def addSubCarry (sub setFlags : Bool) (sf : BitVec 1) (rm rn rd : Reg) (s : State) : Result :=
  let y := s.readXW (datasize sf) rm
  let sum := addWithCarry (s.readXW (datasize sf) rn) (if sub then ~~~y else y) s.p.c
  finish s (.ok (s.writeSum setFlags rd sum))

/-- Add or subtract an extended register (40 R203). -/
def addSubExtended (sub setFlags : Bool) (sf : BitVec 1) (rm : Reg) (option imm3 : BitVec 3) (rn rd : Reg)
    (s : State) : Result :=
  finish s ((orUndefined (s.extendedRegister (datasize sf) rm option imm3)).map fun y =>
    s.writeSumSp setFlags rd (addSub sub (s.readXspW (datasize sf) rn) y))

/-- Add or subtract an immediate (40 R204). -/
def addSubImmediate (sub setFlags : Bool) (sf : BitVec 1) (shift : BitVec 2) (imm12 : BitVec 12) (rn rd : Reg)
    (s : State) : Result :=
  finish s ((orUndefined (arithImmediate (datasize sf) shift imm12)).map fun y =>
    s.writeSumSp setFlags rd (addSub sub (s.readXspW (datasize sf) rn) y))

/-- Add or subtract a shifted register (40 R205). -/
def addSubShifted (sub setFlags : Bool) (sf : BitVec 1) (shift : BitVec 2) (rm : Reg) (imm6 : BitVec 6) (rn rd : Reg)
    (s : State) : Result :=
  finish s ((orUndefined (s.shiftedAddend sf rm shift imm6)).map fun y =>
    s.writeSum setFlags rd (addSub sub (s.readXW (datasize sf) rn) y))

/-- The address of a label (40 R209). -/
def formAddress (immlo : BitVec 2) (immhi : BitVec 19) (rd : Reg) (s : State) : Result :=
  finish s (.ok (s.writeX rd (s.pc + (immhi ++ immlo).signExtend 64)))

/-- The address of the 4 KB page of a label (40 R210). -/
def formPageAddress (immlo : BitVec 2) (immhi : BitVec 19) (rd : Reg) (s : State) : Result :=
  finish s (.ok (s.writeX rd ((s.pc.extractLsb' 12 52 ++ 0#12) + (immhi ++ immlo ++ 0#12).signExtend 64)))

/-! ## The meanings -/

/-- ADC (40 R201). -/
def execAdc (sf : BitVec 1) (rm rn rd : Reg) (s : State) : Result :=
  addSubCarry false false sf rm rn rd s

/-- ADCS (40 R202). -/
def execAdcs (sf : BitVec 1) (rm rn rd : Reg) (s : State) : Result :=
  addSubCarry false true sf rm rn rd s

/-- ADD (extended register) (40 R203). -/
def execAddExtendedRegister (sf : BitVec 1) (rm : Reg) (option imm3 : BitVec 3) (rn rd : Reg) (s : State) : Result :=
  addSubExtended false false sf rm option imm3 rn rd s

/-- ADD (immediate) (40 R204). -/
def execAddImmediate (sf : BitVec 1) (shift : BitVec 2) (imm12 : BitVec 12) (rn rd : Reg) (s : State) : Result :=
  addSubImmediate false false sf shift imm12 rn rd s

/-- ADD (shifted register) (40 R205). -/
def execAddShiftedRegister (sf : BitVec 1) (shift : BitVec 2) (rm : Reg) (imm6 : BitVec 6) (rn rd : Reg)
    (s : State) : Result :=
  addSubShifted false false sf shift rm imm6 rn rd s

/-- ADDS (extended register) (40 R206). -/
def execAddsExtendedRegister (sf : BitVec 1) (rm : Reg) (option imm3 : BitVec 3) (rn rd : Reg) (s : State) : Result :=
  addSubExtended false true sf rm option imm3 rn rd s

/-- ADDS (immediate) (40 R207). -/
def execAddsImmediate (sf : BitVec 1) (shift : BitVec 2) (imm12 : BitVec 12) (rn rd : Reg) (s : State) : Result :=
  addSubImmediate false true sf shift imm12 rn rd s

/-- ADDS (shifted register) (40 R208). -/
def execAddsShiftedRegister (sf : BitVec 1) (shift : BitVec 2) (rm : Reg) (imm6 : BitVec 6) (rn rd : Reg)
    (s : State) : Result :=
  addSubShifted false true sf shift rm imm6 rn rd s

/-- ADR (40 R209). -/
def execAdr (immlo : BitVec 2) (immhi : BitVec 19) (rd : Reg) (s : State) : Result :=
  formAddress immlo immhi rd s

/-- ADRP (40 R210). -/
def execAdrp (immlo : BitVec 2) (immhi : BitVec 19) (rd : Reg) (s : State) : Result :=
  formPageAddress immlo immhi rd s

/-- SBC (40 R221). -/
def execSbc (sf : BitVec 1) (rm rn rd : Reg) (s : State) : Result :=
  addSubCarry true false sf rm rn rd s

/-- SBCS (40 R222). -/
def execSbcs (sf : BitVec 1) (rm rn rd : Reg) (s : State) : Result :=
  addSubCarry true true sf rm rn rd s

/-- SUB (extended register) (40 R223). -/
def execSubExtendedRegister (sf : BitVec 1) (rm : Reg) (option imm3 : BitVec 3) (rn rd : Reg) (s : State) : Result :=
  addSubExtended true false sf rm option imm3 rn rd s

/-- SUB (immediate) (40 R224). -/
def execSubImmediate (sf : BitVec 1) (shift : BitVec 2) (imm12 : BitVec 12) (rn rd : Reg) (s : State) : Result :=
  addSubImmediate true false sf shift imm12 rn rd s

/-- SUB (shifted register) (40 R225). -/
def execSubShiftedRegister (sf : BitVec 1) (shift : BitVec 2) (rm : Reg) (imm6 : BitVec 6) (rn rd : Reg)
    (s : State) : Result :=
  addSubShifted true false sf shift rm imm6 rn rd s

/-- SUBS (extended register) (40 R226). -/
def execSubsExtendedRegister (sf : BitVec 1) (rm : Reg) (option imm3 : BitVec 3) (rn rd : Reg) (s : State) : Result :=
  addSubExtended true true sf rm option imm3 rn rd s

/-- SUBS (immediate) (40 R227). -/
def execSubsImmediate (sf : BitVec 1) (shift : BitVec 2) (imm12 : BitVec 12) (rn rd : Reg) (s : State) : Result :=
  addSubImmediate true true sf shift imm12 rn rd s

/-- SUBS (shifted register) (40 R228). -/
def execSubsShiftedRegister (sf : BitVec 1) (shift : BitVec 2) (rm : Reg) (imm6 : BitVec 6) (rn rd : Reg)
    (s : State) : Result :=
  addSubShifted true true sf shift rm imm6 rn rd s

/-- CMN (extended register) (40 R211), an alias of ADDS (extended register) (30 R196). -/
def execCmnExtendedRegister (sf : BitVec 1) (rm : Reg) (option imm3 : BitVec 3) (rn : Reg) (s : State) : Result :=
  addSubExtended false true sf rm option imm3 rn 31#5 s

/-- CMN (immediate) (40 R212), an alias of ADDS (immediate) (30 R196). -/
def execCmnImmediate (sf : BitVec 1) (shift : BitVec 2) (imm12 : BitVec 12) (rn : Reg) (s : State) : Result :=
  addSubImmediate false true sf shift imm12 rn 31#5 s

/-- CMN (shifted register) (40 R213), an alias of ADDS (shifted register) (30 R196). -/
def execCmnShiftedRegister (sf : BitVec 1) (shift : BitVec 2) (rm : Reg) (imm6 : BitVec 6) (rn : Reg) (s : State)
    : Result :=
  addSubShifted false true sf shift rm imm6 rn 31#5 s

/-- CMP (extended register) (40 R214), an alias of SUBS (extended register) (30 R196). -/
def execCmpExtendedRegister (sf : BitVec 1) (rm : Reg) (option imm3 : BitVec 3) (rn : Reg) (s : State) : Result :=
  addSubExtended true true sf rm option imm3 rn 31#5 s

/-- CMP (immediate) (40 R215), an alias of SUBS (immediate) (30 R196). -/
def execCmpImmediate (sf : BitVec 1) (shift : BitVec 2) (imm12 : BitVec 12) (rn : Reg) (s : State) : Result :=
  addSubImmediate true true sf shift imm12 rn 31#5 s

/-- CMP (shifted register) (40 R216), an alias of SUBS (shifted register) (30 R196). -/
def execCmpShiftedRegister (sf : BitVec 1) (shift : BitVec 2) (rm : Reg) (imm6 : BitVec 6) (rn : Reg) (s : State)
    : Result :=
  addSubShifted true true sf shift rm imm6 rn 31#5 s

/-- MOV (to/from SP) (41 R260), an alias of ADD (immediate) (30 R196). -/
def execMovToFromSP (sf : BitVec 1) (rn rd : Reg) (s : State) : Result :=
  addSubImmediate false false sf 0#2 0#12 rn rd s

/-- NEG (shifted register) (40 R217), an alias of SUB (shifted register) (30 R196). -/
def execNegShiftedRegister (sf : BitVec 1) (shift : BitVec 2) (rm : Reg) (imm6 : BitVec 6) (rd : Reg) (s : State)
    : Result :=
  addSubShifted true false sf shift rm imm6 31#5 rd s

/-- NEGS (40 R218), an alias of SUBS (shifted register) (30 R196). -/
def execNegs (sf : BitVec 1) (shift : BitVec 2) (rm : Reg) (imm6 : BitVec 6) (rd : Reg) (s : State) : Result :=
  addSubShifted true true sf shift rm imm6 31#5 rd s

/-- NGC (40 R219), an alias of SBC (30 R196). -/
def execNgc (sf : BitVec 1) (rm rd : Reg) (s : State) : Result :=
  addSubCarry true false sf rm 31#5 rd s

/-- NGCS (40 R220), an alias of SBCS (30 R196). -/
def execNgcs (sf : BitVec 1) (rm rd : Reg) (s : State) : Result :=
  addSubCarry true true sf rm 31#5 rd s

end Sys2Proof.Machine
end

