-- ==== Sys2Proof/Machine/Cond.lean ====
section
/-! DEFINITION. Conditional compare and conditional select (43 R360 to R373). -/

namespace Sys2Proof.Machine

/-- CCMN and CCMP of register `rn` and a second operand (43 R361 to R364). -/
def conditionalCompare (sub : Bool) (w : Nat) (y : BitVec w) (cond : BitVec 4) (rn : Reg) (nzcv : BitVec 4)
    (s : State) : Result :=
  finish s (.ok (s.writeFlags
    (if conditionHolds s.p.flags cond then (addSub sub (s.readXW w rn) y).2 else Flags.ofBits nzcv)))

/-- A select of register `rn`, or else of `f` of register `rm` (43 R368, R371 to R373). -/
def conditionalSelect (w : Nat) (f : BitVec w → BitVec w) (rm : Reg) (cond : BitVec 4) (rn rd : Reg)
    (s : State) : Result :=
  finish s (.ok (s.writeX rd (if conditionHolds s.p.flags cond then s.readXW w rn else f (s.readXW w rm))))

/-! ## The meanings -/

/-- CCMN (immediate) (43 R361). -/
def execCcmnImmediate (sf : BitVec 1) (imm5 : BitVec 5) (cond : BitVec 4) (rn : Reg) (nzcv : BitVec 4) (s : State)
    : Result :=
  conditionalCompare false (datasize sf) (imm5.setWidth (datasize sf)) cond rn nzcv s

/-- CCMN (register) (43 R362). -/
def execCcmnRegister (sf : BitVec 1) (rm : Reg) (cond : BitVec 4) (rn : Reg) (nzcv : BitVec 4) (s : State) : Result :=
  conditionalCompare false (datasize sf) (s.readXW (datasize sf) rm) cond rn nzcv s

/-- CCMP (immediate) (43 R363). -/
def execCcmpImmediate (sf : BitVec 1) (imm5 : BitVec 5) (cond : BitVec 4) (rn : Reg) (nzcv : BitVec 4) (s : State)
    : Result :=
  conditionalCompare true (datasize sf) (imm5.setWidth (datasize sf)) cond rn nzcv s

/-- CCMP (register) (43 R364). -/
def execCcmpRegister (sf : BitVec 1) (rm : Reg) (cond : BitVec 4) (rn : Reg) (nzcv : BitVec 4) (s : State) : Result :=
  conditionalCompare true (datasize sf) (s.readXW (datasize sf) rm) cond rn nzcv s

/-- CSEL (43 R368). -/
def execCsel (sf : BitVec 1) (rm : Reg) (cond : BitVec 4) (rn rd : Reg) (s : State) : Result :=
  conditionalSelect (datasize sf) (fun v => v) rm cond rn rd s

/-- CSINC (43 R371). -/
def execCsinc (sf : BitVec 1) (rm : Reg) (cond : BitVec 4) (rn rd : Reg) (s : State) : Result :=
  conditionalSelect (datasize sf) (fun v => v + BitVec.ofNat _ 1) rm cond rn rd s

/-- CSINV (43 R372). -/
def execCsinv (sf : BitVec 1) (rm : Reg) (cond : BitVec 4) (rn rd : Reg) (s : State) : Result :=
  conditionalSelect (datasize sf) (fun v => ~~~v) rm cond rn rd s

/-- CSNEG (43 R373). -/
def execCsneg (sf : BitVec 1) (rm : Reg) (cond : BitVec 4) (rn rd : Reg) (s : State) : Result :=
  conditionalSelect (datasize sf) (fun v => ~~~v + BitVec.ofNat _ 1) rm cond rn rd s

/-- CINC (43 R365), an alias of CSINC (30 R196). -/
def execCinc (sf : BitVec 1) (rm : Reg) (cond : BitVec 4) (rn rd : Reg) (s : State) : Result :=
  conditionalSelect (datasize sf) (fun v => v + BitVec.ofNat _ 1) rm cond rn rd s

/-- CINV (43 R366), an alias of CSINV (30 R196). -/
def execCinv (sf : BitVec 1) (rm : Reg) (cond : BitVec 4) (rn rd : Reg) (s : State) : Result :=
  conditionalSelect (datasize sf) (fun v => ~~~v) rm cond rn rd s

/-- CNEG (43 R367), an alias of CSNEG (30 R196). -/
def execCneg (sf : BitVec 1) (rm : Reg) (cond : BitVec 4) (rn rd : Reg) (s : State) : Result :=
  conditionalSelect (datasize sf) (fun v => ~~~v + BitVec.ofNat _ 1) rm cond rn rd s

/-- CSET (43 R369), an alias of CSINC (30 R196). -/
def execCset (sf : BitVec 1) (cond : BitVec 4) (rd : Reg) (s : State) : Result :=
  conditionalSelect (datasize sf) (fun v => v + BitVec.ofNat _ 1) 31#5 cond 31#5 rd s

/-- CSETM (43 R370), an alias of CSINV (30 R196). -/
def execCsetm (sf : BitVec 1) (cond : BitVec 4) (rd : Reg) (s : State) : Result :=
  conditionalSelect (datasize sf) (fun v => ~~~v) 31#5 cond 31#5 rd s

end Sys2Proof.Machine
end

