-- ==== Sys2Proof/Machine/Logical.lean ====
section
/-! DEFINITION. Logical operations and moves of wide immediates (41 R250 to R273). -/

namespace Sys2Proof.Machine

/-- The bitwise operations (41 R250). -/
inductive LogicalOp where
  | and | orr | eor
deriving DecidableEq, Repr

/-- A bitwise operation on two values. -/
def LogicalOp.apply {w : Nat} (op : LogicalOp) (x y : BitVec w) : BitVec w :=
  match op with
  | .and => x &&& y
  | .orr => x ||| y
  | .eor => x ^^^ y

/-- AND, ORR, EOR with a bit mask immediate: `Rd` 31 is the stack pointer (41 R251). -/
def logicalImmediateSp (op : LogicalOp) (sf n : BitVec 1) (immr imms : BitVec 6) (rn rd : Reg) (s : State) : Result :=
  finish s ((orUndefined (logicalImmediate sf n imms immr)).map fun y =>
    s.writeXsp rd (op.apply (s.readXW (datasize sf) rn) y))

/-- ANDS with a bit mask immediate (41 R253). -/
def andsImmediateValue (sf n : BitVec 1) (immr imms : BitVec 6) (rn rd : Reg) (s : State) : Result :=
  finish s ((orUndefined (logicalImmediate sf n imms immr)).map fun y =>
    let result := s.readXW (datasize sf) rn &&& y
    (s.writeFlags (logicalFlags result)).writeX rd result)

/-- A bitwise operation with a shifted register, inverted if asked (41 R252, R255). -/
def logicalShifted (op : LogicalOp) (invert setFlags : Bool) (sf : BitVec 1) (shift : BitVec 2) (rm : Reg)
    (imm6 : BitVec 6) (rn rd : Reg) (s : State) : Result :=
  finish s ((orUndefined (s.shiftedRegister sf rm shift imm6)).map fun y =>
    let result := op.apply (s.readXW (datasize sf) rn) (if invert then ~~~y else y)
    if setFlags then (s.writeFlags (logicalFlags result)).writeX rd result else s.writeX rd result)

/-- `v` with bits `pos + 15` to `pos` replaced (41 R265). -/
def insertWide {w : Nat} (v : BitVec w) (pos : Nat) (imm16 : BitVec 16) : BitVec w :=
  (v &&& ~~~((0xFFFF#16).setWidth w <<< pos)) ||| (imm16.setWidth w <<< pos)

/-- MOVZ, and MOVN with the result inverted (41 R266, R267). -/
def moveWide (invert : Bool) (sf : BitVec 1) (hw : BitVec 2) (imm16 : BitVec 16) (rd : Reg) (s : State) : Result :=
  finish s ((orUndefined (widePosition sf hw)).map fun pos =>
    let result := insertWide (0#(datasize sf)) pos imm16
    s.writeX rd (if invert then ~~~result else result))

/-- MOVK (41 R265). -/
def moveKeep (sf : BitVec 1) (hw : BitVec 2) (imm16 : BitVec 16) (rd : Reg) (s : State) : Result :=
  finish s ((orUndefined (widePosition sf hw)).map fun pos =>
    s.writeX rd (insertWide (s.readXW (datasize sf) rd) pos imm16))

/-! ## The meanings -/

/-- AND (immediate) (41 R251). -/
def execAndImmediate (sf n : BitVec 1) (immr imms : BitVec 6) (rn rd : Reg) (s : State) : Result :=
  logicalImmediateSp .and sf n immr imms rn rd s

/-- AND (shifted register) (41 R252). -/
def execAndShiftedRegister (sf : BitVec 1) (shift : BitVec 2) (rm : Reg) (imm6 : BitVec 6) (rn rd : Reg)
    (s : State) : Result :=
  logicalShifted .and false false sf shift rm imm6 rn rd s

/-- ANDS (immediate) (41 R253). -/
def execAndsImmediate (sf n : BitVec 1) (immr imms : BitVec 6) (rn rd : Reg) (s : State) : Result :=
  andsImmediateValue sf n immr imms rn rd s

/-- ANDS (shifted register) (41 R254). -/
def execAndsShiftedRegister (sf : BitVec 1) (shift : BitVec 2) (rm : Reg) (imm6 : BitVec 6) (rn rd : Reg)
    (s : State) : Result :=
  logicalShifted .and false true sf shift rm imm6 rn rd s

/-- BIC (shifted register) (41 R255). -/
def execBicShiftedRegister (sf : BitVec 1) (shift : BitVec 2) (rm : Reg) (imm6 : BitVec 6) (rn rd : Reg)
    (s : State) : Result :=
  logicalShifted .and true false sf shift rm imm6 rn rd s

/-- BICS (shifted register) (41 R256). -/
def execBicsShiftedRegister (sf : BitVec 1) (shift : BitVec 2) (rm : Reg) (imm6 : BitVec 6) (rn rd : Reg)
    (s : State) : Result :=
  logicalShifted .and true true sf shift rm imm6 rn rd s

/-- EON (shifted register) (41 R257). -/
def execEonShiftedRegister (sf : BitVec 1) (shift : BitVec 2) (rm : Reg) (imm6 : BitVec 6) (rn rd : Reg)
    (s : State) : Result :=
  logicalShifted .eor true false sf shift rm imm6 rn rd s

/-- EOR (immediate) (41 R258). -/
def execEorImmediate (sf n : BitVec 1) (immr imms : BitVec 6) (rn rd : Reg) (s : State) : Result :=
  logicalImmediateSp .eor sf n immr imms rn rd s

/-- EOR (shifted register) (41 R259). -/
def execEorShiftedRegister (sf : BitVec 1) (shift : BitVec 2) (rm : Reg) (imm6 : BitVec 6) (rn rd : Reg)
    (s : State) : Result :=
  logicalShifted .eor false false sf shift rm imm6 rn rd s

/-- MOVK (41 R265). -/
def execMovk (sf : BitVec 1) (hw : BitVec 2) (imm16 : BitVec 16) (rd : Reg) (s : State) : Result :=
  moveKeep sf hw imm16 rd s

/-- MOVN (41 R266). -/
def execMovn (sf : BitVec 1) (hw : BitVec 2) (imm16 : BitVec 16) (rd : Reg) (s : State) : Result :=
  moveWide true sf hw imm16 rd s

/-- MOVZ (41 R267). -/
def execMovz (sf : BitVec 1) (hw : BitVec 2) (imm16 : BitVec 16) (rd : Reg) (s : State) : Result :=
  moveWide false sf hw imm16 rd s

/-- ORN (shifted register) (41 R269). -/
def execOrnShiftedRegister (sf : BitVec 1) (shift : BitVec 2) (rm : Reg) (imm6 : BitVec 6) (rn rd : Reg)
    (s : State) : Result :=
  logicalShifted .orr true false sf shift rm imm6 rn rd s

/-- ORR (immediate) (41 R270). -/
def execOrrImmediate (sf n : BitVec 1) (immr imms : BitVec 6) (rn rd : Reg) (s : State) : Result :=
  logicalImmediateSp .orr sf n immr imms rn rd s

/-- ORR (shifted register) (41 R271). -/
def execOrrShiftedRegister (sf : BitVec 1) (shift : BitVec 2) (rm : Reg) (imm6 : BitVec 6) (rn rd : Reg)
    (s : State) : Result :=
  logicalShifted .orr false false sf shift rm imm6 rn rd s

/-- MOV (inverted wide immediate) (41 R261), an alias of MOVN (30 R196). -/
def execMovInvertedWideImmediate (sf : BitVec 1) (hw : BitVec 2) (imm16 : BitVec 16) (rd : Reg) (s : State) :
    Result :=
  moveWide true sf hw imm16 rd s

/-- MOV (wide immediate) (41 R262), an alias of MOVZ (30 R196). -/
def execMovWideImmediate (sf : BitVec 1) (hw : BitVec 2) (imm16 : BitVec 16) (rd : Reg) (s : State) : Result :=
  moveWide false sf hw imm16 rd s

/-- MOV (bitmask immediate) (41 R263), an alias of ORR (immediate) (30 R196). -/
def execMovBitmaskImmediate (sf n : BitVec 1) (immr imms : BitVec 6) (rd : Reg) (s : State) : Result :=
  logicalImmediateSp .orr sf n immr imms 31#5 rd s

/-- MOV (register) (41 R264), an alias of ORR (shifted register) (30 R196). -/
def execMovRegister (sf : BitVec 1) (rm rd : Reg) (s : State) : Result :=
  logicalShifted .orr false false sf 0#2 rm 0#6 31#5 rd s

/-- MVN (41 R268), an alias of ORN (shifted register) (30 R196). -/
def execMvn (sf : BitVec 1) (shift : BitVec 2) (rm : Reg) (imm6 : BitVec 6) (rd : Reg) (s : State) : Result :=
  logicalShifted .orr true false sf shift rm imm6 31#5 rd s

/-- TST (immediate) (41 R272), an alias of ANDS (immediate) (30 R196). -/
def execTstImmediate (sf n : BitVec 1) (immr imms : BitVec 6) (rn : Reg) (s : State) : Result :=
  andsImmediateValue sf n immr imms rn 31#5 s

/-- TST (shifted register) (41 R273), an alias of ANDS (shifted register) (30 R196). -/
def execTstShiftedRegister (sf : BitVec 1) (shift : BitVec 2) (rm : Reg) (imm6 : BitVec 6) (rn : Reg) (s : State)
    : Result :=
  logicalShifted .and false true sf shift rm imm6 rn 31#5 s

end Sys2Proof.Machine
end

