-- ==== Sys2Proof/Machine/MulDiv.lean ====
section
/-! DEFINITION. Multiplication, division and CRC32 (44 R390 to R408). -/

namespace Sys2Proof.Machine

/-- The value of an operand as an exact integer (44 R390(c)). -/
def intOf {w : Nat} (unsigned : Bool) (v : BitVec w) : Int := if unsigned then v.toNat else v.toInt

/-- MADD and MSUB (44 R393, R395). -/
def multiplyAdd (sub : Bool) (sf : BitVec 1) (rm ra rn rd : Reg) (s : State) : Result :=
  let product := intOf true (s.readXW (datasize sf) rn) * intOf true (s.readXW (datasize sf) rm)
  let addend := intOf true (s.readXW (datasize sf) ra)
  finish s (.ok (s.writeX rd (BitVec.ofInt (datasize sf) (if sub then addend - product else addend + product))))

/-- The long multiply-adds: 32-bit factors, 64-bit addend (44 R398, R400, R404, R406). -/
def multiplyAddLong (unsigned sub : Bool) (rm ra rn rd : Reg) (s : State) : Result :=
  let product := intOf unsigned (s.readXW 32 rn) * intOf unsigned (s.readXW 32 rm)
  let addend := intOf unsigned (s.readX ra)
  finish s (.ok (s.writeX rd (BitVec.ofInt 64 (if sub then addend - product else addend + product))))

/-- The high half of a 128-bit product (44 R401, R407). -/
def multiplyHigh (unsigned : Bool) (rm rn rd : Reg) (s : State) : Result :=
  let product := intOf unsigned (s.readX rn) * intOf unsigned (s.readX rm)
  finish s (.ok (s.writeX rd ((BitVec.ofInt 128 product).extractLsb' 64 64)))

/-- Division, rounding towards zero; by zero it gives 0 (44 R397, R403). -/
def divide (unsigned : Bool) (sf : BitVec 1) (rm rn rd : Reg) (s : State) : Result :=
  let x := intOf unsigned (s.readXW (datasize sf) rn)
  let y := intOf unsigned (s.readXW (datasize sf) rm)
  finish s (.ok (s.writeX rd (BitVec.ofInt (datasize sf) (if y = 0 then 0 else x.tdiv y))))

/-- CRC32 and CRC32C: the size check, then the feature check (44 R391, R392). -/
def crcUpdate (poly : BitVec 32) (sf : BitVec 1) (rm : Reg) (sz : BitVec 2) (rn rd : Reg) (s : State) : Result :=
  finish s
    (match crcSize sf sz, s.cfg.haveCRC with
      | some size, true => .ok (s.writeX rd (crc32Value poly (s.readXW 32 rn) (s.readX rm) size))
      | _, _ => .error .undefined)

/-! ## The meanings -/

/-- CRC32B, CRC32H, CRC32W, CRC32X (44 R391). -/
def execCrc32 (sf : BitVec 1) (rm : Reg) (sz : BitVec 2) (rn rd : Reg) (s : State) : Result :=
  crcUpdate 0x04C11DB7#32 sf rm sz rn rd s

/-- CRC32CB, CRC32CH, CRC32CW, CRC32CX (44 R392). -/
def execCrc32c (sf : BitVec 1) (rm : Reg) (sz : BitVec 2) (rn rd : Reg) (s : State) : Result :=
  crcUpdate 0x1EDC6F41#32 sf rm sz rn rd s

/-- MADD (44 R393). -/
def execMadd (sf : BitVec 1) (rm ra rn rd : Reg) (s : State) : Result :=
  multiplyAdd false sf rm ra rn rd s

/-- MSUB (44 R395). -/
def execMsub (sf : BitVec 1) (rm ra rn rd : Reg) (s : State) : Result :=
  multiplyAdd true sf rm ra rn rd s

/-- SDIV (44 R397). -/
def execSdiv (sf : BitVec 1) (rm rn rd : Reg) (s : State) : Result :=
  divide false sf rm rn rd s

/-- SMADDL (44 R398). -/
def execSmaddl (rm ra rn rd : Reg) (s : State) : Result :=
  multiplyAddLong false false rm ra rn rd s

/-- SMSUBL (44 R400). -/
def execSmsubl (rm ra rn rd : Reg) (s : State) : Result :=
  multiplyAddLong false true rm ra rn rd s

/-- SMULH (44 R401). -/
def execSmulh (rm rn rd : Reg) (s : State) : Result :=
  multiplyHigh false rm rn rd s

/-- UDIV (44 R403). -/
def execUdiv (sf : BitVec 1) (rm rn rd : Reg) (s : State) : Result :=
  divide true sf rm rn rd s

/-- UMADDL (44 R404). -/
def execUmaddl (rm ra rn rd : Reg) (s : State) : Result :=
  multiplyAddLong true false rm ra rn rd s

/-- UMSUBL (44 R406). -/
def execUmsubl (rm ra rn rd : Reg) (s : State) : Result :=
  multiplyAddLong true true rm ra rn rd s

/-- UMULH (44 R407). -/
def execUmulh (rm rn rd : Reg) (s : State) : Result :=
  multiplyHigh true rm rn rd s

/-- MNEG (44 R394), an alias of MSUB (30 R196). -/
def execMneg (sf : BitVec 1) (rm rn rd : Reg) (s : State) : Result :=
  multiplyAdd true sf rm 31#5 rn rd s

/-- MUL (44 R396), an alias of MADD (30 R196). -/
def execMul (sf : BitVec 1) (rm rn rd : Reg) (s : State) : Result :=
  multiplyAdd false sf rm 31#5 rn rd s

/-- SMNEGL (44 R399), an alias of SMSUBL (30 R196). -/
def execSmnegl (rm rn rd : Reg) (s : State) : Result :=
  multiplyAddLong false true rm 31#5 rn rd s

/-- SMULL (44 R402), an alias of SMADDL (30 R196). -/
def execSmull (rm rn rd : Reg) (s : State) : Result :=
  multiplyAddLong false false rm 31#5 rn rd s

/-- UMNEGL (44 R405), an alias of UMSUBL (30 R196). -/
def execUmnegl (rm rn rd : Reg) (s : State) : Result :=
  multiplyAddLong true true rm 31#5 rn rd s

/-- UMULL (44 R408), an alias of UMADDL (30 R196). -/
def execUmull (rm rn rd : Reg) (s : State) : Result :=
  multiplyAddLong true false rm 31#5 rn rd s

end Sys2Proof.Machine
end

