-- ==== Sys2Proof/Machine/Shift.lean ====
section
/-! DEFINITION. Variable shifts, bitfield moves, extraction, counting and reversal (42 R300 to R335). -/

namespace Sys2Proof.Machine

/-- A shift by a register, modulo the operand size (42 R303). -/
def shiftVariable (t : ShiftType) (sf : BitVec 1) (rm rn rd : Reg) (s : State) : Result :=
  finish s (.ok (s.writeX rd
    (shiftValue t (s.readXW (datasize sf) rn) ((s.readXW (datasize sf) rm).toNat % datasize sf))))

/-- The rotated source of a bitfield move, in the bits of `wmask` (42 R306, R326, R332). -/
def State.bitfieldBottom (s : State) (sf : BitVec 1) (immr : BitVec 6) (rn : Reg) (wmask : BitVec (datasize sf)) :
    BitVec (datasize sf) :=
  (s.readXW (datasize sf) rn).rotateRight immr.toNat &&& wmask

/-- BFM (42 R306). -/
def bitfieldInsert (sf n : BitVec 1) (immr imms : BitVec 6) (rn rd : Reg) (s : State) : Result :=
  finish s ((orUndefined (bitfieldMasks sf n immr imms)).map fun (wmask, tmask) =>
    let dst := s.readXW (datasize sf) rd
    let bot := (dst &&& ~~~wmask) ||| s.bitfieldBottom sf immr rn wmask
    s.writeX rd ((dst &&& ~~~tmask) ||| (bot &&& tmask)))

/-- SBFM (42 R326). -/
def bitfieldSigned (sf n : BitVec 1) (immr imms : BitVec 6) (rn rd : Reg) (s : State) : Result :=
  finish s ((orUndefined (bitfieldMasks sf n immr imms)).map fun (wmask, tmask) =>
    let bot := s.bitfieldBottom sf immr rn wmask
    let top := if (s.readXW (datasize sf) rn).getLsbD imms.toNat then BitVec.allOnes (datasize sf) else 0#(datasize sf)
    s.writeX rd ((top &&& ~~~tmask) ||| (bot &&& tmask)))

/-- UBFM (42 R332). -/
def bitfieldUnsigned (sf n : BitVec 1) (immr imms : BitVec 6) (rn rd : Reg) (s : State) : Result :=
  finish s ((orUndefined (bitfieldMasks sf n immr imms)).map fun (wmask, tmask) =>
    s.writeX rd (s.bitfieldBottom sf immr rn wmask &&& tmask))

/-- The position of EXTR: N must equal `sf`, and a 32-bit form reserves `imms[5]` (30 R150, R151). -/
def extractPosition (sf n : BitVec 1) (imms : BitVec 6) : Option Nat :=
  if n ≠ sf ∨ (sf = 0#1 ∧ imms.getLsbD 5) then none else some imms.toNat

/-- EXTR (42 R310). -/
def extractPair (sf n : BitVec 1) (rm : Reg) (imms : BitVec 6) (rn rd : Reg) (s : State) : Result :=
  finish s ((orUndefined (extractPosition sf n imms)).map fun lsb =>
    s.writeX rd ((s.readXW (datasize sf) rn ++ s.readXW (datasize sf) rm).extractLsb' lsb (datasize sf)))

/-- An operation on the one source register of `w` bits (42 R308 to R320). -/
def oneSource (w : Nat) (f : BitVec w → BitVec w) (rn rd : Reg) (s : State) : Result :=
  finish s (.ok (s.writeX rd (f (s.readXW w rn))))

/-! ## The meanings -/

/-- ASRV (42 R303). -/
def execAsrv (sf : BitVec 1) (rm rn rd : Reg) (s : State) : Result :=
  shiftVariable .asr sf rm rn rd s

/-- BFM (42 R306). -/
def execBfm (sf n : BitVec 1) (immr imms : BitVec 6) (rn rd : Reg) (s : State) : Result :=
  bitfieldInsert sf n immr imms rn rd s

/-- CLS (42 R308). -/
def execCls (sf : BitVec 1) (rn rd : Reg) (s : State) : Result :=
  oneSource (datasize sf) (fun v => BitVec.ofNat _ (countLeadingSignBits v)) rn rd s

/-- CLZ (42 R309). -/
def execClz (sf : BitVec 1) (rn rd : Reg) (s : State) : Result :=
  oneSource (datasize sf) (fun v => BitVec.ofNat _ (countLeadingZeroBits v)) rn rd s

/-- EXTR (42 R310). -/
def execExtr (sf n : BitVec 1) (rm : Reg) (imms : BitVec 6) (rn rd : Reg) (s : State) : Result :=
  extractPair sf n rm imms rn rd s

/-- LSLV (42 R313). -/
def execLslv (sf : BitVec 1) (rm rn rd : Reg) (s : State) : Result :=
  shiftVariable .lsl sf rm rn rd s

/-- LSRV (42 R316). -/
def execLsrv (sf : BitVec 1) (rm rn rd : Reg) (s : State) : Result :=
  shiftVariable .lsr sf rm rn rd s

/-- RBIT (42 R317). -/
def execRbit (sf : BitVec 1) (rn rd : Reg) (s : State) : Result :=
  oneSource (datasize sf) bitReverse rn rd s

/-- REV (32-bit) (42 R318). -/
def execRev32Bit (rn rd : Reg) (s : State) : Result :=
  oneSource 32 (reverseBytes 4) rn rd s

/-- REV (64-bit) (42 R318). -/
def execRev64Bit (rn rd : Reg) (s : State) : Result :=
  oneSource 64 (reverseBytes 8) rn rd s

/-- REV16 (42 R319). -/
def execRev16 (sf : BitVec 1) (rn rd : Reg) (s : State) : Result :=
  oneSource (datasize sf) (reverseBytes 2) rn rd s

/-- REV32 (42 R320). -/
def execRev32 (rn rd : Reg) (s : State) : Result :=
  oneSource 64 (reverseBytes 4) rn rd s

/-- RORV (42 R324). -/
def execRorv (sf : BitVec 1) (rm rn rd : Reg) (s : State) : Result :=
  shiftVariable .ror sf rm rn rd s

/-- SBFM (42 R326). -/
def execSbfm (sf n : BitVec 1) (immr imms : BitVec 6) (rn rd : Reg) (s : State) : Result :=
  bitfieldSigned sf n immr imms rn rd s

/-- UBFM (42 R332). -/
def execUbfm (sf n : BitVec 1) (immr imms : BitVec 6) (rn rd : Reg) (s : State) : Result :=
  bitfieldUnsigned sf n immr imms rn rd s

/-- ASR (register) (42 R301), an alias of ASRV (30 R196). -/
def execAsrRegister (sf : BitVec 1) (rm rn rd : Reg) (s : State) : Result :=
  shiftVariable .asr sf rm rn rd s

/-- ASR (immediate) (42 R302), an alias of SBFM (30 R196). -/
def execAsrImmediate (sf n : BitVec 1) (immr : BitVec 6) (imms5 : BitVec 1) (rn rd : Reg) (s : State) : Result :=
  bitfieldSigned sf n immr (imms5 ++ 31#5) rn rd s

/-- BFC (42 R304), an alias of BFM (30 R196). -/
def execBfc (sf n : BitVec 1) (immr imms : BitVec 6) (rd : Reg) (s : State) : Result :=
  bitfieldInsert sf n immr imms 31#5 rd s

/-- BFI (42 R305), an alias of BFM (30 R196). -/
def execBfi (sf n : BitVec 1) (immr imms : BitVec 6) (rn rd : Reg) (s : State) : Result :=
  bitfieldInsert sf n immr imms rn rd s

/-- BFXIL (42 R307), an alias of BFM (30 R196). -/
def execBfxil (sf n : BitVec 1) (immr imms : BitVec 6) (rn rd : Reg) (s : State) : Result :=
  bitfieldInsert sf n immr imms rn rd s

/-- LSL (register) (42 R311), an alias of LSLV (30 R196). -/
def execLslRegister (sf : BitVec 1) (rm rn rd : Reg) (s : State) : Result :=
  shiftVariable .lsl sf rm rn rd s

/-- LSL (immediate) (42 R312), an alias of UBFM (30 R196). -/
def execLslImmediate (sf n : BitVec 1) (immr imms : BitVec 6) (rn rd : Reg) (s : State) : Result :=
  bitfieldUnsigned sf n immr imms rn rd s

/-- LSR (register) (42 R314), an alias of LSRV (30 R196). -/
def execLsrRegister (sf : BitVec 1) (rm rn rd : Reg) (s : State) : Result :=
  shiftVariable .lsr sf rm rn rd s

/-- LSR (immediate) (42 R315), an alias of UBFM (30 R196). -/
def execLsrImmediate (sf n : BitVec 1) (immr : BitVec 6) (imms5 : BitVec 1) (rn rd : Reg) (s : State) : Result :=
  bitfieldUnsigned sf n immr (imms5 ++ 31#5) rn rd s

/-- REV64 (42 R321), an alias of REV (64-bit) (30 R196). -/
def execRev64 (rn rd : Reg) (s : State) : Result :=
  oneSource 64 (reverseBytes 8) rn rd s

/-- ROR (immediate) (42 R322), an alias of EXTR (30 R196). -/
def execRorImmediate (sf n : BitVec 1) (rm : Reg) (imms : BitVec 6) (rn rd : Reg) (s : State) : Result :=
  extractPair sf n rm imms rn rd s

/-- ROR (register) (42 R323), an alias of RORV (30 R196). -/
def execRorRegister (sf : BitVec 1) (rm rn rd : Reg) (s : State) : Result :=
  shiftVariable .ror sf rm rn rd s

/-- SBFIZ (42 R325), an alias of SBFM (30 R196). -/
def execSbfiz (sf n : BitVec 1) (immr imms : BitVec 6) (rn rd : Reg) (s : State) : Result :=
  bitfieldSigned sf n immr imms rn rd s

/-- SBFX (42 R327), an alias of SBFM (30 R196). -/
def execSbfx (sf n : BitVec 1) (immr imms : BitVec 6) (rn rd : Reg) (s : State) : Result :=
  bitfieldSigned sf n immr imms rn rd s

/-- SXTB (42 R328), an alias of SBFM (30 R196). -/
def execSxtb (sf n : BitVec 1) (rn rd : Reg) (s : State) : Result :=
  bitfieldSigned sf n 0#6 7#6 rn rd s

/-- SXTH (42 R329), an alias of SBFM (30 R196). -/
def execSxth (sf n : BitVec 1) (rn rd : Reg) (s : State) : Result :=
  bitfieldSigned sf n 0#6 15#6 rn rd s

/-- SXTW (42 R330), an alias of SBFM (30 R196). -/
def execSxtw (rn rd : Reg) (s : State) : Result :=
  bitfieldSigned 1#1 1#1 0#6 31#6 rn rd s

/-- UBFIZ (42 R331), an alias of UBFM (30 R196). -/
def execUbfiz (sf n : BitVec 1) (immr imms : BitVec 6) (rn rd : Reg) (s : State) : Result :=
  bitfieldUnsigned sf n immr imms rn rd s

/-- UBFX (42 R333), an alias of UBFM (30 R196). -/
def execUbfx (sf n : BitVec 1) (immr imms : BitVec 6) (rn rd : Reg) (s : State) : Result :=
  bitfieldUnsigned sf n immr imms rn rd s

/-- UXTB (42 R334), an alias of UBFM (30 R196). -/
def execUxtb (rn rd : Reg) (s : State) : Result :=
  bitfieldUnsigned 0#1 0#1 0#6 7#6 rn rd s

/-- UXTH (42 R335), an alias of UBFM (30 R196). -/
def execUxth (rn rd : Reg) (s : State) : Result :=
  bitfieldUnsigned 0#1 0#1 0#6 15#6 rn rd s

end Sys2Proof.Machine
end

