-- ==== Sys2Proof/Machine/SysRegs.lean ====
section
/-! DEFINITION. The system registers: their addresses, access rights and contents (10 R60 to R76; 49 R730, R731). -/

namespace Sys2Proof.Machine

/-- The address of a system register: `op0:op1:CRn:CRm:op2` (10 R60). -/
def sysAddress (op0 : BitVec 2) (op1 : BitVec 3) (crn crm : BitVec 4) (op2 : BitVec 3) : BitVec 16 :=
  op0 ++ op1 ++ crn ++ crm ++ op2

/-- The `op1` of the registers that EL1, EL2 and EL3 each have one of (10 R62). -/
def bankOp1 : EL → BitVec 3
  | .el0 => 0
  | .el1 => 0
  | .el2 => 4
  | .el3 => 6

/-- The address of a register (10 R62). -/
def SysReg.address : SysReg → BitVec 16
  | .nzcv => sysAddress 3 3 4 2 0
  | .daif => sysAddress 3 3 4 2 1
  | .currentEL => sysAddress 3 0 4 2 2
  | .spSel => sysAddress 3 0 4 2 0
  | .pan => sysAddress 3 0 4 2 3
  | .uao => sysAddress 3 0 4 2 4
  | .spEL0 => sysAddress 3 0 4 1 0
  | .spEL1 => sysAddress 3 4 4 1 0
  | .spEL2 => sysAddress 3 6 4 1 0
  | .spsr level => sysAddress 3 (bankOp1 level) 4 0 0
  | .elr level => sysAddress 3 (bankOp1 level) 4 0 1
  | .esr level => sysAddress 3 (bankOp1 level) 5 2 0
  | .far level => sysAddress 3 (bankOp1 level) 6 0 0
  | .vbar level => sysAddress 3 (bankOp1 level) 12 0 0
  | .sctlr level => sysAddress 3 (bankOp1 level) 1 0 0
  | .hcr => sysAddress 3 4 1 1 0
  | .scr => sysAddress 3 6 1 1 0
  | .dlr => sysAddress 3 3 4 5 1
  | .dspsr => sysAddress 3 3 4 5 0
  | .disr => sysAddress 3 0 12 1 1
  | .vdisr => sysAddress 3 4 12 1 1
  | .par => sysAddress 3 0 7 4 0
  | .dczid => sysAddress 3 3 0 0 7
  | .tpidr => sysAddress 3 3 13 0 2
  | .isar0 => sysAddress 3 0 0 6 0
  | .extra r => r.address

/-- The register at an address, if `P_SYSREG` has one (10 R61(1), R62). -/
def State.sysRegAt (s : State) (address : BitVec 16) : Option SysReg :=
  s.cfg.sysRegs.find? (fun reg => reg.address = address)

/-- The lowest level that may use an address with this `op1` (10 R61(2)). -/
def minimumLevel (op1 : BitVec 3) : Nat :=
  match op1.toNat with
  | 3 => 0
  | 4 => 2
  | 5 => 2
  | 6 => 3
  | _ => 1

/-- The PE is at the lowest level that may use an address with this `op1`, or above it, and for 7 in Secure state
(10 R61(2)). Whether that level is implemented is not asked here. -/
def State.levelAllows (s : State) (op1 : BitVec 3) : Bool :=
  decide (minimumLevel op1 ≤ s.p.el.toNat) && (decide (op1 ≠ 7#3) || s.isSecure)

/-- Whether a register exists now, by the access column of 10 R62. SP_EL2 and HCR_EL2 exist only with EL2 (10 R45, R67),
SCR_EL3 only with EL3 (10 R68); the other registers of a level have no such condition (log 17). -/
def State.sysRegPresent (s : State) : SysReg → Bool
  | .pan => s.cfg.havePAN
  | .uao => s.cfg.haveUAO
  | .spEL0 => s.p.sp
  | .spEL2 => s.cfg.haveEL2
  | .hcr => s.cfg.haveEL2
  | .scr => s.cfg.haveEL3
  | .dlr => s.halted
  | .dspsr => s.halted
  | .disr => s.cfg.haveRAS
  | .vdisr => s.cfg.haveRAS
  | _ => true

/-- Registers that MRS may name (10 R61(1), R62). -/
def SysReg.readable : SysReg → Bool
  | .extra r => r.readable
  | _ => true

/-- Registers that MSR (register) may name (10 R61(1), R62). -/
def SysReg.writable : SysReg → Bool
  | .currentEL => false
  | .dczid => false
  | .isar0 => false
  | .extra r => r.writable
  | _ => true

/-- An access by EL0 to the DAIF bits is trapped: SCTLR_EL1.UMA is 0 (10 R62; 49 R730), or the PE is in host mode, which
49 R732 gives for MSR (immediate) and the model takes for MRS and MSR (register) too. DEDUCED (log 36). -/
def State.daifTrapped (s : State) : Bool :=
  decide (s.p.el = .el0) && (s.inHost || !s.el1.sctlr.getLsbD 9)

/-- `AArch64.CheckSystemAccess` for MRS and MSR (register): the register at the address, unless the access is UNDEFINED or
trapped (10 R61). -/
def State.checkSysReg (s : State) (op0 : BitVec 2) (op1 : BitVec 3) (crn crm : BitVec 4) (op2 : BitVec 3) (rt : Reg)
    (read : Bool) : Except Exc SysReg :=
  match s.sysRegAt (sysAddress op0 op1 crn crm op2) with
  | none => .error .undefined
  | some reg =>
    if !s.levelAllows op1 || !s.sysRegPresent reg || !(if read then reg.readable else reg.writable) then
      .error .undefined
    else if reg = .daif ∧ s.daifTrapped then
      .error (.systemRegisterTrap .el1 op0 op2 op1 crn rt crm (BitVec.ofBool read))
    else .ok reg

/-- One bit at a position of a 64-bit value. -/
def bitAt (b : Bool) (i : Nat) : DWord := (BitVec.ofBool b).setWidth 64 <<< i

/-- The DAIF mask bits in bits 9:6 (10 R62). -/
def PState.daifImage (p : PState) : DWord := bitAt p.d 9 ||| bitAt p.a 8 ||| bitAt p.i 7 ||| bitAt p.f 6

/-- The value at an address, of the registers that the user of the model adds (log 39). -/
def extraValue (address : BitVec 16) : List (BitVec 16 × DWord) → DWord
  | [] => 0#64
  | (k, v) :: rest => if k = address then v else extraValue address rest

/-- A write of the value at an address (log 39). -/
def setExtraValue (address : BitVec 16) (v : DWord) : List (BitVec 16 × DWord) → List (BitVec 16 × DWord)
  | [] => [(address, v)]
  | (k, w) :: rest => if k = address then (k, v) :: rest else (k, w) :: setExtraValue address v rest

/-- `AArch64.SysRegRead` (49 R730). -/
def State.readSysReg (s : State) : SysReg → DWord
  | .nzcv => s.p.flags.toBits.setWidth 64 <<< 28
  | .daif => s.p.daifImage
  | .currentEL => s.p.el.bits.setWidth 64 <<< 2
  | .spSel => bitAt s.p.sp 0
  | .pan => bitAt s.p.pan 22
  | .uao => bitAt s.p.uao 23
  | .spEL0 => s.spEL0
  | .spEL1 => s.spEL1
  | .spEL2 => s.spEL2
  | .spsr level => (s.elRegs level).spsr
  | .elr level => (s.elRegs level).elr
  | .esr level => (s.elRegs level).esr
  | .far level => (s.elRegs level).far
  | .vbar level => (s.elRegs level).vbar
  | .sctlr level => (s.elRegs level).sctlr
  | .hcr => s.hcr
  | .scr => s.scr
  | .dlr => s.dlr
  | .dspsr => s.dspsr
  | .disr => s.disr
  | .vdisr => s.vdisr
  | .par => s.par
  | .dczid => s.cfg.dczvaBS.setWidth 64
  | .tpidr => s.tpidr
  | .isar0 =>
    (if s.cfg.haveCRC then 1#64 <<< 16 else 0#64) ||| (if s.cfg.haveAtomics then 2#64 <<< 20 else 0#64)
  | .extra r => extraValue r.address s.extra

/-- The bits of `old` outside `mask`, and of `new` inside it (49 R731). -/
def writeMasked (mask old new : DWord) : DWord := (old &&& ~~~mask) ||| (new &&& mask)

/-- The bits of an SPSR that 10 R65 defines; the others are RES0 (log 18). -/
def spsrMask : DWord := 0xF0F003DD#64

/-- The bits of a VBAR that can be written: bits 10:0 are RES0 (60 R833). -/
def vbarMask : DWord := ~~~0x7FF#64

/-- The bits of an SCTLR that can be written: EE and E0E only with big-endian support (20 R95). -/
def State.sctlrMask (s : State) : DWord := if s.cfg.bigEndianSupported then ~~~0#64 else ~~~0x3000000#64

/-- `AArch64.SysRegWrite` (49 R731). A read-only register keeps its value; `checkSysReg` refuses its write. -/
def State.writeSysReg (s : State) (reg : SysReg) (v : DWord) : State :=
  match reg with
  | .nzcv => s.writeFlags (Flags.ofBits (v.extractLsb' 28 4))
  | .daif =>
    { s with p := { s.p with d := v.getLsbD 9, a := v.getLsbD 8, i := v.getLsbD 7, f := v.getLsbD 6 } }
  | .currentEL => s
  | .spSel => { s with p := { s.p with sp := v.getLsbD 0 } }
  | .pan => { s with p := { s.p with pan := v.getLsbD 22 } }
  | .uao => { s with p := { s.p with uao := v.getLsbD 23 } }
  | .spEL0 => { s with spEL0 := v }
  | .spEL1 => { s with spEL1 := v }
  | .spEL2 => { s with spEL2 := v }
  | .spsr level =>
    s.setElRegs level { s.elRegs level with spsr := writeMasked spsrMask (s.elRegs level).spsr v }
  | .elr level => s.setElRegs level { s.elRegs level with elr := v }
  | .esr level => s.setElRegs level { s.elRegs level with esr := v }
  | .far level => s.setElRegs level { s.elRegs level with far := v }
  | .vbar level =>
    s.setElRegs level { s.elRegs level with vbar := writeMasked vbarMask (s.elRegs level).vbar v }
  | .sctlr level =>
    s.setElRegs level { s.elRegs level with sctlr := writeMasked s.sctlrMask (s.elRegs level).sctlr v }
  | .hcr => { s with hcr := v }
  | .scr => { s with scr := v }
  | .dlr => { s with dlr := v }
  | .dspsr => { s with dspsr := v }
  | .disr => { s with disr := v }
  | .vdisr => { s with vdisr := v }
  | .par => { s with par := v }
  | .dczid => s
  | .tpidr => { s with tpidr := v }
  | .isar0 => s
  | .extra r =>
    { s with extra := setExtraValue r.address (writeMasked r.mask (extraValue r.address s.extra) v) s.extra }

/-- MRS (49 R730). -/
def readSystem (o0 : BitVec 1) (op1 : BitVec 3) (crn crm : BitVec 4) (op2 : BitVec 3) (rt : Reg) (s : State) : Result :=
  finish s ((s.checkSysReg (1#1 ++ o0) op1 crn crm op2 rt true).map fun reg => s.writeX rt (s.readSysReg reg))

/-- MSR (register) (49 R731). -/
def writeSystem (o0 : BitVec 1) (op1 : BitVec 3) (crn crm : BitVec 4) (op2 : BitVec 3) (rt : Reg)
    (s : State) : Result :=
  finish s ((s.checkSysReg (1#1 ++ o0) op1 crn crm op2 rt false).map fun reg => s.writeSysReg reg (s.readX rt))

/-- The PSTATE fields that MSR (immediate) writes (49 R732). -/
inductive PStateField where
  | uao | pan | sp | daifSet | daifClr
deriving DecidableEq, Repr

/-- The field that `op1:op2` names; the others are reserved (30 R151; 49 R732). -/
def pstateField (op1 op2 : BitVec 3) : Option PStateField :=
  if op1 = 0#3 ∧ op2 = 3#3 then some .uao
  else if op1 = 0#3 ∧ op2 = 4#3 then some .pan
  else if op1 = 0#3 ∧ op2 = 5#3 then some .sp
  else if op1 = 3#3 ∧ op2 = 6#3 then some .daifSet
  else if op1 = 3#3 ∧ op2 = 7#3 then some .daifClr
  else none

/-- A field that the configuration has and the current level may write (49 R732). -/
def State.pstateFieldPresent (s : State) : PStateField → Bool
  | .uao => s.cfg.haveUAO && decide (s.p.el ≠ .el0)
  | .pan => s.cfg.havePAN && decide (s.p.el ≠ .el0)
  | .sp => decide (s.p.el ≠ .el0)
  | .daifSet => true
  | .daifClr => true

/-- The write of a PSTATE field (49 R732). -/
def PState.writeField (p : PState) (field : PStateField) (operand : BitVec 4) : PState :=
  match field with
  | .uao => { p with uao := operand.getLsbD 0 }
  | .pan => { p with pan := operand.getLsbD 0 }
  | .sp => { p with sp := operand.getLsbD 0 }
  | .daifSet =>
    { p with
      d := p.d || operand.getLsbD 3
      a := p.a || operand.getLsbD 2
      i := p.i || operand.getLsbD 1
      f := p.f || operand.getLsbD 0 }
  | .daifClr =>
    { p with
      d := p.d && !operand.getLsbD 3
      a := p.a && !operand.getLsbD 2
      i := p.i && !operand.getLsbD 1
      f := p.f && !operand.getLsbD 0 }

/-- MSR (immediate) (49 R732). -/
def writePState (op1 : BitVec 3) (crm : BitVec 4) (op2 : BitVec 3) (s : State) : Result :=
  finish s
    (match pstateField op1 op2 with
      | none => .error .undefined
      | some field =>
        if !s.pstateFieldPresent field then .error .undefined
        else if op1 = 3#3 ∧ s.daifTrapped then
          .error (.systemRegisterTrap .el1 0#2 op2 op1 4#4 31#5 crm 0#1)
        else .ok { s with p := s.p.writeField field crm })

/-! ## The meanings -/

/-- MRS (49 R730). -/
def execMrs (o0 : BitVec 1) (op1 : BitVec 3) (crn crm : BitVec 4) (op2 : BitVec 3) (rt : Reg) (s : State) : Result :=
  readSystem o0 op1 crn crm op2 rt s

/-- MSR (immediate) (49 R732). -/
def execMsrImmediate (op1 : BitVec 3) (crm : BitVec 4) (op2 : BitVec 3) (s : State) : Result :=
  writePState op1 crm op2 s

/-- MSR (register) (49 R731). -/
def execMsrRegister (o0 : BitVec 1) (op1 : BitVec 3) (crn crm : BitVec 4) (op2 : BitVec 3) (rt : Reg) (s : State)
    : Result :=
  writeSystem o0 op1 crn crm op2 rt s

end Sys2Proof.Machine
end

