-- ==== Sys2Proof/Machine/System.lean ====
section
/-! DEFINITION. Exception generation and return, debug, hints, barriers and the system instructions (49 R700 to R747). -/

namespace Sys2Proof.Machine

/-! ## Exception generation and return -/

/-- HVC (49 R703). -/
def hypervisorCall (imm16 : BitVec 16) (s : State) : Result :=
  if !s.cfg.haveEL2 || decide (s.p.el = .el0) || (decide (s.p.el = .el1) && s.isSecure) then raise s .undefined
  else if (if s.cfg.haveEL3 then s.scr.getLsbD 8 else !s.hcr.getLsbD 29) then raise s (.hypervisorCall imm16)
  else raise s .undefined

/-- SMC: the level test, the trap to EL2, then the disable (49 R704; 60 R848). -/
def secureMonitorCall (imm16 : BitVec 16) (s : State) : Result :=
  if !s.cfg.haveEL3 || decide (s.p.el = .el0) then raise s .undefined
  else if decide (s.p.el = .el1) && s.el2Acts && s.hcr.getLsbD 19 then raise s (.smcTrap imm16)
  else if s.scr.getLsbD 7 then raise s .undefined
  else raise s (.secureMonitorCall imm16)

/-- ERET (49 R710). -/
def exceptionReturn (s : State) : Result :=
  if s.p.el = .el0 then raise s .undefined
  else .next (s.exceptionReturn (s.elRegs s.p.el).elr (s.elRegs s.p.el).spsr)

/-! ## Debug -/

/-- HLT: into Debug state if halting is enabled and allowed (49 R705; 60 R844). -/
def halt (s : State) : Result :=
  if s.edscr.getLsbD 14 && s.haltingAllowed then
    .next { s with halted := true, dlr := s.pc, dspsr := s.p.image }
  else raise s .undefined

/-- `DCPSInstruction`: the level and its stack pointer change, and the registers named become UNKNOWN (60 R843). -/
def State.changeLevel (s : State) (target : EL) : State :=
  let r := s.elRegs target
  let s' := s.setElRegs target { r with elr := s.unknownAt 0, spsr := s.unknownAt 1, esr := s.unknownAt 2 }
  { s' with
    p := { s.p with el := target, sp := true }
    dlr := s.unknownAt 3
    dspsr := s.unknownAt 4
    draws := s.draws + 5 }

/-- The target of DCPS1 and DCPS2: the level itself if it is at least `low` (49 R706, R707). -/
def State.raisedTo (s : State) (low : EL) : EL := if s.p.el.toNat < low.toNat then low else s.p.el

/-- DCPS1: UNDEFINED outside Debug state (49 R706; log 23). -/
def debugChange1 (s : State) : Result :=
  if !s.halted || (decide (s.p.el = .el0) && s.tge) then raise s .undefined
  else .next (s.changeLevel (s.raisedTo .el1))

/-- DCPS2: UNDEFINED outside Debug state (49 R707; log 23). -/
def debugChange2 (s : State) : Result :=
  if !s.halted || !s.cfg.haveEL2 || (decide (s.p.el.toNat < 2) && s.isSecure) then raise s .undefined
  else .next (s.changeLevel (s.raisedTo .el2))

/-- DCPS3: UNDEFINED outside Debug state (49 R708; log 23). -/
def debugChange3 (s : State) : Result :=
  if !s.halted || !s.cfg.haveEL3 || s.edscr.getLsbD 16 then raise s .undefined
  else .next (s.changeLevel .el3)

/-- DRPS: UNDEFINED outside Debug state and at EL0 (49 R709; 60 R842; log 23). -/
def debugRestore (s : State) : Result :=
  if !s.halted || decide (s.p.el = .el0) then raise s .undefined
  else
    .next { s with
      p := s.returnPState (s.elRegs s.p.el).spsr
      dlr := s.unknownAt 0
      dspsr := s.unknownAt 1
      draws := s.draws + 2 }

/-! ## Hints and barriers -/

/-- An instruction that changes nothing but the pc: NOP, YIELD, the other hints, the barriers, PSB CSYNC (49 R711 to R713,
R719 to R722). -/
def noEffect (s : State) : Result := .next s.advance

/-- `CheckForWfxTrap` of one level (60 R847). -/
def State.wfxTraps (s : State) (target : EL) (isWfe : Bool) : Bool :=
  match target with
  | .el1 => !(if s.inHost then s.el2.sctlr else s.el1.sctlr).getLsbD (if isWfe then 18 else 16)
  | .el2 => s.hcr.getLsbD (if isWfe then 14 else 13)
  | .el3 => s.scr.getLsbD (if isWfe then 13 else 12)
  | .el0 => false

/-- The checks that WFE and WFI make before they wait, EL1 first (49 R714, R715). -/
def State.checkWfx (s : State) (isWfe : Bool) : Except Exc Unit :=
  if decide (s.p.el = .el0) && s.wfxTraps .el1 isWfe then .error (.wfxTrap .el1 isWfe)
  else if s.el2Acts && decide (s.p.el.toNat < 2) && !s.inHost && s.wfxTraps .el2 isWfe then
    .error (.wfxTrap .el2 isWfe)
  else if s.cfg.haveEL3 && decide (s.p.el ≠ .el3) && s.wfxTraps .el3 isWfe then .error (.wfxTrap .el3 isWfe)
  else .ok ()

/-- WFE: consumes a set event register; else waits, and the wait ends at once (49 R714; log 11). -/
def waitForEvent (s : State) : Result :=
  finish s (if s.event then .ok { s with event := false } else (s.checkWfx true).map fun _ => s)

/-- WFI: returns at once if an interrupt is pending; else waits, and the wait ends at once (49 R715; log 11). -/
def waitForInterrupt (s : State) : Result :=
  finish s (if s.interruptPending then .ok s else (s.checkWfx false).map fun _ => s)

/-- SEV and SEVL: the event register is set (49 R716, R717). -/
def sendEvent (s : State) : Result := .next { s with event := true }.advance

/-- A deferred SError, as a layout places it: A and the syndrome (60 R849; log 22). -/
def deferred (l : DeferredLayout) (iss : BitVec 25) : DWord :=
  1#64 <<< l.aBit.toNat ||| (iss &&& l.kept).setWidth 64 <<< l.low.toNat

/-- `AArch64.ESBOperation` (60 R849): a pending SError that is not taken is recorded in DISR_EL1 and stops being pending.
In Debug state every SError is masked (49 R718). -/
def State.esbPhysical (s : State) : State :=
  if s.serrorPending && (s.halted || !s.interruptTaken .serror) then
    { s with disr := deferred s.cfg.disrLayout s.serrorIss, serrorPending := false }
  else s

/-- `AArch64.vESBOperation` (60 R849; log 21): a pending virtual SError that PSTATE.A masks is recorded in VDISR_EL2. -/
def State.esbVirtual (s : State) : State :=
  if s.el2Acts && decide (s.p.el.toNat < 2) && s.vserrorPending && (s.halted || s.p.a) then
    { s with vdisr := deferred s.cfg.vdisrLayout s.vserrorIss, vserrorPending := false }
  else s

/-- ESB with the RAS extension: what is masked is deferred, then an unmasked SError is taken, with the next instruction as
its return address (49 R718; 60 R849). Without RAS it is a NOP. -/
def errorBarrier (s : State) : Result :=
  if s.cfg.haveRAS then
    let s' := s.esbPhysical.esbVirtual
    if !s'.halted && s'.interruptTaken .serror then .next (s'.takeInterrupt .serror (s'.pc + 4#64))
    else .next s'.advance
  else .next s.advance

/-- CLREX (49 R723). -/
def clearExclusive (s : State) : Result := .next s.clearMonitor.advance

/-! ## System instructions -/

/-- The operations of SYS (49 R744 to R747). -/
inductive SysOp where
  /-- AT: the level and the kind of access to check, and whether PSTATE.PAN counts. -/
  | translate (level : EL) (kind : AccessKind) (pan : Bool)
  | dcZva
  /-- DC by address; IVAC also needs write permission, and CVAP its feature. -/
  | dcAddress (needsWrite needsPoP : Bool)
  | dcSetWay
  | icAll
  | icAddress
  | tlbi
deriving DecidableEq, Repr

/-- The key of a system instruction: `op1:CRn:CRm:op2`. -/
def sysOpKey (op1 : BitVec 3) (crn crm : BitVec 4) (op2 : BitVec 3) : BitVec 14 := op1 ++ crn ++ crm ++ op2

/-- The 14 AT operations (49 R744). -/
def atTable : List (BitVec 14 × SysOp) :=
  [ (sysOpKey 0 7 8 0, .translate .el1 .read false), (sysOpKey 0 7 8 1, .translate .el1 .write false),
    (sysOpKey 0 7 8 2, .translate .el0 .read false), (sysOpKey 0 7 8 3, .translate .el0 .write false),
    (sysOpKey 4 7 8 0, .translate .el2 .read false), (sysOpKey 4 7 8 1, .translate .el2 .write false),
    (sysOpKey 4 7 8 4, .translate .el1 .read false), (sysOpKey 4 7 8 5, .translate .el1 .write false),
    (sysOpKey 4 7 8 6, .translate .el0 .read false), (sysOpKey 4 7 8 7, .translate .el0 .write false),
    (sysOpKey 6 7 8 0, .translate .el3 .read false), (sysOpKey 6 7 8 1, .translate .el3 .write false),
    (sysOpKey 0 7 9 0, .translate .el1 .read true), (sysOpKey 0 7 9 1, .translate .el1 .write true) ]

/-- The 9 DC operations (49 R745). -/
def dcTable : List (BitVec 14 × SysOp) :=
  [ (sysOpKey 0 7 6 1, .dcAddress true false), (sysOpKey 0 7 6 2, .dcSetWay), (sysOpKey 0 7 10 2, .dcSetWay),
    (sysOpKey 0 7 14 2, .dcSetWay), (sysOpKey 3 7 4 1, .dcZva), (sysOpKey 3 7 10 1, .dcAddress false false),
    (sysOpKey 3 7 11 1, .dcAddress false false), (sysOpKey 3 7 14 1, .dcAddress false false),
    (sysOpKey 3 7 12 1, .dcAddress false true) ]

/-- The 3 IC operations (49 R746). -/
def icTable : List (BitVec 14 × SysOp) :=
  [ (sysOpKey 0 7 1 0, .icAll), (sysOpKey 0 7 5 0, .icAll), (sysOpKey 3 7 5 1, .icAddress) ]

/-- The keys of the 32 TLBI operations (49 R747). -/
def tlbiKeys : List (BitVec 14) :=
  [ sysOpKey 0 8 3 0, sysOpKey 0 8 3 1, sysOpKey 0 8 3 2, sysOpKey 0 8 3 3, sysOpKey 0 8 3 5, sysOpKey 0 8 3 7,
    sysOpKey 0 8 7 0, sysOpKey 0 8 7 1, sysOpKey 0 8 7 2, sysOpKey 0 8 7 3, sysOpKey 0 8 7 5, sysOpKey 0 8 7 7,
    sysOpKey 4 8 0 1, sysOpKey 4 8 0 5, sysOpKey 4 8 3 0, sysOpKey 4 8 3 1, sysOpKey 4 8 3 4, sysOpKey 4 8 3 5,
    sysOpKey 4 8 3 6, sysOpKey 4 8 4 1, sysOpKey 4 8 4 5, sysOpKey 4 8 7 0, sysOpKey 4 8 7 1, sysOpKey 4 8 7 4,
    sysOpKey 4 8 7 5, sysOpKey 4 8 7 6, sysOpKey 6 8 3 0, sysOpKey 6 8 3 1, sysOpKey 6 8 3 5, sysOpKey 6 8 7 0,
    sysOpKey 6 8 7 1, sysOpKey 6 8 7 5 ]

/-- The operation at a key, if there is one (49 R740). -/
def sysOpAt (key : BitVec 14) : Option SysOp :=
  ((atTable ++ dcTable ++ icTable ++ tlbiKeys.map (fun k => (k, SysOp.tlbi))).find? (fun row => row.1 = key)).map
    Prod.snd

/-- An operation whose feature the configuration has (49 R744, R745). -/
def State.sysOpPresent (s : State) : SysOp → Bool
  | .translate _ _ pan => !pan || s.cfg.haveATS1E1
  | .dcAddress _ needsPoP => !needsPoP || s.cfg.haveDCPoP
  | _ => true

/-- The level whose translations an AT or TLBI operation with this `op1` acts on is implemented: 4 needs EL2, 6 needs EL3
(49 R744, R747); no other operation has such an `op1`. -/
def State.opLevelPresent (s : State) (op1 : BitVec 3) : Bool :=
  (decide (op1 ≠ 4#3) || s.cfg.haveEL2) && (decide (op1 ≠ 6#3) || s.cfg.haveEL3)

/-- A cache operation by EL0 that its enable bit of SCTLR_EL1 forbids: DZE (bit 14) for ZVA, UCI (bit 26) for the others
(49 R745, R746). -/
def State.cacheTrapped (s : State) : SysOp → Bool
  | .dcZva => decide (s.p.el = .el0) && !s.el1.sctlr.getLsbD 14
  | .dcAddress _ _ => decide (s.p.el = .el0) && !s.el1.sctlr.getLsbD 26
  | .icAddress => decide (s.p.el = .el0) && !s.el1.sctlr.getLsbD 26
  | _ => false

/-- `AArch64.CheckSystemAccess` for SYS (10 R61; 49 R740). -/
def State.checkSysOp (s : State) (op1 : BitVec 3) (crn crm : BitVec 4) (op2 : BitVec 3) (rt : Reg) :
    Except Exc SysOp :=
  match sysOpAt (sysOpKey op1 crn crm op2) with
  | none => .error .undefined
  | some op =>
    if !s.levelAllows op1 || !s.opLevelPresent op1 || !s.sysOpPresent op then .error .undefined
    else if s.cacheTrapped op then .error (.systemRegisterTrap .el1 1#2 op2 op1 crn rt crm 0#1)
    else .ok op

/-- The checks of a DC or IC operation on `n` bytes at `a`: translation, then the write permission if it needs one; their
syndrome has CM and WnR set (60 R812; 49 R745, R746). -/
def State.checkCache (s : State) (a : Addr) (n : Nat) (needsWrite : Bool) : Except Exc Unit :=
  match firstByte (fun b => !s.mapped b) a n with
  | some b => .error (.dataAbort b .translation true true)
  | none =>
    match firstByte (fun b => needsWrite && !s.permits .normal .write b) a n with
    | some b => .error (.dataAbort b .permission true true)
    | none => .ok ()

/-- The first byte of the DC ZVA block that contains an address (20 R136). -/
def State.zvaBase (s : State) (a : Addr) : Addr := a >>> s.cfg.dczvaLog2Bytes <<< s.cfg.dczvaLog2Bytes

/-- Whether the translation that AT asks for succeeds (49 R744; log 27). -/
def State.translates (s : State) (level : EL) (kind : AccessKind) (pan : Bool) (a : Addr) : Bool :=
  s.mapped a && s.platformAllows level kind a && !(pan && s.p.pan && s.platformAllows .el0 kind a)

/-- The bits of PAR_EL1 that hold the address: 12 up to the width of a physical address, 47:12 by default (49 R744;
93 U1.13). -/
def State.parAddressBits (s : State) : DWord := (1#64 <<< s.cfg.paBits - 1#64) &&& ~~~0xFFF#64

/-- PAR_EL1 after AT: bit 0 and, on success, the bits of the address are given, the others are UNKNOWN (49 R744;
log 27). -/
def State.parAfter (s : State) (success : Bool) (a : Addr) : DWord :=
  if success then writeMasked (s.parAddressBits ||| 1#64) s.unknown (a &&& ~~~1#64)
  else writeMasked 1#64 s.unknown 1#64

/-- `AArch64.SysInstr` (49 R740, R744 to R747). -/
def State.sysInstr (s : State) (op : SysOp) (a : DWord) : Except Exc State :=
  match op with
  | .translate level kind pan => .ok { s with par := s.parAfter (s.translates level kind pan a) a, draws := s.draws + 1 }
  | .dcZva =>
    (s.checkCache (s.zvaBase a) (2 ^ s.cfg.dczvaLog2Bytes) true).map fun _ =>
      { s with mem := s.mem.zero (s.zvaBase a) (2 ^ s.cfg.dczvaLog2Bytes) }
  | .dcAddress needsWrite _ => (s.checkCache a 1 needsWrite).map fun _ => s
  | .dcSetWay => .ok s
  | .icAll => .ok s
  | .icAddress => (s.checkCache a 1 false).map fun _ => s
  | .tlbi => .ok s

/-- SYS (49 R740). -/
def systemInstruction (op1 : BitVec 3) (crn crm : BitVec 4) (op2 : BitVec 3) (rt : Reg) (s : State) : Result :=
  finish s do
    let op ← s.checkSysOp op1 crn crm op2 rt
    s.sysInstr op (s.readX rt)

/-- SYSL: the model has no operation with a result, so every one is UNDEFINED (49 R741). -/
def systemInstructionResult (s : State) : Result := raise s .undefined

/-! ## The meanings -/

/-- BRK (49 R701). -/
def execBrk (imm16 : BitVec 16) (s : State) : Result :=
  raise s (.softwareBreakpoint imm16)

/-- CLREX (49 R723). -/
def execClrex (_crm : BitVec 4) (s : State) : Result :=
  clearExclusive s

/-- DCPS1 (49 R706). -/
def execDcps1 (_imm16 : BitVec 16) (s : State) : Result :=
  debugChange1 s

/-- DCPS2 (49 R707). -/
def execDcps2 (_imm16 : BitVec 16) (s : State) : Result :=
  debugChange2 s

/-- DCPS3 (49 R708). -/
def execDcps3 (_imm16 : BitVec 16) (s : State) : Result :=
  debugChange3 s

/-- DMB (49 R720). -/
def execDmb (_crm : BitVec 4) (s : State) : Result :=
  noEffect s

/-- DRPS (49 R709). -/
def execDrps (s : State) : Result :=
  debugRestore s

/-- DSB (49 R721). -/
def execDsb (_crm : BitVec 4) (s : State) : Result :=
  noEffect s

/-- ERET (49 R710). -/
def execEret (s : State) : Result :=
  exceptionReturn s

/-- ESB (49 R718). -/
def execEsb (s : State) : Result :=
  errorBarrier s

/-- HINT (49 R711). -/
def execHint (_crm : BitVec 4) (_op2 : BitVec 3) (s : State) : Result :=
  noEffect s

/-- HLT (49 R705). -/
def execHlt (_imm16 : BitVec 16) (s : State) : Result :=
  halt s

/-- HVC (49 R703). -/
def execHvc (imm16 : BitVec 16) (s : State) : Result :=
  hypervisorCall imm16 s

/-- ISB (49 R722). -/
def execIsb (_crm : BitVec 4) (s : State) : Result :=
  noEffect s

/-- NOP (49 R712). -/
def execNop (s : State) : Result :=
  noEffect s

/-- PSB CSYNC (49 R719). -/
def execPsbCsync (s : State) : Result :=
  noEffect s

/-- SEV (49 R716). -/
def execSev (s : State) : Result :=
  sendEvent s

/-- SEVL (49 R717). -/
def execSevl (s : State) : Result :=
  sendEvent s

/-- SMC (49 R704). -/
def execSmc (imm16 : BitVec 16) (s : State) : Result :=
  secureMonitorCall imm16 s

/-- SVC (49 R702). -/
def execSvc (imm16 : BitVec 16) (s : State) : Result :=
  raise s (.supervisorCall imm16)

/-- SYS (49 R740). -/
def execSys (op1 : BitVec 3) (crn crm : BitVec 4) (op2 : BitVec 3) (rt : Reg) (s : State) : Result :=
  systemInstruction op1 crn crm op2 rt s

/-- SYSL (49 R741). -/
def execSysl (_op1 : BitVec 3) (_crn _crm : BitVec 4) (_op2 : BitVec 3) (_rt : Reg) (s : State) : Result :=
  systemInstructionResult s

/-- WFE (49 R714). -/
def execWfe (s : State) : Result :=
  waitForEvent s

/-- WFI (49 R715). -/
def execWfi (s : State) : Result :=
  waitForInterrupt s

/-- YIELD (49 R713). -/
def execYield (s : State) : Result :=
  noEffect s

/-- AT (49 R744), an alias of SYS (30 R196). -/
def execSysAt (op1 : BitVec 3) (crm0 : BitVec 1) (op2 : BitVec 3) (rt : Reg) (s : State) : Result :=
  systemInstruction op1 7#4 (4#3 ++ crm0) op2 rt s

/-- DC (49 R745), an alias of SYS (30 R196). -/
def execSysDc (op1 : BitVec 3) (crm : BitVec 4) (op2 : BitVec 3) (rt : Reg) (s : State) : Result :=
  systemInstruction op1 7#4 crm op2 rt s

/-- IC (49 R746), an alias of SYS (30 R196). -/
def execSysIc (op1 : BitVec 3) (crm : BitVec 4) (op2 : BitVec 3) (rt : Reg) (s : State) : Result :=
  systemInstruction op1 7#4 crm op2 rt s

/-- TLBI (49 R747), an alias of SYS (30 R196). -/
def execSysTlbi (op1 : BitVec 3) (crm : BitVec 4) (op2 : BitVec 3) (rt : Reg) (s : State) : Result :=
  systemInstruction op1 8#4 crm op2 rt s

end Sys2Proof.Machine
end

