-- ==== Sys2Proof/Syntax.lean ====
section
/-! DEFINITION. The instructions: one constructor for each base row of spec/opcode_table.json (30 R160 to R190),
then one for each alias row (30 R196). The arguments are the fields of the row's encoding, most significant first,
each the bits the word holds (30 R142): `sf` the operand size, `rd`, `rn`, `rm`, `ra`, `rt`, `rt2`, `rs` the register
fields. Bits that the table leaves open without a name of their own are called after the field they belong to (30 R143):
`size0` is `size[0]`, `opc0` is `opc[0]`, `opc1` is `opc[1]`, `crm0` is `CRm[0]`, `imms5` is `imms[5]`. Should-be-one
bits (30 R144) are no arguments: the decoder ignores them (log 24). -/

namespace Sys2Proof

/-- An A64 instruction of chapter C6.2. -/
inductive Instr where
  /-- ADC (R201): `sf 0 0 11010000 Rm 000000 Rn Rd`. -/
  | adc (sf : BitVec 1) (rm : Reg) (rn : Reg) (rd : Reg)
  /-- ADCS (R202): `sf 0 1 11010000 Rm 000000 Rn Rd`. -/
  | adcs (sf : BitVec 1) (rm : Reg) (rn : Reg) (rd : Reg)
  /-- ADD (extended register) (R203): `sf 0 0 01011 00 1 Rm option imm3 Rn Rd`. -/
  | addExtendedRegister (sf : BitVec 1) (rm : Reg) (option : BitVec 3) (imm3 : BitVec 3) (rn : Reg) (rd : Reg)
  /-- ADD (immediate) (R204): `sf 0 0 10001 shift imm12 Rn Rd`. -/
  | addImmediate (sf : BitVec 1) (shift : BitVec 2) (imm12 : BitVec 12) (rn : Reg) (rd : Reg)
  /-- ADD (shifted register) (R205): `sf 0 0 01011 shift 0 Rm imm6 Rn Rd`. -/
  | addShiftedRegister (sf : BitVec 1) (shift : BitVec 2) (rm : Reg) (imm6 : BitVec 6) (rn : Reg) (rd : Reg)
  /-- ADDS (extended register) (R206): `sf 0 1 01011 00 1 Rm option imm3 Rn Rd`. -/
  | addsExtendedRegister (sf : BitVec 1) (rm : Reg) (option : BitVec 3) (imm3 : BitVec 3) (rn : Reg) (rd : Reg)
  /-- ADDS (immediate) (R207): `sf 0 1 10001 shift imm12 Rn Rd`. -/
  | addsImmediate (sf : BitVec 1) (shift : BitVec 2) (imm12 : BitVec 12) (rn : Reg) (rd : Reg)
  /-- ADDS (shifted register) (R208): `sf 0 1 01011 shift 0 Rm imm6 Rn Rd`. -/
  | addsShiftedRegister (sf : BitVec 1) (shift : BitVec 2) (rm : Reg) (imm6 : BitVec 6) (rn : Reg) (rd : Reg)
  /-- ADR (R209): `0 immlo 10000 immhi Rd`. -/
  | adr (immlo : BitVec 2) (immhi : BitVec 19) (rd : Reg)
  /-- ADRP (R210): `1 immlo 10000 immhi Rd`. -/
  | adrp (immlo : BitVec 2) (immhi : BitVec 19) (rd : Reg)
  /-- AND (immediate) (R251): `sf 00 100100 N immr imms Rn Rd`. -/
  | andImmediate (sf : BitVec 1) (n : BitVec 1) (immr : BitVec 6) (imms : BitVec 6) (rn : Reg) (rd : Reg)
  /-- AND (shifted register) (R252): `sf 00 01010 shift 0 Rm imm6 Rn Rd`. -/
  | andShiftedRegister (sf : BitVec 1) (shift : BitVec 2) (rm : Reg) (imm6 : BitVec 6) (rn : Reg) (rd : Reg)
  /-- ANDS (immediate) (R253): `sf 11 100100 N immr imms Rn Rd`. -/
  | andsImmediate (sf : BitVec 1) (n : BitVec 1) (immr : BitVec 6) (imms : BitVec 6) (rn : Reg) (rd : Reg)
  /-- ANDS (shifted register) (R254): `sf 11 01010 shift 0 Rm imm6 Rn Rd`. -/
  | andsShiftedRegister (sf : BitVec 1) (shift : BitVec 2) (rm : Reg) (imm6 : BitVec 6) (rn : Reg) (rd : Reg)
  /-- ASRV (R303): `sf 0 0 11010110 Rm 0010 10 Rn Rd`. -/
  | asrv (sf : BitVec 1) (rm : Reg) (rn : Reg) (rd : Reg)
  /-- B.cond (R431): `0101010 0 imm19 0 cond`. -/
  | bCond (imm19 : BitVec 19) (cond : BitVec 4)
  /-- B (R432): `0 00101 imm26`. -/
  | b (imm26 : BitVec 26)
  /-- BFM (R306): `sf 01 100110 N immr imms Rn Rd`. -/
  | bfm (sf : BitVec 1) (n : BitVec 1) (immr : BitVec 6) (imms : BitVec 6) (rn : Reg) (rd : Reg)
  /-- BIC (shifted register) (R255): `sf 00 01010 shift 1 Rm imm6 Rn Rd`. -/
  | bicShiftedRegister (sf : BitVec 1) (shift : BitVec 2) (rm : Reg) (imm6 : BitVec 6) (rn : Reg) (rd : Reg)
  /-- BICS (shifted register) (R256): `sf 11 01010 shift 1 Rm imm6 Rn Rd`. -/
  | bicsShiftedRegister (sf : BitVec 1) (shift : BitVec 2) (rm : Reg) (imm6 : BitVec 6) (rn : Reg) (rd : Reg)
  /-- BL (R433): `1 00101 imm26`. -/
  | bl (imm26 : BitVec 26)
  /-- BLR (R434): `1101011 0 0 01 11111 0000 0 0 Rn 00000`. -/
  | blr (rn : Reg)
  /-- BR (R435): `1101011 0 0 00 11111 0000 0 0 Rn 00000`. -/
  | br (rn : Reg)
  /-- BRK (R701): `11010100 001 imm16 000 00`. -/
  | brk (imm16 : BitVec 16)
  /-- CASB, CASAB, CASALB, CASLB (R611): `00 001000 1 L 1 Rs o0 11111 Rn Rt`. -/
  | casb (l : BitVec 1) (rs : Reg) (o0 : BitVec 1) (rn : Reg) (rt : Reg)
  /-- CASH, CASAH, CASALH, CASLH (R612): `01 001000 1 L 1 Rs o0 11111 Rn Rt`. -/
  | cash (l : BitVec 1) (rs : Reg) (o0 : BitVec 1) (rn : Reg) (rt : Reg)
  /-- CASP, CASPA, CASPAL, CASPL (R613): `0 sz 001000 0 L 1 Rs o0 11111 Rn Rt`. -/
  | casp (sz : BitVec 1) (l : BitVec 1) (rs : Reg) (o0 : BitVec 1) (rn : Reg) (rt : Reg)
  /-- CAS, CASA, CASAL, CASL (R614): `1x 001000 1 L 1 Rs o0 11111 Rn Rt`. -/
  | cas (size0 : BitVec 1) (l : BitVec 1) (rs : Reg) (o0 : BitVec 1) (rn : Reg) (rt : Reg)
  /-- CBNZ (R436): `sf 011010 1 imm19 Rt`. -/
  | cbnz (sf : BitVec 1) (imm19 : BitVec 19) (rt : Reg)
  /-- CBZ (R437): `sf 011010 0 imm19 Rt`. -/
  | cbz (sf : BitVec 1) (imm19 : BitVec 19) (rt : Reg)
  /-- CCMN (immediate) (R361): `sf 0 1 11010010 imm5 cond 1 0 Rn 0 nzcv`. -/
  | ccmnImmediate (sf : BitVec 1) (imm5 : BitVec 5) (cond : BitVec 4) (rn : Reg) (nzcv : BitVec 4)
  /-- CCMN (register) (R362): `sf 0 1 11010010 Rm cond 0 0 Rn 0 nzcv`. -/
  | ccmnRegister (sf : BitVec 1) (rm : Reg) (cond : BitVec 4) (rn : Reg) (nzcv : BitVec 4)
  /-- CCMP (immediate) (R363): `sf 1 1 11010010 imm5 cond 1 0 Rn 0 nzcv`. -/
  | ccmpImmediate (sf : BitVec 1) (imm5 : BitVec 5) (cond : BitVec 4) (rn : Reg) (nzcv : BitVec 4)
  /-- CCMP (register) (R364): `sf 1 1 11010010 Rm cond 0 0 Rn 0 nzcv`. -/
  | ccmpRegister (sf : BitVec 1) (rm : Reg) (cond : BitVec 4) (rn : Reg) (nzcv : BitVec 4)
  /-- CLREX (R723): `1101010100 0 00 011 0011 CRm 010 11111`. -/
  | clrex (crm : BitVec 4)
  /-- CLS (R308): `sf 1 0 11010110 00000 00010 1 Rn Rd`. -/
  | cls (sf : BitVec 1) (rn : Reg) (rd : Reg)
  /-- CLZ (R309): `sf 1 0 11010110 00000 00010 0 Rn Rd`. -/
  | clz (sf : BitVec 1) (rn : Reg) (rd : Reg)
  /-- CRC32B, CRC32H, CRC32W, CRC32X (R391): `sf 0 0 11010110 Rm 010 0 sz:2 Rn Rd`. -/
  | crc32 (sf : BitVec 1) (rm : Reg) (sz : BitVec 2) (rn : Reg) (rd : Reg)
  /-- CRC32CB, CRC32CH, CRC32CW, CRC32CX (R392): `sf 0 0 11010110 Rm 010 1 sz:2 Rn Rd`. -/
  | crc32c (sf : BitVec 1) (rm : Reg) (sz : BitVec 2) (rn : Reg) (rd : Reg)
  /-- CSEL (R368): `sf 0 0 11010100 Rm cond 0 0 Rn Rd`. -/
  | csel (sf : BitVec 1) (rm : Reg) (cond : BitVec 4) (rn : Reg) (rd : Reg)
  /-- CSINC (R371): `sf 0 0 11010100 Rm cond 0 1 Rn Rd`. -/
  | csinc (sf : BitVec 1) (rm : Reg) (cond : BitVec 4) (rn : Reg) (rd : Reg)
  /-- CSINV (R372): `sf 1 0 11010100 Rm cond 0 0 Rn Rd`. -/
  | csinv (sf : BitVec 1) (rm : Reg) (cond : BitVec 4) (rn : Reg) (rd : Reg)
  /-- CSNEG (R373): `sf 1 0 11010100 Rm cond 0 1 Rn Rd`. -/
  | csneg (sf : BitVec 1) (rm : Reg) (cond : BitVec 4) (rn : Reg) (rd : Reg)
  /-- DCPS1 (R706): `11010100 101 imm16 000 01`. -/
  | dcps1 (imm16 : BitVec 16)
  /-- DCPS2 (R707): `11010100 101 imm16 000 10`. -/
  | dcps2 (imm16 : BitVec 16)
  /-- DCPS3 (R708): `11010100 101 imm16 000 11`. -/
  | dcps3 (imm16 : BitVec 16)
  /-- DMB (R720): `1101010100 0 00 011 0011 CRm 1 01 11111`. -/
  | dmb (crm : BitVec 4)
  /-- DRPS (R709): `1101011 0 1 01 11111 0000 0 0 11111 00000`. -/
  | drps
  /-- DSB (R721): `1101010100 0 00 011 0011 CRm 1 00 11111`. -/
  | dsb (crm : BitVec 4)
  /-- EON (shifted register) (R257): `sf 10 01010 shift 1 Rm imm6 Rn Rd`. -/
  | eonShiftedRegister (sf : BitVec 1) (shift : BitVec 2) (rm : Reg) (imm6 : BitVec 6) (rn : Reg) (rd : Reg)
  /-- EOR (immediate) (R258): `sf 10 100100 N immr imms Rn Rd`. -/
  | eorImmediate (sf : BitVec 1) (n : BitVec 1) (immr : BitVec 6) (imms : BitVec 6) (rn : Reg) (rd : Reg)
  /-- EOR (shifted register) (R259): `sf 10 01010 shift 0 Rm imm6 Rn Rd`. -/
  | eorShiftedRegister (sf : BitVec 1) (shift : BitVec 2) (rm : Reg) (imm6 : BitVec 6) (rn : Reg) (rd : Reg)
  /-- ERET (R710): `1101011 0 1 00 11111 0000 0 0 11111 00000`. -/
  | eret
  /-- ESB (R718): `1101010100 0 00 011 0010 0010 000 11111`. -/
  | esb
  /-- EXTR (R310): `sf 00 100111 N 0 Rm imms Rn Rd`. -/
  | extr (sf : BitVec 1) (n : BitVec 1) (rm : Reg) (imms : BitVec 6) (rn : Reg) (rd : Reg)
  /-- HINT (R711): `1101010100 0 00 011 0010 CRm op2 11111`. -/
  | hint (crm : BitVec 4) (op2 : BitVec 3)
  /-- HLT (R705): `11010100 010 imm16 000 00`. -/
  | hlt (imm16 : BitVec 16)
  /-- HVC (R703): `11010100 000 imm16 000 10`. -/
  | hvc (imm16 : BitVec 16)
  /-- ISB (R722): `1101010100 0 00 011 0011 CRm 1 10 11111`. -/
  | isb (crm : BitVec 4)
  /-- LDADDB, LDADDAB, LDADDALB, LDADDLB (R615): `00 111 0 00 A R 1 Rs 0 000 00 Rn Rt`. -/
  | ldaddb (a : BitVec 1) (r : BitVec 1) (rs : Reg) (rn : Reg) (rt : Reg)
  /-- LDADDH, LDADDAH, LDADDALH, LDADDLH (R616): `01 111 0 00 A R 1 Rs 0 000 00 Rn Rt`. -/
  | ldaddh (a : BitVec 1) (r : BitVec 1) (rs : Reg) (rn : Reg) (rt : Reg)
  /-- LDADD, LDADDA, LDADDAL, LDADDL (R617): `1x 111 0 00 A R 1 Rs 0 000 00 Rn Rt`. -/
  | ldadd (size0 : BitVec 1) (a : BitVec 1) (r : BitVec 1) (rs : Reg) (rn : Reg) (rt : Reg)
  /-- LDAR (R561): `1x 001000 1 1 0 (11111) 1 (11111) Rn Rt`. -/
  | ldar (size0 : BitVec 1) (rn : Reg) (rt : Reg)
  /-- LDARB (R562): `00 001000 1 1 0 (11111) 1 (11111) Rn Rt`. -/
  | ldarb (rn : Reg) (rt : Reg)
  /-- LDARH (R563): `01 001000 1 1 0 (11111) 1 (11111) Rn Rt`. -/
  | ldarh (rn : Reg) (rt : Reg)
  /-- LDAXP (R564): `1 sz 001000 0 1 1 (11111) 1 Rt2 Rn Rt`. -/
  | ldaxp (sz : BitVec 1) (rt2 : Reg) (rn : Reg) (rt : Reg)
  /-- LDAXR (R565): `1x 001000 0 1 0 (11111) 1 (11111) Rn Rt`. -/
  | ldaxr (size0 : BitVec 1) (rn : Reg) (rt : Reg)
  /-- LDAXRB (R566): `00 001000 0 1 0 (11111) 1 (11111) Rn Rt`. -/
  | ldaxrb (rn : Reg) (rt : Reg)
  /-- LDAXRH (R567): `01 001000 0 1 0 (11111) 1 (11111) Rn Rt`. -/
  | ldaxrh (rn : Reg) (rt : Reg)
  /-- LDCLRB, LDCLRAB, LDCLRALB, LDCLRLB (R618): `00 111 0 00 A R 1 Rs 0 001 00 Rn Rt`. -/
  | ldclrb (a : BitVec 1) (r : BitVec 1) (rs : Reg) (rn : Reg) (rt : Reg)
  /-- LDCLRH, LDCLRAH, LDCLRALH, LDCLRLH (R619): `01 111 0 00 A R 1 Rs 0 001 00 Rn Rt`. -/
  | ldclrh (a : BitVec 1) (r : BitVec 1) (rs : Reg) (rn : Reg) (rt : Reg)
  /-- LDCLR, LDCLRA, LDCLRAL, LDCLRL (R620): `1x 111 0 00 A R 1 Rs 0 001 00 Rn Rt`. -/
  | ldclr (size0 : BitVec 1) (a : BitVec 1) (r : BitVec 1) (rs : Reg) (rn : Reg) (rt : Reg)
  /-- LDEORB, LDEORAB, LDEORALB, LDEORLB (R621): `00 111 0 00 A R 1 Rs 0 010 00 Rn Rt`. -/
  | ldeorb (a : BitVec 1) (r : BitVec 1) (rs : Reg) (rn : Reg) (rt : Reg)
  /-- LDEORH, LDEORAH, LDEORALH, LDEORLH (R622): `01 111 0 00 A R 1 Rs 0 010 00 Rn Rt`. -/
  | ldeorh (a : BitVec 1) (r : BitVec 1) (rs : Reg) (rn : Reg) (rt : Reg)
  /-- LDEOR, LDEORA, LDEORAL, LDEORL (R623): `1x 111 0 00 A R 1 Rs 0 010 00 Rn Rt`. -/
  | ldeor (size0 : BitVec 1) (a : BitVec 1) (r : BitVec 1) (rs : Reg) (rn : Reg) (rt : Reg)
  /-- LDLARB (R568): `00 001000 1 1 0 (11111) 0 (11111) Rn Rt`. -/
  | ldlarb (rn : Reg) (rt : Reg)
  /-- LDLARH (R569): `01 001000 1 1 0 (11111) 0 (11111) Rn Rt`. -/
  | ldlarh (rn : Reg) (rt : Reg)
  /-- LDLAR (R570): `1x 001000 1 1 0 (11111) 0 (11111) Rn Rt`. -/
  | ldlar (size0 : BitVec 1) (rn : Reg) (rt : Reg)
  /-- LDNP (R541): `x 0 101 0 000 1 imm7 Rt2 Rn Rt`. -/
  | ldnp (opc1 : BitVec 1) (imm7 : BitVec 7) (rt2 : Reg) (rn : Reg) (rt : Reg)
  /-- LDP (post-index) (R542): `x 0 101 0 001 1 imm7 Rt2 Rn Rt`. -/
  | ldpPostIndex (opc1 : BitVec 1) (imm7 : BitVec 7) (rt2 : Reg) (rn : Reg) (rt : Reg)
  /-- LDP (pre-index) (R542): `x 0 101 0 011 1 imm7 Rt2 Rn Rt`. -/
  | ldpPreIndex (opc1 : BitVec 1) (imm7 : BitVec 7) (rt2 : Reg) (rn : Reg) (rt : Reg)
  /-- LDP (signed offset) (R542): `x 0 101 0 010 1 imm7 Rt2 Rn Rt`. -/
  | ldpSignedOffset (opc1 : BitVec 1) (imm7 : BitVec 7) (rt2 : Reg) (rn : Reg) (rt : Reg)
  /-- LDPSW (post-index) (R543): `01 101 0 001 1 imm7 Rt2 Rn Rt`. -/
  | ldpswPostIndex (imm7 : BitVec 7) (rt2 : Reg) (rn : Reg) (rt : Reg)
  /-- LDPSW (pre-index) (R543): `01 101 0 011 1 imm7 Rt2 Rn Rt`. -/
  | ldpswPreIndex (imm7 : BitVec 7) (rt2 : Reg) (rn : Reg) (rt : Reg)
  /-- LDPSW (signed offset) (R543): `01 101 0 010 1 imm7 Rt2 Rn Rt`. -/
  | ldpswSignedOffset (imm7 : BitVec 7) (rt2 : Reg) (rn : Reg) (rt : Reg)
  /-- LDR (immediate, post-index) (R462): `1x 111 0 00 01 0 imm9 01 Rn Rt`. -/
  | ldrImmediatePostIndex (size0 : BitVec 1) (imm9 : BitVec 9) (rn : Reg) (rt : Reg)
  /-- LDR (immediate, pre-index) (R462): `1x 111 0 00 01 0 imm9 11 Rn Rt`. -/
  | ldrImmediatePreIndex (size0 : BitVec 1) (imm9 : BitVec 9) (rn : Reg) (rt : Reg)
  /-- LDR (immediate, unsigned offset) (R462): `1x 111 0 01 01 imm12 Rn Rt`. -/
  | ldrImmediateUnsignedOffset (size0 : BitVec 1) (imm12 : BitVec 12) (rn : Reg) (rt : Reg)
  /-- LDR (literal) (R463): `0 x 011 0 00 imm19 Rt`. -/
  | ldrLiteral (opc0 : BitVec 1) (imm19 : BitVec 19) (rt : Reg)
  /-- LDR (register) (R501): `1x 111 0 00 01 1 Rm option S 10 Rn Rt`. -/
  | ldrRegister (size0 : BitVec 1) (rm : Reg) (option : BitVec 3) (s1 : BitVec 1) (rn : Reg) (rt : Reg)
  /-- LDRB (immediate, post-index) (R464): `00 111 0 00 01 0 imm9 01 Rn Rt`. -/
  | ldrbImmediatePostIndex (imm9 : BitVec 9) (rn : Reg) (rt : Reg)
  /-- LDRB (immediate, pre-index) (R464): `00 111 0 00 01 0 imm9 11 Rn Rt`. -/
  | ldrbImmediatePreIndex (imm9 : BitVec 9) (rn : Reg) (rt : Reg)
  /-- LDRB (immediate, unsigned offset) (R464): `00 111 0 01 01 imm12 Rn Rt`. -/
  | ldrbImmediateUnsignedOffset (imm12 : BitVec 12) (rn : Reg) (rt : Reg)
  /-- LDRB (register) (R502): `00 111 0 00 01 1 Rm option S 10 Rn Rt`. -/
  | ldrbRegister (rm : Reg) (option : BitVec 3) (s1 : BitVec 1) (rn : Reg) (rt : Reg)
  /-- LDRH (immediate, post-index) (R465): `01 111 0 00 01 0 imm9 01 Rn Rt`. -/
  | ldrhImmediatePostIndex (imm9 : BitVec 9) (rn : Reg) (rt : Reg)
  /-- LDRH (immediate, pre-index) (R465): `01 111 0 00 01 0 imm9 11 Rn Rt`. -/
  | ldrhImmediatePreIndex (imm9 : BitVec 9) (rn : Reg) (rt : Reg)
  /-- LDRH (immediate, unsigned offset) (R465): `01 111 0 01 01 imm12 Rn Rt`. -/
  | ldrhImmediateUnsignedOffset (imm12 : BitVec 12) (rn : Reg) (rt : Reg)
  /-- LDRH (register) (R503): `01 111 0 00 01 1 Rm option S 10 Rn Rt`. -/
  | ldrhRegister (rm : Reg) (option : BitVec 3) (s1 : BitVec 1) (rn : Reg) (rt : Reg)
  /-- LDRSB (immediate, post-index) (R466): `00 111 0 00 1x 0 imm9 01 Rn Rt`. -/
  | ldrsbImmediatePostIndex (opc0 : BitVec 1) (imm9 : BitVec 9) (rn : Reg) (rt : Reg)
  /-- LDRSB (immediate, pre-index) (R466): `00 111 0 00 1x 0 imm9 11 Rn Rt`. -/
  | ldrsbImmediatePreIndex (opc0 : BitVec 1) (imm9 : BitVec 9) (rn : Reg) (rt : Reg)
  /-- LDRSB (immediate, unsigned offset) (R466): `00 111 0 01 1x imm12 Rn Rt`. -/
  | ldrsbImmediateUnsignedOffset (opc0 : BitVec 1) (imm12 : BitVec 12) (rn : Reg) (rt : Reg)
  /-- LDRSB (register) (R504): `00 111 0 00 1x 1 Rm option S 10 Rn Rt`. -/
  | ldrsbRegister (opc0 : BitVec 1) (rm : Reg) (option : BitVec 3) (s1 : BitVec 1) (rn : Reg) (rt : Reg)
  /-- LDRSH (immediate, post-index) (R467): `01 111 0 00 1x 0 imm9 01 Rn Rt`. -/
  | ldrshImmediatePostIndex (opc0 : BitVec 1) (imm9 : BitVec 9) (rn : Reg) (rt : Reg)
  /-- LDRSH (immediate, pre-index) (R467): `01 111 0 00 1x 0 imm9 11 Rn Rt`. -/
  | ldrshImmediatePreIndex (opc0 : BitVec 1) (imm9 : BitVec 9) (rn : Reg) (rt : Reg)
  /-- LDRSH (immediate, unsigned offset) (R467): `01 111 0 01 1x imm12 Rn Rt`. -/
  | ldrshImmediateUnsignedOffset (opc0 : BitVec 1) (imm12 : BitVec 12) (rn : Reg) (rt : Reg)
  /-- LDRSH (register) (R505): `01 111 0 00 1x 1 Rm option S 10 Rn Rt`. -/
  | ldrshRegister (opc0 : BitVec 1) (rm : Reg) (option : BitVec 3) (s1 : BitVec 1) (rn : Reg) (rt : Reg)
  /-- LDRSW (immediate, post-index) (R468): `10 111 0 00 10 0 imm9 01 Rn Rt`. -/
  | ldrswImmediatePostIndex (imm9 : BitVec 9) (rn : Reg) (rt : Reg)
  /-- LDRSW (immediate, pre-index) (R468): `10 111 0 00 10 0 imm9 11 Rn Rt`. -/
  | ldrswImmediatePreIndex (imm9 : BitVec 9) (rn : Reg) (rt : Reg)
  /-- LDRSW (immediate, unsigned offset) (R468): `10 111 0 01 10 imm12 Rn Rt`. -/
  | ldrswImmediateUnsignedOffset (imm12 : BitVec 12) (rn : Reg) (rt : Reg)
  /-- LDRSW (literal) (R469): `10 011 0 00 imm19 Rt`. -/
  | ldrswLiteral (imm19 : BitVec 19) (rt : Reg)
  /-- LDRSW (register) (R506): `10 111 0 00 10 1 Rm option S 10 Rn Rt`. -/
  | ldrswRegister (rm : Reg) (option : BitVec 3) (s1 : BitVec 1) (rn : Reg) (rt : Reg)
  /-- LDSETB, LDSETAB, LDSETALB, LDSETLB (R624): `00 111 0 00 A R 1 Rs 0 011 00 Rn Rt`. -/
  | ldsetb (a : BitVec 1) (r : BitVec 1) (rs : Reg) (rn : Reg) (rt : Reg)
  /-- LDSETH, LDSETAH, LDSETALH, LDSETLH (R625): `01 111 0 00 A R 1 Rs 0 011 00 Rn Rt`. -/
  | ldseth (a : BitVec 1) (r : BitVec 1) (rs : Reg) (rn : Reg) (rt : Reg)
  /-- LDSET, LDSETA, LDSETAL, LDSETL (R626): `1x 111 0 00 A R 1 Rs 0 011 00 Rn Rt`. -/
  | ldset (size0 : BitVec 1) (a : BitVec 1) (r : BitVec 1) (rs : Reg) (rn : Reg) (rt : Reg)
  /-- LDSMAXB, LDSMAXAB, LDSMAXALB, LDSMAXLB (R627): `00 111 0 00 A R 1 Rs 0 100 00 Rn Rt`. -/
  | ldsmaxb (a : BitVec 1) (r : BitVec 1) (rs : Reg) (rn : Reg) (rt : Reg)
  /-- LDSMAXH, LDSMAXAH, LDSMAXALH, LDSMAXLH (R628): `01 111 0 00 A R 1 Rs 0 100 00 Rn Rt`. -/
  | ldsmaxh (a : BitVec 1) (r : BitVec 1) (rs : Reg) (rn : Reg) (rt : Reg)
  /-- LDSMAX, LDSMAXA, LDSMAXAL, LDSMAXL (R629): `1x 111 0 00 A R 1 Rs 0 100 00 Rn Rt`. -/
  | ldsmax (size0 : BitVec 1) (a : BitVec 1) (r : BitVec 1) (rs : Reg) (rn : Reg) (rt : Reg)
  /-- LDSMINB, LDSMINAB, LDSMINALB, LDSMINLB (R630): `00 111 0 00 A R 1 Rs 0 101 00 Rn Rt`. -/
  | ldsminb (a : BitVec 1) (r : BitVec 1) (rs : Reg) (rn : Reg) (rt : Reg)
  /-- LDSMINH, LDSMINAH, LDSMINALH, LDSMINLH (R631): `01 111 0 00 A R 1 Rs 0 101 00 Rn Rt`. -/
  | ldsminh (a : BitVec 1) (r : BitVec 1) (rs : Reg) (rn : Reg) (rt : Reg)
  /-- LDSMIN, LDSMINA, LDSMINAL, LDSMINL (R632): `1x 111 0 00 A R 1 Rs 0 101 00 Rn Rt`. -/
  | ldsmin (size0 : BitVec 1) (a : BitVec 1) (r : BitVec 1) (rs : Reg) (rn : Reg) (rt : Reg)
  /-- LDTR (R511): `1x 111 0 00 01 0 imm9 10 Rn Rt`. -/
  | ldtr (size0 : BitVec 1) (imm9 : BitVec 9) (rn : Reg) (rt : Reg)
  /-- LDTRB (R512): `00 111 0 00 01 0 imm9 10 Rn Rt`. -/
  | ldtrb (imm9 : BitVec 9) (rn : Reg) (rt : Reg)
  /-- LDTRH (R513): `01 111 0 00 01 0 imm9 10 Rn Rt`. -/
  | ldtrh (imm9 : BitVec 9) (rn : Reg) (rt : Reg)
  /-- LDTRSB (R514): `00 111 0 00 1x 0 imm9 10 Rn Rt`. -/
  | ldtrsb (opc0 : BitVec 1) (imm9 : BitVec 9) (rn : Reg) (rt : Reg)
  /-- LDTRSH (R515): `01 111 0 00 1x 0 imm9 10 Rn Rt`. -/
  | ldtrsh (opc0 : BitVec 1) (imm9 : BitVec 9) (rn : Reg) (rt : Reg)
  /-- LDTRSW (R516): `10 111 0 00 10 0 imm9 10 Rn Rt`. -/
  | ldtrsw (imm9 : BitVec 9) (rn : Reg) (rt : Reg)
  /-- LDUMAXB, LDUMAXAB, LDUMAXALB, LDUMAXLB (R633): `00 111 0 00 A R 1 Rs 0 110 00 Rn Rt`. -/
  | ldumaxb (a : BitVec 1) (r : BitVec 1) (rs : Reg) (rn : Reg) (rt : Reg)
  /-- LDUMAXH, LDUMAXAH, LDUMAXALH, LDUMAXLH (R634): `01 111 0 00 A R 1 Rs 0 110 00 Rn Rt`. -/
  | ldumaxh (a : BitVec 1) (r : BitVec 1) (rs : Reg) (rn : Reg) (rt : Reg)
  /-- LDUMAX, LDUMAXA, LDUMAXAL, LDUMAXL (R635): `1x 111 0 00 A R 1 Rs 0 110 00 Rn Rt`. -/
  | ldumax (size0 : BitVec 1) (a : BitVec 1) (r : BitVec 1) (rs : Reg) (rn : Reg) (rt : Reg)
  /-- LDUMINB, LDUMINAB, LDUMINALB, LDUMINLB (R636): `00 111 0 00 A R 1 Rs 0 111 00 Rn Rt`. -/
  | lduminb (a : BitVec 1) (r : BitVec 1) (rs : Reg) (rn : Reg) (rt : Reg)
  /-- LDUMINH, LDUMINAH, LDUMINALH, LDUMINLH (R637): `01 111 0 00 A R 1 Rs 0 111 00 Rn Rt`. -/
  | lduminh (a : BitVec 1) (r : BitVec 1) (rs : Reg) (rn : Reg) (rt : Reg)
  /-- LDUMIN, LDUMINA, LDUMINAL, LDUMINL (R638): `1x 111 0 00 A R 1 Rs 0 111 00 Rn Rt`. -/
  | ldumin (size0 : BitVec 1) (a : BitVec 1) (r : BitVec 1) (rs : Reg) (rn : Reg) (rt : Reg)
  /-- LDUR (R520): `1x 111 0 00 01 0 imm9 00 Rn Rt`. -/
  | ldur (size0 : BitVec 1) (imm9 : BitVec 9) (rn : Reg) (rt : Reg)
  /-- LDURB (R521): `00 111 0 00 01 0 imm9 00 Rn Rt`. -/
  | ldurb (imm9 : BitVec 9) (rn : Reg) (rt : Reg)
  /-- LDURH (R522): `01 111 0 00 01 0 imm9 00 Rn Rt`. -/
  | ldurh (imm9 : BitVec 9) (rn : Reg) (rt : Reg)
  /-- LDURSB (R523): `00 111 0 00 1x 0 imm9 00 Rn Rt`. -/
  | ldursb (opc0 : BitVec 1) (imm9 : BitVec 9) (rn : Reg) (rt : Reg)
  /-- LDURSH (R524): `01 111 0 00 1x 0 imm9 00 Rn Rt`. -/
  | ldursh (opc0 : BitVec 1) (imm9 : BitVec 9) (rn : Reg) (rt : Reg)
  /-- LDURSW (R525): `10 111 0 00 10 0 imm9 00 Rn Rt`. -/
  | ldursw (imm9 : BitVec 9) (rn : Reg) (rt : Reg)
  /-- LDXP (R571): `1 sz 001000 0 1 1 (11111) 0 Rt2 Rn Rt`. -/
  | ldxp (sz : BitVec 1) (rt2 : Reg) (rn : Reg) (rt : Reg)
  /-- LDXR (R572): `1x 001000 0 1 0 (11111) 0 (11111) Rn Rt`. -/
  | ldxr (size0 : BitVec 1) (rn : Reg) (rt : Reg)
  /-- LDXRB (R573): `00 001000 0 1 0 (11111) 0 (11111) Rn Rt`. -/
  | ldxrb (rn : Reg) (rt : Reg)
  /-- LDXRH (R574): `01 001000 0 1 0 (11111) 0 (11111) Rn Rt`. -/
  | ldxrh (rn : Reg) (rt : Reg)
  /-- LSLV (R313): `sf 0 0 11010110 Rm 0010 00 Rn Rd`. -/
  | lslv (sf : BitVec 1) (rm : Reg) (rn : Reg) (rd : Reg)
  /-- LSRV (R316): `sf 0 0 11010110 Rm 0010 01 Rn Rd`. -/
  | lsrv (sf : BitVec 1) (rm : Reg) (rn : Reg) (rd : Reg)
  /-- MADD (R393): `sf 00 11011 000 Rm 0 Ra Rn Rd`. -/
  | madd (sf : BitVec 1) (rm : Reg) (ra : Reg) (rn : Reg) (rd : Reg)
  /-- MOVK (R265): `sf 11 100101 hw imm16 Rd`. -/
  | movk (sf : BitVec 1) (hw : BitVec 2) (imm16 : BitVec 16) (rd : Reg)
  /-- MOVN (R266): `sf 00 100101 hw imm16 Rd`. -/
  | movn (sf : BitVec 1) (hw : BitVec 2) (imm16 : BitVec 16) (rd : Reg)
  /-- MOVZ (R267): `sf 10 100101 hw imm16 Rd`. -/
  | movz (sf : BitVec 1) (hw : BitVec 2) (imm16 : BitVec 16) (rd : Reg)
  /-- MRS (R730): `1101010100 1 1 o0 op1 CRn CRm op2 Rt`. -/
  | mrs (o0 : BitVec 1) (op1 : BitVec 3) (crn : BitVec 4) (crm : BitVec 4) (op2 : BitVec 3) (rt : Reg)
  /-- MSR (immediate) (R732): `1101010100 0 00 op1 0100 CRm op2 11111`. -/
  | msrImmediate (op1 : BitVec 3) (crm : BitVec 4) (op2 : BitVec 3)
  /-- MSR (register) (R731): `1101010100 0 1 o0 op1 CRn CRm op2 Rt`. -/
  | msrRegister (o0 : BitVec 1) (op1 : BitVec 3) (crn : BitVec 4) (crm : BitVec 4) (op2 : BitVec 3) (rt : Reg)
  /-- MSUB (R395): `sf 00 11011 000 Rm 1 Ra Rn Rd`. -/
  | msub (sf : BitVec 1) (rm : Reg) (ra : Reg) (rn : Reg) (rd : Reg)
  /-- NOP (R712): `1101010100 0 00 011 0010 0000 000 11111`. -/
  | nop
  /-- ORN (shifted register) (R269): `sf 01 01010 shift 1 Rm imm6 Rn Rd`. -/
  | ornShiftedRegister (sf : BitVec 1) (shift : BitVec 2) (rm : Reg) (imm6 : BitVec 6) (rn : Reg) (rd : Reg)
  /-- ORR (immediate) (R270): `sf 01 100100 N immr imms Rn Rd`. -/
  | orrImmediate (sf : BitVec 1) (n : BitVec 1) (immr : BitVec 6) (imms : BitVec 6) (rn : Reg) (rd : Reg)
  /-- ORR (shifted register) (R271): `sf 01 01010 shift 0 Rm imm6 Rn Rd`. -/
  | orrShiftedRegister (sf : BitVec 1) (shift : BitVec 2) (rm : Reg) (imm6 : BitVec 6) (rn : Reg) (rd : Reg)
  /-- PRFM (immediate) (R470): `11 111 0 01 10 imm12 Rn Rt`. -/
  | prfmImmediate (imm12 : BitVec 12) (rn : Reg) (rt : Reg)
  /-- PRFM (literal) (R471): `11 011 0 00 imm19 Rt`. -/
  | prfmLiteral (imm19 : BitVec 19) (rt : Reg)
  /-- PRFM (register) (R507): `11 111 0 00 10 1 Rm option S 10 Rn Rt`. -/
  | prfmRegister (rm : Reg) (option : BitVec 3) (s1 : BitVec 1) (rn : Reg) (rt : Reg)
  /-- PRFUM (R526): `11 111 0 00 10 0 imm9 00 Rn Rt`. -/
  | prfum (imm9 : BitVec 9) (rn : Reg) (rt : Reg)
  /-- PSB CSYNC (R719): `1101010100 0 00 011 0010 0010 001 11111`. -/
  | psbCsync
  /-- RBIT (R317): `sf 1 0 11010110 00000 0000 00 Rn Rd`. -/
  | rbit (sf : BitVec 1) (rn : Reg) (rd : Reg)
  /-- RET (R438): `1101011 0 0 10 11111 0000 0 0 Rn 00000`. -/
  | ret (rn : Reg)
  /-- REV (32-bit) (R318): `0 1 0 11010110 00000 0000 10 Rn Rd`. -/
  | rev32Bit (rn : Reg) (rd : Reg)
  /-- REV (64-bit) (R318): `1 1 0 11010110 00000 0000 11 Rn Rd`. -/
  | rev64Bit (rn : Reg) (rd : Reg)
  /-- REV16 (R319): `sf 1 0 11010110 00000 0000 01 Rn Rd`. -/
  | rev16 (sf : BitVec 1) (rn : Reg) (rd : Reg)
  /-- REV32 (R320): `1 1 0 11010110 00000 0000 10 Rn Rd`. -/
  | rev32 (rn : Reg) (rd : Reg)
  /-- RORV (R324): `sf 0 0 11010110 Rm 0010 11 Rn Rd`. -/
  | rorv (sf : BitVec 1) (rm : Reg) (rn : Reg) (rd : Reg)
  /-- SBC (R221): `sf 1 0 11010000 Rm 000000 Rn Rd`. -/
  | sbc (sf : BitVec 1) (rm : Reg) (rn : Reg) (rd : Reg)
  /-- SBCS (R222): `sf 1 1 11010000 Rm 000000 Rn Rd`. -/
  | sbcs (sf : BitVec 1) (rm : Reg) (rn : Reg) (rd : Reg)
  /-- SBFM (R326): `sf 00 100110 N immr imms Rn Rd`. -/
  | sbfm (sf : BitVec 1) (n : BitVec 1) (immr : BitVec 6) (imms : BitVec 6) (rn : Reg) (rd : Reg)
  /-- SDIV (R397): `sf 0 0 11010110 Rm 00001 1 Rn Rd`. -/
  | sdiv (sf : BitVec 1) (rm : Reg) (rn : Reg) (rd : Reg)
  /-- SEV (R716): `1101010100 0 00 011 0010 0000 100 11111`. -/
  | sev
  /-- SEVL (R717): `1101010100 0 00 011 0010 0000 101 11111`. -/
  | sevl
  /-- SMADDL (R398): `1 00 11011 0 01 Rm 0 Ra Rn Rd`. -/
  | smaddl (rm : Reg) (ra : Reg) (rn : Reg) (rd : Reg)
  /-- SMC (R704): `11010100 000 imm16 000 11`. -/
  | smc (imm16 : BitVec 16)
  /-- SMSUBL (R400): `1 00 11011 0 01 Rm 1 Ra Rn Rd`. -/
  | smsubl (rm : Reg) (ra : Reg) (rn : Reg) (rd : Reg)
  /-- SMULH (R401): `1 00 11011 0 10 Rm 0 (11111) Rn Rd`. -/
  | smulh (rm : Reg) (rn : Reg) (rd : Reg)
  /-- STLLRB (R575): `00 001000 1 0 0 (11111) 0 (11111) Rn Rt`. -/
  | stllrb (rn : Reg) (rt : Reg)
  /-- STLLRH (R576): `01 001000 1 0 0 (11111) 0 (11111) Rn Rt`. -/
  | stllrh (rn : Reg) (rt : Reg)
  /-- STLLR (R577): `1x 001000 1 0 0 (11111) 0 (11111) Rn Rt`. -/
  | stllr (size0 : BitVec 1) (rn : Reg) (rt : Reg)
  /-- STLR (R578): `1x 001000 1 0 0 (11111) 1 (11111) Rn Rt`. -/
  | stlr (size0 : BitVec 1) (rn : Reg) (rt : Reg)
  /-- STLRB (R579): `00 001000 1 0 0 (11111) 1 (11111) Rn Rt`. -/
  | stlrb (rn : Reg) (rt : Reg)
  /-- STLRH (R580): `01 001000 1 0 0 (11111) 1 (11111) Rn Rt`. -/
  | stlrh (rn : Reg) (rt : Reg)
  /-- STLXP (R581): `1 sz 001000 0 0 1 Rs 1 Rt2 Rn Rt`. -/
  | stlxp (sz : BitVec 1) (rs : Reg) (rt2 : Reg) (rn : Reg) (rt : Reg)
  /-- STLXR (R582): `1x 001000 0 0 0 Rs 1 (11111) Rn Rt`. -/
  | stlxr (size0 : BitVec 1) (rs : Reg) (rn : Reg) (rt : Reg)
  /-- STLXRB (R583): `00 001000 0 0 0 Rs 1 (11111) Rn Rt`. -/
  | stlxrb (rs : Reg) (rn : Reg) (rt : Reg)
  /-- STLXRH (R584): `01 001000 0 0 0 Rs 1 (11111) Rn Rt`. -/
  | stlxrh (rs : Reg) (rn : Reg) (rt : Reg)
  /-- STNP (R544): `x 0 101 0 000 0 imm7 Rt2 Rn Rt`. -/
  | stnp (opc1 : BitVec 1) (imm7 : BitVec 7) (rt2 : Reg) (rn : Reg) (rt : Reg)
  /-- STP (post-index) (R545): `x 0 101 0 001 0 imm7 Rt2 Rn Rt`. -/
  | stpPostIndex (opc1 : BitVec 1) (imm7 : BitVec 7) (rt2 : Reg) (rn : Reg) (rt : Reg)
  /-- STP (pre-index) (R545): `x 0 101 0 011 0 imm7 Rt2 Rn Rt`. -/
  | stpPreIndex (opc1 : BitVec 1) (imm7 : BitVec 7) (rt2 : Reg) (rn : Reg) (rt : Reg)
  /-- STP (signed offset) (R545): `x 0 101 0 010 0 imm7 Rt2 Rn Rt`. -/
  | stpSignedOffset (opc1 : BitVec 1) (imm7 : BitVec 7) (rt2 : Reg) (rn : Reg) (rt : Reg)
  /-- STR (immediate, post-index) (R472): `1x 111 0 00 00 0 imm9 01 Rn Rt`. -/
  | strImmediatePostIndex (size0 : BitVec 1) (imm9 : BitVec 9) (rn : Reg) (rt : Reg)
  /-- STR (immediate, pre-index) (R472): `1x 111 0 00 00 0 imm9 11 Rn Rt`. -/
  | strImmediatePreIndex (size0 : BitVec 1) (imm9 : BitVec 9) (rn : Reg) (rt : Reg)
  /-- STR (immediate, unsigned offset) (R472): `1x 111 0 01 00 imm12 Rn Rt`. -/
  | strImmediateUnsignedOffset (size0 : BitVec 1) (imm12 : BitVec 12) (rn : Reg) (rt : Reg)
  /-- STR (register) (R508): `1x 111 0 00 00 1 Rm option S 10 Rn Rt`. -/
  | strRegister (size0 : BitVec 1) (rm : Reg) (option : BitVec 3) (s1 : BitVec 1) (rn : Reg) (rt : Reg)
  /-- STRB (immediate, post-index) (R473): `00 111 0 00 00 0 imm9 01 Rn Rt`. -/
  | strbImmediatePostIndex (imm9 : BitVec 9) (rn : Reg) (rt : Reg)
  /-- STRB (immediate, pre-index) (R473): `00 111 0 00 00 0 imm9 11 Rn Rt`. -/
  | strbImmediatePreIndex (imm9 : BitVec 9) (rn : Reg) (rt : Reg)
  /-- STRB (immediate, unsigned offset) (R473): `00 111 0 01 00 imm12 Rn Rt`. -/
  | strbImmediateUnsignedOffset (imm12 : BitVec 12) (rn : Reg) (rt : Reg)
  /-- STRB (register) (R509): `00 111 0 00 00 1 Rm option S 10 Rn Rt`. -/
  | strbRegister (rm : Reg) (option : BitVec 3) (s1 : BitVec 1) (rn : Reg) (rt : Reg)
  /-- STRH (immediate, post-index) (R474): `01 111 0 00 00 0 imm9 01 Rn Rt`. -/
  | strhImmediatePostIndex (imm9 : BitVec 9) (rn : Reg) (rt : Reg)
  /-- STRH (immediate, pre-index) (R474): `01 111 0 00 00 0 imm9 11 Rn Rt`. -/
  | strhImmediatePreIndex (imm9 : BitVec 9) (rn : Reg) (rt : Reg)
  /-- STRH (immediate, unsigned offset) (R474): `01 111 0 01 00 imm12 Rn Rt`. -/
  | strhImmediateUnsignedOffset (imm12 : BitVec 12) (rn : Reg) (rt : Reg)
  /-- STRH (register) (R510): `01 111 0 00 00 1 Rm option S 10 Rn Rt`. -/
  | strhRegister (rm : Reg) (option : BitVec 3) (s1 : BitVec 1) (rn : Reg) (rt : Reg)
  /-- STTR (R517): `1x 111 0 00 00 0 imm9 10 Rn Rt`. -/
  | sttr (size0 : BitVec 1) (imm9 : BitVec 9) (rn : Reg) (rt : Reg)
  /-- STTRB (R518): `00 111 0 00 00 0 imm9 10 Rn Rt`. -/
  | sttrb (imm9 : BitVec 9) (rn : Reg) (rt : Reg)
  /-- STTRH (R519): `01 111 0 00 00 0 imm9 10 Rn Rt`. -/
  | sttrh (imm9 : BitVec 9) (rn : Reg) (rt : Reg)
  /-- STUR (R527): `1x 111 0 00 00 0 imm9 00 Rn Rt`. -/
  | stur (size0 : BitVec 1) (imm9 : BitVec 9) (rn : Reg) (rt : Reg)
  /-- STURB (R528): `00 111 0 00 00 0 imm9 00 Rn Rt`. -/
  | sturb (imm9 : BitVec 9) (rn : Reg) (rt : Reg)
  /-- STURH (R529): `01 111 0 00 00 0 imm9 00 Rn Rt`. -/
  | sturh (imm9 : BitVec 9) (rn : Reg) (rt : Reg)
  /-- STXP (R585): `1 sz 001000 0 0 1 Rs 0 Rt2 Rn Rt`. -/
  | stxp (sz : BitVec 1) (rs : Reg) (rt2 : Reg) (rn : Reg) (rt : Reg)
  /-- STXR (R586): `1x 001000 0 0 0 Rs 0 (11111) Rn Rt`. -/
  | stxr (size0 : BitVec 1) (rs : Reg) (rn : Reg) (rt : Reg)
  /-- STXRB (R587): `00 001000 0 0 0 Rs 0 (11111) Rn Rt`. -/
  | stxrb (rs : Reg) (rn : Reg) (rt : Reg)
  /-- STXRH (R588): `01 001000 0 0 0 Rs 0 (11111) Rn Rt`. -/
  | stxrh (rs : Reg) (rn : Reg) (rt : Reg)
  /-- SUB (extended register) (R223): `sf 1 0 01011 00 1 Rm option imm3 Rn Rd`. -/
  | subExtendedRegister (sf : BitVec 1) (rm : Reg) (option : BitVec 3) (imm3 : BitVec 3) (rn : Reg) (rd : Reg)
  /-- SUB (immediate) (R224): `sf 1 0 10001 shift imm12 Rn Rd`. -/
  | subImmediate (sf : BitVec 1) (shift : BitVec 2) (imm12 : BitVec 12) (rn : Reg) (rd : Reg)
  /-- SUB (shifted register) (R225): `sf 1 0 01011 shift 0 Rm imm6 Rn Rd`. -/
  | subShiftedRegister (sf : BitVec 1) (shift : BitVec 2) (rm : Reg) (imm6 : BitVec 6) (rn : Reg) (rd : Reg)
  /-- SUBS (extended register) (R226): `sf 1 1 01011 00 1 Rm option imm3 Rn Rd`. -/
  | subsExtendedRegister (sf : BitVec 1) (rm : Reg) (option : BitVec 3) (imm3 : BitVec 3) (rn : Reg) (rd : Reg)
  /-- SUBS (immediate) (R227): `sf 1 1 10001 shift imm12 Rn Rd`. -/
  | subsImmediate (sf : BitVec 1) (shift : BitVec 2) (imm12 : BitVec 12) (rn : Reg) (rd : Reg)
  /-- SUBS (shifted register) (R228): `sf 1 1 01011 shift 0 Rm imm6 Rn Rd`. -/
  | subsShiftedRegister (sf : BitVec 1) (shift : BitVec 2) (rm : Reg) (imm6 : BitVec 6) (rn : Reg) (rd : Reg)
  /-- SVC (R702): `11010100 000 imm16 000 01`. -/
  | svc (imm16 : BitVec 16)
  /-- SWPB, SWPAB, SWPALB, SWPLB (R663): `00 111 0 00 A R 1 Rs 1 000 00 Rn Rt`. -/
  | swpb (a : BitVec 1) (r : BitVec 1) (rs : Reg) (rn : Reg) (rt : Reg)
  /-- SWPH, SWPAH, SWPALH, SWPLH (R664): `01 111 0 00 A R 1 Rs 1 000 00 Rn Rt`. -/
  | swph (a : BitVec 1) (r : BitVec 1) (rs : Reg) (rn : Reg) (rt : Reg)
  /-- SWP, SWPA, SWPAL, SWPL (R665): `1x 111 0 00 A R 1 Rs 1 000 00 Rn Rt`. -/
  | swp (size0 : BitVec 1) (a : BitVec 1) (r : BitVec 1) (rs : Reg) (rn : Reg) (rt : Reg)
  /-- SYS (R740): `1101010100 0 01 op1 CRn CRm op2 Rt`. -/
  | sys (op1 : BitVec 3) (crn : BitVec 4) (crm : BitVec 4) (op2 : BitVec 3) (rt : Reg)
  /-- SYSL (R741): `1101010100 1 01 op1 CRn CRm op2 Rt`. -/
  | sysl (op1 : BitVec 3) (crn : BitVec 4) (crm : BitVec 4) (op2 : BitVec 3) (rt : Reg)
  /-- TBNZ (R439): `b5 011011 1 b40 imm14 Rt`. -/
  | tbnz (b5 : BitVec 1) (b40 : BitVec 5) (imm14 : BitVec 14) (rt : Reg)
  /-- TBZ (R440): `b5 011011 0 b40 imm14 Rt`. -/
  | tbz (b5 : BitVec 1) (b40 : BitVec 5) (imm14 : BitVec 14) (rt : Reg)
  /-- UBFM (R332): `sf 10 100110 N immr imms Rn Rd`. -/
  | ubfm (sf : BitVec 1) (n : BitVec 1) (immr : BitVec 6) (imms : BitVec 6) (rn : Reg) (rd : Reg)
  /-- UDIV (R403): `sf 0 0 11010110 Rm 00001 0 Rn Rd`. -/
  | udiv (sf : BitVec 1) (rm : Reg) (rn : Reg) (rd : Reg)
  /-- UMADDL (R404): `1 00 11011 1 01 Rm 0 Ra Rn Rd`. -/
  | umaddl (rm : Reg) (ra : Reg) (rn : Reg) (rd : Reg)
  /-- UMSUBL (R406): `1 00 11011 1 01 Rm 1 Ra Rn Rd`. -/
  | umsubl (rm : Reg) (ra : Reg) (rn : Reg) (rd : Reg)
  /-- UMULH (R407): `1 00 11011 1 10 Rm 0 (11111) Rn Rd`. -/
  | umulh (rm : Reg) (rn : Reg) (rd : Reg)
  /-- WFE (R714): `1101010100 0 00 011 0010 0000 010 11111`. -/
  | wfe
  /-- WFI (R715): `1101010100 0 00 011 0010 0000 011 11111`. -/
  | wfi
  /-- YIELD (R713): `1101010100 0 00 011 0010 0000 001 11111`. -/
  | yield
  /-- ASR (register) (R301), an alias of ASRV: `sf 0 0 11010110 Rm 0010 10 Rn Rd`. -/
  | asrRegister (sf : BitVec 1) (rm : Reg) (rn : Reg) (rd : Reg)
  /-- ASR (immediate) (R302), an alias of SBFM: `sf 00 100110 N immr x11111 Rn Rd`. -/
  | asrImmediate (sf : BitVec 1) (n : BitVec 1) (immr : BitVec 6) (imms5 : BitVec 1) (rn : Reg) (rd : Reg)
  /-- AT (R744), an alias of SYS: `1101010100 0 01 op1 0111 100x op2 Rt`. -/
  | sysAt (op1 : BitVec 3) (crm0 : BitVec 1) (op2 : BitVec 3) (rt : Reg)
  /-- BFC (R304), an alias of BFM: `sf 01 100110 N immr imms 11111 Rd`. -/
  | bfc (sf : BitVec 1) (n : BitVec 1) (immr : BitVec 6) (imms : BitVec 6) (rd : Reg)
  /-- BFI (R305), an alias of BFM: `sf 01 100110 N immr imms Rn Rd`. -/
  | bfi (sf : BitVec 1) (n : BitVec 1) (immr : BitVec 6) (imms : BitVec 6) (rn : Reg) (rd : Reg)
  /-- BFXIL (R307), an alias of BFM: `sf 01 100110 N immr imms Rn Rd`. -/
  | bfxil (sf : BitVec 1) (n : BitVec 1) (immr : BitVec 6) (imms : BitVec 6) (rn : Reg) (rd : Reg)
  /-- CINC (R365), an alias of CSINC: `sf 0 0 11010100 Rm cond 0 1 Rn Rd`. -/
  | cinc (sf : BitVec 1) (rm : Reg) (cond : BitVec 4) (rn : Reg) (rd : Reg)
  /-- CINV (R366), an alias of CSINV: `sf 1 0 11010100 Rm cond 0 0 Rn Rd`. -/
  | cinv (sf : BitVec 1) (rm : Reg) (cond : BitVec 4) (rn : Reg) (rd : Reg)
  /-- CMN (extended register) (R211), an alias of ADDS (extended register): `sf 0 1 01011 00 1 Rm option imm3 Rn 11111`. -/
  | cmnExtendedRegister (sf : BitVec 1) (rm : Reg) (option : BitVec 3) (imm3 : BitVec 3) (rn : Reg)
  /-- CMN (immediate) (R212), an alias of ADDS (immediate): `sf 0 1 10001 shift imm12 Rn 11111`. -/
  | cmnImmediate (sf : BitVec 1) (shift : BitVec 2) (imm12 : BitVec 12) (rn : Reg)
  /-- CMN (shifted register) (R213), an alias of ADDS (shifted register): `sf 0 1 01011 shift 0 Rm imm6 Rn 11111`. -/
  | cmnShiftedRegister (sf : BitVec 1) (shift : BitVec 2) (rm : Reg) (imm6 : BitVec 6) (rn : Reg)
  /-- CMP (extended register) (R214), an alias of SUBS (extended register): `sf 1 1 01011 00 1 Rm option imm3 Rn 11111`. -/
  | cmpExtendedRegister (sf : BitVec 1) (rm : Reg) (option : BitVec 3) (imm3 : BitVec 3) (rn : Reg)
  /-- CMP (immediate) (R215), an alias of SUBS (immediate): `sf 1 1 10001 shift imm12 Rn 11111`. -/
  | cmpImmediate (sf : BitVec 1) (shift : BitVec 2) (imm12 : BitVec 12) (rn : Reg)
  /-- CMP (shifted register) (R216), an alias of SUBS (shifted register): `sf 1 1 01011 shift 0 Rm imm6 Rn 11111`. -/
  | cmpShiftedRegister (sf : BitVec 1) (shift : BitVec 2) (rm : Reg) (imm6 : BitVec 6) (rn : Reg)
  /-- CNEG (R367), an alias of CSNEG: `sf 1 0 11010100 Rm cond 0 1 Rn Rd`. -/
  | cneg (sf : BitVec 1) (rm : Reg) (cond : BitVec 4) (rn : Reg) (rd : Reg)
  /-- CSET (R369), an alias of CSINC: `sf 0 0 11010100 11111 cond 0 1 11111 Rd`. -/
  | cset (sf : BitVec 1) (cond : BitVec 4) (rd : Reg)
  /-- CSETM (R370), an alias of CSINV: `sf 1 0 11010100 11111 cond 0 0 11111 Rd`. -/
  | csetm (sf : BitVec 1) (cond : BitVec 4) (rd : Reg)
  /-- DC (R745), an alias of SYS: `1101010100 0 01 op1 0111 CRm op2 Rt`. -/
  | sysDc (op1 : BitVec 3) (crm : BitVec 4) (op2 : BitVec 3) (rt : Reg)
  /-- IC (R746), an alias of SYS: `1101010100 0 01 op1 0111 CRm op2 Rt`. -/
  | sysIc (op1 : BitVec 3) (crm : BitVec 4) (op2 : BitVec 3) (rt : Reg)
  /-- LSL (register) (R311), an alias of LSLV: `sf 0 0 11010110 Rm 0010 00 Rn Rd`. -/
  | lslRegister (sf : BitVec 1) (rm : Reg) (rn : Reg) (rd : Reg)
  /-- LSL (immediate) (R312), an alias of UBFM: `sf 10 100110 N immr imms Rn Rd`. -/
  | lslImmediate (sf : BitVec 1) (n : BitVec 1) (immr : BitVec 6) (imms : BitVec 6) (rn : Reg) (rd : Reg)
  /-- LSR (register) (R314), an alias of LSRV: `sf 0 0 11010110 Rm 0010 01 Rn Rd`. -/
  | lsrRegister (sf : BitVec 1) (rm : Reg) (rn : Reg) (rd : Reg)
  /-- LSR (immediate) (R315), an alias of UBFM: `sf 10 100110 N immr x11111 Rn Rd`. -/
  | lsrImmediate (sf : BitVec 1) (n : BitVec 1) (immr : BitVec 6) (imms5 : BitVec 1) (rn : Reg) (rd : Reg)
  /-- MNEG (R394), an alias of MSUB: `sf 00 11011 000 Rm 1 11111 Rn Rd`. -/
  | mneg (sf : BitVec 1) (rm : Reg) (rn : Reg) (rd : Reg)
  /-- MOV (to/from SP) (R260), an alias of ADD (immediate): `sf 0 0 10001 00 000000000000 Rn Rd`. -/
  | movToFromSP (sf : BitVec 1) (rn : Reg) (rd : Reg)
  /-- MOV (inverted wide immediate) (R261), an alias of MOVN: `sf 00 100101 hw imm16 Rd`. -/
  | movInvertedWideImmediate (sf : BitVec 1) (hw : BitVec 2) (imm16 : BitVec 16) (rd : Reg)
  /-- MOV (wide immediate) (R262), an alias of MOVZ: `sf 10 100101 hw imm16 Rd`. -/
  | movWideImmediate (sf : BitVec 1) (hw : BitVec 2) (imm16 : BitVec 16) (rd : Reg)
  /-- MOV (bitmask immediate) (R263), an alias of ORR (immediate): `sf 01 100100 N immr imms 11111 Rd`. -/
  | movBitmaskImmediate (sf : BitVec 1) (n : BitVec 1) (immr : BitVec 6) (imms : BitVec 6) (rd : Reg)
  /-- MOV (register) (R264), an alias of ORR (shifted register): `sf 01 01010 00 0 Rm 000000 11111 Rd`. -/
  | movRegister (sf : BitVec 1) (rm : Reg) (rd : Reg)
  /-- MUL (R396), an alias of MADD: `sf 00 11011 000 Rm 0 11111 Rn Rd`. -/
  | mul (sf : BitVec 1) (rm : Reg) (rn : Reg) (rd : Reg)
  /-- MVN (R268), an alias of ORN (shifted register): `sf 01 01010 shift 1 Rm imm6 11111 Rd`. -/
  | mvn (sf : BitVec 1) (shift : BitVec 2) (rm : Reg) (imm6 : BitVec 6) (rd : Reg)
  /-- NEG (shifted register) (R217), an alias of SUB (shifted register): `sf 1 0 01011 shift 0 Rm imm6 11111 Rd`. -/
  | negShiftedRegister (sf : BitVec 1) (shift : BitVec 2) (rm : Reg) (imm6 : BitVec 6) (rd : Reg)
  /-- NEGS (R218), an alias of SUBS (shifted register): `sf 1 1 01011 shift 0 Rm imm6 11111 Rd`. -/
  | negs (sf : BitVec 1) (shift : BitVec 2) (rm : Reg) (imm6 : BitVec 6) (rd : Reg)
  /-- NGC (R219), an alias of SBC: `sf 1 0 11010000 Rm 000000 11111 Rd`. -/
  | ngc (sf : BitVec 1) (rm : Reg) (rd : Reg)
  /-- NGCS (R220), an alias of SBCS: `sf 1 1 11010000 Rm 000000 11111 Rd`. -/
  | ngcs (sf : BitVec 1) (rm : Reg) (rd : Reg)
  /-- REV64 (R321), an alias of REV (64-bit): `1 1 0 11010110 00000 0000 11 Rn Rd`. -/
  | rev64 (rn : Reg) (rd : Reg)
  /-- ROR (immediate) (R322), an alias of EXTR: `sf 00 100111 N 0 Rm imms Rn Rd`. -/
  | rorImmediate (sf : BitVec 1) (n : BitVec 1) (rm : Reg) (imms : BitVec 6) (rn : Reg) (rd : Reg)
  /-- ROR (register) (R323), an alias of RORV: `sf 0 0 11010110 Rm 0010 11 Rn Rd`. -/
  | rorRegister (sf : BitVec 1) (rm : Reg) (rn : Reg) (rd : Reg)
  /-- SBFIZ (R325), an alias of SBFM: `sf 00 100110 N immr imms Rn Rd`. -/
  | sbfiz (sf : BitVec 1) (n : BitVec 1) (immr : BitVec 6) (imms : BitVec 6) (rn : Reg) (rd : Reg)
  /-- SBFX (R327), an alias of SBFM: `sf 00 100110 N immr imms Rn Rd`. -/
  | sbfx (sf : BitVec 1) (n : BitVec 1) (immr : BitVec 6) (imms : BitVec 6) (rn : Reg) (rd : Reg)
  /-- SMNEGL (R399), an alias of SMSUBL: `1 00 11011 0 01 Rm 1 11111 Rn Rd`. -/
  | smnegl (rm : Reg) (rn : Reg) (rd : Reg)
  /-- SMULL (R402), an alias of SMADDL: `1 00 11011 0 01 Rm 0 11111 Rn Rd`. -/
  | smull (rm : Reg) (rn : Reg) (rd : Reg)
  /-- STADDB, STADDLB (R639), an alias of LDADDB, LDADDAB, LDADDALB, LDADDLB: `00 111 0 00 0 R 1 Rs 0 000 00 Rn 11111`. -/
  | staddb (r : BitVec 1) (rs : Reg) (rn : Reg)
  /-- STADDH, STADDLH (R640), an alias of LDADDH, LDADDAH, LDADDALH, LDADDLH: `01 111 0 00 0 R 1 Rs 0 000 00 Rn 11111`. -/
  | staddh (r : BitVec 1) (rs : Reg) (rn : Reg)
  /-- STADD, STADDL (R641), an alias of LDADD, LDADDA, LDADDAL, LDADDL: `1x 111 0 00 0 R 1 Rs 0 000 00 Rn 11111`. -/
  | stadd (size0 : BitVec 1) (r : BitVec 1) (rs : Reg) (rn : Reg)
  /-- STCLRB, STCLRLB (R642), an alias of LDCLRB, LDCLRAB, LDCLRALB, LDCLRLB: `00 111 0 00 0 R 1 Rs 0 001 00 Rn 11111`. -/
  | stclrb (r : BitVec 1) (rs : Reg) (rn : Reg)
  /-- STCLRH, STCLRLH (R643), an alias of LDCLRH, LDCLRAH, LDCLRALH, LDCLRLH: `01 111 0 00 0 R 1 Rs 0 001 00 Rn 11111`. -/
  | stclrh (r : BitVec 1) (rs : Reg) (rn : Reg)
  /-- STCLR, STCLRL (R644), an alias of LDCLR, LDCLRA, LDCLRAL, LDCLRL: `1x 111 0 00 0 R 1 Rs 0 001 00 Rn 11111`. -/
  | stclr (size0 : BitVec 1) (r : BitVec 1) (rs : Reg) (rn : Reg)
  /-- STEORB, STEORLB (R645), an alias of LDEORB, LDEORAB, LDEORALB, LDEORLB: `00 111 0 00 0 R 1 Rs 0 010 00 Rn 11111`. -/
  | steorb (r : BitVec 1) (rs : Reg) (rn : Reg)
  /-- STEORH, STEORLH (R646), an alias of LDEORH, LDEORAH, LDEORALH, LDEORLH: `01 111 0 00 0 R 1 Rs 0 010 00 Rn 11111`. -/
  | steorh (r : BitVec 1) (rs : Reg) (rn : Reg)
  /-- STEOR, STEORL (R647), an alias of LDEOR, LDEORA, LDEORAL, LDEORL: `1x 111 0 00 0 R 1 Rs 0 010 00 Rn 11111`. -/
  | steor (size0 : BitVec 1) (r : BitVec 1) (rs : Reg) (rn : Reg)
  /-- STSETB, STSETLB (R648), an alias of LDSETB, LDSETAB, LDSETALB, LDSETLB: `00 111 0 00 0 R 1 Rs 0 011 00 Rn 11111`. -/
  | stsetb (r : BitVec 1) (rs : Reg) (rn : Reg)
  /-- STSETH, STSETLH (R649), an alias of LDSETH, LDSETAH, LDSETALH, LDSETLH: `01 111 0 00 0 R 1 Rs 0 011 00 Rn 11111`. -/
  | stseth (r : BitVec 1) (rs : Reg) (rn : Reg)
  /-- STSET, STSETL (R650), an alias of LDSET, LDSETA, LDSETAL, LDSETL: `1x 111 0 00 0 R 1 Rs 0 011 00 Rn 11111`. -/
  | stset (size0 : BitVec 1) (r : BitVec 1) (rs : Reg) (rn : Reg)
  /-- STSMAXB, STSMAXLB (R651), an alias of LDSMAXB, LDSMAXAB, LDSMAXALB, LDSMAXLB: `00 111 0 00 0 R 1 Rs 0 100 00 Rn 11111`. -/
  | stsmaxb (r : BitVec 1) (rs : Reg) (rn : Reg)
  /-- STSMAXH, STSMAXLH (R652), an alias of LDSMAXH, LDSMAXAH, LDSMAXALH, LDSMAXLH: `01 111 0 00 0 R 1 Rs 0 100 00 Rn 11111`. -/
  | stsmaxh (r : BitVec 1) (rs : Reg) (rn : Reg)
  /-- STSMAX, STSMAXL (R653), an alias of LDSMAX, LDSMAXA, LDSMAXAL, LDSMAXL: `1x 111 0 00 0 R 1 Rs 0 100 00 Rn 11111`. -/
  | stsmax (size0 : BitVec 1) (r : BitVec 1) (rs : Reg) (rn : Reg)
  /-- STSMINB, STSMINLB (R654), an alias of LDSMINB, LDSMINAB, LDSMINALB, LDSMINLB: `00 111 0 00 0 R 1 Rs 0 101 00 Rn 11111`. -/
  | stsminb (r : BitVec 1) (rs : Reg) (rn : Reg)
  /-- STSMINH, STSMINLH (R655), an alias of LDSMINH, LDSMINAH, LDSMINALH, LDSMINLH: `01 111 0 00 0 R 1 Rs 0 101 00 Rn 11111`. -/
  | stsminh (r : BitVec 1) (rs : Reg) (rn : Reg)
  /-- STSMIN, STSMINL (R656), an alias of LDSMIN, LDSMINA, LDSMINAL, LDSMINL: `1x 111 0 00 0 R 1 Rs 0 101 00 Rn 11111`. -/
  | stsmin (size0 : BitVec 1) (r : BitVec 1) (rs : Reg) (rn : Reg)
  /-- STUMAXB, STUMAXLB (R657), an alias of LDUMAXB, LDUMAXAB, LDUMAXALB, LDUMAXLB: `00 111 0 00 0 R 1 Rs 0 110 00 Rn 11111`. -/
  | stumaxb (r : BitVec 1) (rs : Reg) (rn : Reg)
  /-- STUMAXH, STUMAXLH (R658), an alias of LDUMAXH, LDUMAXAH, LDUMAXALH, LDUMAXLH: `01 111 0 00 0 R 1 Rs 0 110 00 Rn 11111`. -/
  | stumaxh (r : BitVec 1) (rs : Reg) (rn : Reg)
  /-- STUMAX, STUMAXL (R659), an alias of LDUMAX, LDUMAXA, LDUMAXAL, LDUMAXL: `1x 111 0 00 0 R 1 Rs 0 110 00 Rn 11111`. -/
  | stumax (size0 : BitVec 1) (r : BitVec 1) (rs : Reg) (rn : Reg)
  /-- STUMINB, STUMINLB (R660), an alias of LDUMINB, LDUMINAB, LDUMINALB, LDUMINLB: `00 111 0 00 0 R 1 Rs 0 111 00 Rn 11111`. -/
  | stuminb (r : BitVec 1) (rs : Reg) (rn : Reg)
  /-- STUMINH, STUMINLH (R661), an alias of LDUMINH, LDUMINAH, LDUMINALH, LDUMINLH: `01 111 0 00 0 R 1 Rs 0 111 00 Rn 11111`. -/
  | stuminh (r : BitVec 1) (rs : Reg) (rn : Reg)
  /-- STUMIN, STUMINL (R662), an alias of LDUMIN, LDUMINA, LDUMINAL, LDUMINL: `1x 111 0 00 0 R 1 Rs 0 111 00 Rn 11111`. -/
  | stumin (size0 : BitVec 1) (r : BitVec 1) (rs : Reg) (rn : Reg)
  /-- SXTB (R328), an alias of SBFM: `sf 00 100110 N 000000 000111 Rn Rd`. -/
  | sxtb (sf : BitVec 1) (n : BitVec 1) (rn : Reg) (rd : Reg)
  /-- SXTH (R329), an alias of SBFM: `sf 00 100110 N 000000 001111 Rn Rd`. -/
  | sxth (sf : BitVec 1) (n : BitVec 1) (rn : Reg) (rd : Reg)
  /-- SXTW (R330), an alias of SBFM: `1 00 100110 1 000000 011111 Rn Rd`. -/
  | sxtw (rn : Reg) (rd : Reg)
  /-- TLBI (R747), an alias of SYS: `1101010100 0 01 op1 1000 CRm op2 Rt`. -/
  | sysTlbi (op1 : BitVec 3) (crm : BitVec 4) (op2 : BitVec 3) (rt : Reg)
  /-- TST (immediate) (R272), an alias of ANDS (immediate): `sf 11 100100 N immr imms Rn 11111`. -/
  | tstImmediate (sf : BitVec 1) (n : BitVec 1) (immr : BitVec 6) (imms : BitVec 6) (rn : Reg)
  /-- TST (shifted register) (R273), an alias of ANDS (shifted register): `sf 11 01010 shift 0 Rm imm6 Rn 11111`. -/
  | tstShiftedRegister (sf : BitVec 1) (shift : BitVec 2) (rm : Reg) (imm6 : BitVec 6) (rn : Reg)
  /-- UBFIZ (R331), an alias of UBFM: `sf 10 100110 N immr imms Rn Rd`. -/
  | ubfiz (sf : BitVec 1) (n : BitVec 1) (immr : BitVec 6) (imms : BitVec 6) (rn : Reg) (rd : Reg)
  /-- UBFX (R333), an alias of UBFM: `sf 10 100110 N immr imms Rn Rd`. -/
  | ubfx (sf : BitVec 1) (n : BitVec 1) (immr : BitVec 6) (imms : BitVec 6) (rn : Reg) (rd : Reg)
  /-- UMNEGL (R405), an alias of UMSUBL: `1 00 11011 1 01 Rm 1 11111 Rn Rd`. -/
  | umnegl (rm : Reg) (rn : Reg) (rd : Reg)
  /-- UMULL (R408), an alias of UMADDL: `1 00 11011 1 01 Rm 0 11111 Rn Rd`. -/
  | umull (rm : Reg) (rn : Reg) (rd : Reg)
  /-- UXTB (R334), an alias of UBFM: `0 10 100110 0 000000 000111 Rn Rd`. -/
  | uxtb (rn : Reg) (rd : Reg)
  /-- UXTH (R335), an alias of UBFM: `0 10 100110 0 000000 001111 Rn Rd`. -/
  | uxth (rn : Reg) (rd : Reg)
deriving DecidableEq, Repr

namespace Instr

/-- The base instruction of an alias, with the fields the alias fixes filled in (30 R196); a base instruction is its
own. -/
def core : Instr → Instr
  | .adc sf rm rn rd => .adc sf rm rn rd
  | .adcs sf rm rn rd => .adcs sf rm rn rd
  | .addExtendedRegister sf rm option imm3 rn rd => .addExtendedRegister sf rm option imm3 rn rd
  | .addImmediate sf shift imm12 rn rd => .addImmediate sf shift imm12 rn rd
  | .addShiftedRegister sf shift rm imm6 rn rd => .addShiftedRegister sf shift rm imm6 rn rd
  | .addsExtendedRegister sf rm option imm3 rn rd => .addsExtendedRegister sf rm option imm3 rn rd
  | .addsImmediate sf shift imm12 rn rd => .addsImmediate sf shift imm12 rn rd
  | .addsShiftedRegister sf shift rm imm6 rn rd => .addsShiftedRegister sf shift rm imm6 rn rd
  | .adr immlo immhi rd => .adr immlo immhi rd
  | .adrp immlo immhi rd => .adrp immlo immhi rd
  | .andImmediate sf n immr imms rn rd => .andImmediate sf n immr imms rn rd
  | .andShiftedRegister sf shift rm imm6 rn rd => .andShiftedRegister sf shift rm imm6 rn rd
  | .andsImmediate sf n immr imms rn rd => .andsImmediate sf n immr imms rn rd
  | .andsShiftedRegister sf shift rm imm6 rn rd => .andsShiftedRegister sf shift rm imm6 rn rd
  | .asrv sf rm rn rd => .asrv sf rm rn rd
  | .bCond imm19 cond => .bCond imm19 cond
  | .b imm26 => .b imm26
  | .bfm sf n immr imms rn rd => .bfm sf n immr imms rn rd
  | .bicShiftedRegister sf shift rm imm6 rn rd => .bicShiftedRegister sf shift rm imm6 rn rd
  | .bicsShiftedRegister sf shift rm imm6 rn rd => .bicsShiftedRegister sf shift rm imm6 rn rd
  | .bl imm26 => .bl imm26
  | .blr rn => .blr rn
  | .br rn => .br rn
  | .brk imm16 => .brk imm16
  | .casb l rs o0 rn rt => .casb l rs o0 rn rt
  | .cash l rs o0 rn rt => .cash l rs o0 rn rt
  | .casp sz l rs o0 rn rt => .casp sz l rs o0 rn rt
  | .cas size0 l rs o0 rn rt => .cas size0 l rs o0 rn rt
  | .cbnz sf imm19 rt => .cbnz sf imm19 rt
  | .cbz sf imm19 rt => .cbz sf imm19 rt
  | .ccmnImmediate sf imm5 cond rn nzcv => .ccmnImmediate sf imm5 cond rn nzcv
  | .ccmnRegister sf rm cond rn nzcv => .ccmnRegister sf rm cond rn nzcv
  | .ccmpImmediate sf imm5 cond rn nzcv => .ccmpImmediate sf imm5 cond rn nzcv
  | .ccmpRegister sf rm cond rn nzcv => .ccmpRegister sf rm cond rn nzcv
  | .clrex crm => .clrex crm
  | .cls sf rn rd => .cls sf rn rd
  | .clz sf rn rd => .clz sf rn rd
  | .crc32 sf rm sz rn rd => .crc32 sf rm sz rn rd
  | .crc32c sf rm sz rn rd => .crc32c sf rm sz rn rd
  | .csel sf rm cond rn rd => .csel sf rm cond rn rd
  | .csinc sf rm cond rn rd => .csinc sf rm cond rn rd
  | .csinv sf rm cond rn rd => .csinv sf rm cond rn rd
  | .csneg sf rm cond rn rd => .csneg sf rm cond rn rd
  | .dcps1 imm16 => .dcps1 imm16
  | .dcps2 imm16 => .dcps2 imm16
  | .dcps3 imm16 => .dcps3 imm16
  | .dmb crm => .dmb crm
  | .drps => .drps
  | .dsb crm => .dsb crm
  | .eonShiftedRegister sf shift rm imm6 rn rd => .eonShiftedRegister sf shift rm imm6 rn rd
  | .eorImmediate sf n immr imms rn rd => .eorImmediate sf n immr imms rn rd
  | .eorShiftedRegister sf shift rm imm6 rn rd => .eorShiftedRegister sf shift rm imm6 rn rd
  | .eret => .eret
  | .esb => .esb
  | .extr sf n rm imms rn rd => .extr sf n rm imms rn rd
  | .hint crm op2 => .hint crm op2
  | .hlt imm16 => .hlt imm16
  | .hvc imm16 => .hvc imm16
  | .isb crm => .isb crm
  | .ldaddb a r rs rn rt => .ldaddb a r rs rn rt
  | .ldaddh a r rs rn rt => .ldaddh a r rs rn rt
  | .ldadd size0 a r rs rn rt => .ldadd size0 a r rs rn rt
  | .ldar size0 rn rt => .ldar size0 rn rt
  | .ldarb rn rt => .ldarb rn rt
  | .ldarh rn rt => .ldarh rn rt
  | .ldaxp sz rt2 rn rt => .ldaxp sz rt2 rn rt
  | .ldaxr size0 rn rt => .ldaxr size0 rn rt
  | .ldaxrb rn rt => .ldaxrb rn rt
  | .ldaxrh rn rt => .ldaxrh rn rt
  | .ldclrb a r rs rn rt => .ldclrb a r rs rn rt
  | .ldclrh a r rs rn rt => .ldclrh a r rs rn rt
  | .ldclr size0 a r rs rn rt => .ldclr size0 a r rs rn rt
  | .ldeorb a r rs rn rt => .ldeorb a r rs rn rt
  | .ldeorh a r rs rn rt => .ldeorh a r rs rn rt
  | .ldeor size0 a r rs rn rt => .ldeor size0 a r rs rn rt
  | .ldlarb rn rt => .ldlarb rn rt
  | .ldlarh rn rt => .ldlarh rn rt
  | .ldlar size0 rn rt => .ldlar size0 rn rt
  | .ldnp opc1 imm7 rt2 rn rt => .ldnp opc1 imm7 rt2 rn rt
  | .ldpPostIndex opc1 imm7 rt2 rn rt => .ldpPostIndex opc1 imm7 rt2 rn rt
  | .ldpPreIndex opc1 imm7 rt2 rn rt => .ldpPreIndex opc1 imm7 rt2 rn rt
  | .ldpSignedOffset opc1 imm7 rt2 rn rt => .ldpSignedOffset opc1 imm7 rt2 rn rt
  | .ldpswPostIndex imm7 rt2 rn rt => .ldpswPostIndex imm7 rt2 rn rt
  | .ldpswPreIndex imm7 rt2 rn rt => .ldpswPreIndex imm7 rt2 rn rt
  | .ldpswSignedOffset imm7 rt2 rn rt => .ldpswSignedOffset imm7 rt2 rn rt
  | .ldrImmediatePostIndex size0 imm9 rn rt => .ldrImmediatePostIndex size0 imm9 rn rt
  | .ldrImmediatePreIndex size0 imm9 rn rt => .ldrImmediatePreIndex size0 imm9 rn rt
  | .ldrImmediateUnsignedOffset size0 imm12 rn rt => .ldrImmediateUnsignedOffset size0 imm12 rn rt
  | .ldrLiteral opc0 imm19 rt => .ldrLiteral opc0 imm19 rt
  | .ldrRegister size0 rm option s1 rn rt => .ldrRegister size0 rm option s1 rn rt
  | .ldrbImmediatePostIndex imm9 rn rt => .ldrbImmediatePostIndex imm9 rn rt
  | .ldrbImmediatePreIndex imm9 rn rt => .ldrbImmediatePreIndex imm9 rn rt
  | .ldrbImmediateUnsignedOffset imm12 rn rt => .ldrbImmediateUnsignedOffset imm12 rn rt
  | .ldrbRegister rm option s1 rn rt => .ldrbRegister rm option s1 rn rt
  | .ldrhImmediatePostIndex imm9 rn rt => .ldrhImmediatePostIndex imm9 rn rt
  | .ldrhImmediatePreIndex imm9 rn rt => .ldrhImmediatePreIndex imm9 rn rt
  | .ldrhImmediateUnsignedOffset imm12 rn rt => .ldrhImmediateUnsignedOffset imm12 rn rt
  | .ldrhRegister rm option s1 rn rt => .ldrhRegister rm option s1 rn rt
  | .ldrsbImmediatePostIndex opc0 imm9 rn rt => .ldrsbImmediatePostIndex opc0 imm9 rn rt
  | .ldrsbImmediatePreIndex opc0 imm9 rn rt => .ldrsbImmediatePreIndex opc0 imm9 rn rt
  | .ldrsbImmediateUnsignedOffset opc0 imm12 rn rt => .ldrsbImmediateUnsignedOffset opc0 imm12 rn rt
  | .ldrsbRegister opc0 rm option s1 rn rt => .ldrsbRegister opc0 rm option s1 rn rt
  | .ldrshImmediatePostIndex opc0 imm9 rn rt => .ldrshImmediatePostIndex opc0 imm9 rn rt
  | .ldrshImmediatePreIndex opc0 imm9 rn rt => .ldrshImmediatePreIndex opc0 imm9 rn rt
  | .ldrshImmediateUnsignedOffset opc0 imm12 rn rt => .ldrshImmediateUnsignedOffset opc0 imm12 rn rt
  | .ldrshRegister opc0 rm option s1 rn rt => .ldrshRegister opc0 rm option s1 rn rt
  | .ldrswImmediatePostIndex imm9 rn rt => .ldrswImmediatePostIndex imm9 rn rt
  | .ldrswImmediatePreIndex imm9 rn rt => .ldrswImmediatePreIndex imm9 rn rt
  | .ldrswImmediateUnsignedOffset imm12 rn rt => .ldrswImmediateUnsignedOffset imm12 rn rt
  | .ldrswLiteral imm19 rt => .ldrswLiteral imm19 rt
  | .ldrswRegister rm option s1 rn rt => .ldrswRegister rm option s1 rn rt
  | .ldsetb a r rs rn rt => .ldsetb a r rs rn rt
  | .ldseth a r rs rn rt => .ldseth a r rs rn rt
  | .ldset size0 a r rs rn rt => .ldset size0 a r rs rn rt
  | .ldsmaxb a r rs rn rt => .ldsmaxb a r rs rn rt
  | .ldsmaxh a r rs rn rt => .ldsmaxh a r rs rn rt
  | .ldsmax size0 a r rs rn rt => .ldsmax size0 a r rs rn rt
  | .ldsminb a r rs rn rt => .ldsminb a r rs rn rt
  | .ldsminh a r rs rn rt => .ldsminh a r rs rn rt
  | .ldsmin size0 a r rs rn rt => .ldsmin size0 a r rs rn rt
  | .ldtr size0 imm9 rn rt => .ldtr size0 imm9 rn rt
  | .ldtrb imm9 rn rt => .ldtrb imm9 rn rt
  | .ldtrh imm9 rn rt => .ldtrh imm9 rn rt
  | .ldtrsb opc0 imm9 rn rt => .ldtrsb opc0 imm9 rn rt
  | .ldtrsh opc0 imm9 rn rt => .ldtrsh opc0 imm9 rn rt
  | .ldtrsw imm9 rn rt => .ldtrsw imm9 rn rt
  | .ldumaxb a r rs rn rt => .ldumaxb a r rs rn rt
  | .ldumaxh a r rs rn rt => .ldumaxh a r rs rn rt
  | .ldumax size0 a r rs rn rt => .ldumax size0 a r rs rn rt
  | .lduminb a r rs rn rt => .lduminb a r rs rn rt
  | .lduminh a r rs rn rt => .lduminh a r rs rn rt
  | .ldumin size0 a r rs rn rt => .ldumin size0 a r rs rn rt
  | .ldur size0 imm9 rn rt => .ldur size0 imm9 rn rt
  | .ldurb imm9 rn rt => .ldurb imm9 rn rt
  | .ldurh imm9 rn rt => .ldurh imm9 rn rt
  | .ldursb opc0 imm9 rn rt => .ldursb opc0 imm9 rn rt
  | .ldursh opc0 imm9 rn rt => .ldursh opc0 imm9 rn rt
  | .ldursw imm9 rn rt => .ldursw imm9 rn rt
  | .ldxp sz rt2 rn rt => .ldxp sz rt2 rn rt
  | .ldxr size0 rn rt => .ldxr size0 rn rt
  | .ldxrb rn rt => .ldxrb rn rt
  | .ldxrh rn rt => .ldxrh rn rt
  | .lslv sf rm rn rd => .lslv sf rm rn rd
  | .lsrv sf rm rn rd => .lsrv sf rm rn rd
  | .madd sf rm ra rn rd => .madd sf rm ra rn rd
  | .movk sf hw imm16 rd => .movk sf hw imm16 rd
  | .movn sf hw imm16 rd => .movn sf hw imm16 rd
  | .movz sf hw imm16 rd => .movz sf hw imm16 rd
  | .mrs o0 op1 crn crm op2 rt => .mrs o0 op1 crn crm op2 rt
  | .msrImmediate op1 crm op2 => .msrImmediate op1 crm op2
  | .msrRegister o0 op1 crn crm op2 rt => .msrRegister o0 op1 crn crm op2 rt
  | .msub sf rm ra rn rd => .msub sf rm ra rn rd
  | .nop => .nop
  | .ornShiftedRegister sf shift rm imm6 rn rd => .ornShiftedRegister sf shift rm imm6 rn rd
  | .orrImmediate sf n immr imms rn rd => .orrImmediate sf n immr imms rn rd
  | .orrShiftedRegister sf shift rm imm6 rn rd => .orrShiftedRegister sf shift rm imm6 rn rd
  | .prfmImmediate imm12 rn rt => .prfmImmediate imm12 rn rt
  | .prfmLiteral imm19 rt => .prfmLiteral imm19 rt
  | .prfmRegister rm option s1 rn rt => .prfmRegister rm option s1 rn rt
  | .prfum imm9 rn rt => .prfum imm9 rn rt
  | .psbCsync => .psbCsync
  | .rbit sf rn rd => .rbit sf rn rd
  | .ret rn => .ret rn
  | .rev32Bit rn rd => .rev32Bit rn rd
  | .rev64Bit rn rd => .rev64Bit rn rd
  | .rev16 sf rn rd => .rev16 sf rn rd
  | .rev32 rn rd => .rev32 rn rd
  | .rorv sf rm rn rd => .rorv sf rm rn rd
  | .sbc sf rm rn rd => .sbc sf rm rn rd
  | .sbcs sf rm rn rd => .sbcs sf rm rn rd
  | .sbfm sf n immr imms rn rd => .sbfm sf n immr imms rn rd
  | .sdiv sf rm rn rd => .sdiv sf rm rn rd
  | .sev => .sev
  | .sevl => .sevl
  | .smaddl rm ra rn rd => .smaddl rm ra rn rd
  | .smc imm16 => .smc imm16
  | .smsubl rm ra rn rd => .smsubl rm ra rn rd
  | .smulh rm rn rd => .smulh rm rn rd
  | .stllrb rn rt => .stllrb rn rt
  | .stllrh rn rt => .stllrh rn rt
  | .stllr size0 rn rt => .stllr size0 rn rt
  | .stlr size0 rn rt => .stlr size0 rn rt
  | .stlrb rn rt => .stlrb rn rt
  | .stlrh rn rt => .stlrh rn rt
  | .stlxp sz rs rt2 rn rt => .stlxp sz rs rt2 rn rt
  | .stlxr size0 rs rn rt => .stlxr size0 rs rn rt
  | .stlxrb rs rn rt => .stlxrb rs rn rt
  | .stlxrh rs rn rt => .stlxrh rs rn rt
  | .stnp opc1 imm7 rt2 rn rt => .stnp opc1 imm7 rt2 rn rt
  | .stpPostIndex opc1 imm7 rt2 rn rt => .stpPostIndex opc1 imm7 rt2 rn rt
  | .stpPreIndex opc1 imm7 rt2 rn rt => .stpPreIndex opc1 imm7 rt2 rn rt
  | .stpSignedOffset opc1 imm7 rt2 rn rt => .stpSignedOffset opc1 imm7 rt2 rn rt
  | .strImmediatePostIndex size0 imm9 rn rt => .strImmediatePostIndex size0 imm9 rn rt
  | .strImmediatePreIndex size0 imm9 rn rt => .strImmediatePreIndex size0 imm9 rn rt
  | .strImmediateUnsignedOffset size0 imm12 rn rt => .strImmediateUnsignedOffset size0 imm12 rn rt
  | .strRegister size0 rm option s1 rn rt => .strRegister size0 rm option s1 rn rt
  | .strbImmediatePostIndex imm9 rn rt => .strbImmediatePostIndex imm9 rn rt
  | .strbImmediatePreIndex imm9 rn rt => .strbImmediatePreIndex imm9 rn rt
  | .strbImmediateUnsignedOffset imm12 rn rt => .strbImmediateUnsignedOffset imm12 rn rt
  | .strbRegister rm option s1 rn rt => .strbRegister rm option s1 rn rt
  | .strhImmediatePostIndex imm9 rn rt => .strhImmediatePostIndex imm9 rn rt
  | .strhImmediatePreIndex imm9 rn rt => .strhImmediatePreIndex imm9 rn rt
  | .strhImmediateUnsignedOffset imm12 rn rt => .strhImmediateUnsignedOffset imm12 rn rt
  | .strhRegister rm option s1 rn rt => .strhRegister rm option s1 rn rt
  | .sttr size0 imm9 rn rt => .sttr size0 imm9 rn rt
  | .sttrb imm9 rn rt => .sttrb imm9 rn rt
  | .sttrh imm9 rn rt => .sttrh imm9 rn rt
  | .stur size0 imm9 rn rt => .stur size0 imm9 rn rt
  | .sturb imm9 rn rt => .sturb imm9 rn rt
  | .sturh imm9 rn rt => .sturh imm9 rn rt
  | .stxp sz rs rt2 rn rt => .stxp sz rs rt2 rn rt
  | .stxr size0 rs rn rt => .stxr size0 rs rn rt
  | .stxrb rs rn rt => .stxrb rs rn rt
  | .stxrh rs rn rt => .stxrh rs rn rt
  | .subExtendedRegister sf rm option imm3 rn rd => .subExtendedRegister sf rm option imm3 rn rd
  | .subImmediate sf shift imm12 rn rd => .subImmediate sf shift imm12 rn rd
  | .subShiftedRegister sf shift rm imm6 rn rd => .subShiftedRegister sf shift rm imm6 rn rd
  | .subsExtendedRegister sf rm option imm3 rn rd => .subsExtendedRegister sf rm option imm3 rn rd
  | .subsImmediate sf shift imm12 rn rd => .subsImmediate sf shift imm12 rn rd
  | .subsShiftedRegister sf shift rm imm6 rn rd => .subsShiftedRegister sf shift rm imm6 rn rd
  | .svc imm16 => .svc imm16
  | .swpb a r rs rn rt => .swpb a r rs rn rt
  | .swph a r rs rn rt => .swph a r rs rn rt
  | .swp size0 a r rs rn rt => .swp size0 a r rs rn rt
  | .sys op1 crn crm op2 rt => .sys op1 crn crm op2 rt
  | .sysl op1 crn crm op2 rt => .sysl op1 crn crm op2 rt
  | .tbnz b5 b40 imm14 rt => .tbnz b5 b40 imm14 rt
  | .tbz b5 b40 imm14 rt => .tbz b5 b40 imm14 rt
  | .ubfm sf n immr imms rn rd => .ubfm sf n immr imms rn rd
  | .udiv sf rm rn rd => .udiv sf rm rn rd
  | .umaddl rm ra rn rd => .umaddl rm ra rn rd
  | .umsubl rm ra rn rd => .umsubl rm ra rn rd
  | .umulh rm rn rd => .umulh rm rn rd
  | .wfe => .wfe
  | .wfi => .wfi
  | .yield => .yield
  | .asrRegister sf rm rn rd => .asrv sf rm rn rd
  | .asrImmediate sf n immr imms5 rn rd => .sbfm sf n immr (imms5 ++ 31#5) rn rd
  | .sysAt op1 crm0 op2 rt => .sys op1 7#4 (4#3 ++ crm0) op2 rt
  | .bfc sf n immr imms rd => .bfm sf n immr imms 31#5 rd
  | .bfi sf n immr imms rn rd => .bfm sf n immr imms rn rd
  | .bfxil sf n immr imms rn rd => .bfm sf n immr imms rn rd
  | .cinc sf rm cond rn rd => .csinc sf rm cond rn rd
  | .cinv sf rm cond rn rd => .csinv sf rm cond rn rd
  | .cmnExtendedRegister sf rm option imm3 rn => .addsExtendedRegister sf rm option imm3 rn 31#5
  | .cmnImmediate sf shift imm12 rn => .addsImmediate sf shift imm12 rn 31#5
  | .cmnShiftedRegister sf shift rm imm6 rn => .addsShiftedRegister sf shift rm imm6 rn 31#5
  | .cmpExtendedRegister sf rm option imm3 rn => .subsExtendedRegister sf rm option imm3 rn 31#5
  | .cmpImmediate sf shift imm12 rn => .subsImmediate sf shift imm12 rn 31#5
  | .cmpShiftedRegister sf shift rm imm6 rn => .subsShiftedRegister sf shift rm imm6 rn 31#5
  | .cneg sf rm cond rn rd => .csneg sf rm cond rn rd
  | .cset sf cond rd => .csinc sf 31#5 cond 31#5 rd
  | .csetm sf cond rd => .csinv sf 31#5 cond 31#5 rd
  | .sysDc op1 crm op2 rt => .sys op1 7#4 crm op2 rt
  | .sysIc op1 crm op2 rt => .sys op1 7#4 crm op2 rt
  | .lslRegister sf rm rn rd => .lslv sf rm rn rd
  | .lslImmediate sf n immr imms rn rd => .ubfm sf n immr imms rn rd
  | .lsrRegister sf rm rn rd => .lsrv sf rm rn rd
  | .lsrImmediate sf n immr imms5 rn rd => .ubfm sf n immr (imms5 ++ 31#5) rn rd
  | .mneg sf rm rn rd => .msub sf rm 31#5 rn rd
  | .movToFromSP sf rn rd => .addImmediate sf 0#2 0#12 rn rd
  | .movInvertedWideImmediate sf hw imm16 rd => .movn sf hw imm16 rd
  | .movWideImmediate sf hw imm16 rd => .movz sf hw imm16 rd
  | .movBitmaskImmediate sf n immr imms rd => .orrImmediate sf n immr imms 31#5 rd
  | .movRegister sf rm rd => .orrShiftedRegister sf 0#2 rm 0#6 31#5 rd
  | .mul sf rm rn rd => .madd sf rm 31#5 rn rd
  | .mvn sf shift rm imm6 rd => .ornShiftedRegister sf shift rm imm6 31#5 rd
  | .negShiftedRegister sf shift rm imm6 rd => .subShiftedRegister sf shift rm imm6 31#5 rd
  | .negs sf shift rm imm6 rd => .subsShiftedRegister sf shift rm imm6 31#5 rd
  | .ngc sf rm rd => .sbc sf rm 31#5 rd
  | .ngcs sf rm rd => .sbcs sf rm 31#5 rd
  | .rev64 rn rd => .rev64Bit rn rd
  | .rorImmediate sf n rm imms rn rd => .extr sf n rm imms rn rd
  | .rorRegister sf rm rn rd => .rorv sf rm rn rd
  | .sbfiz sf n immr imms rn rd => .sbfm sf n immr imms rn rd
  | .sbfx sf n immr imms rn rd => .sbfm sf n immr imms rn rd
  | .smnegl rm rn rd => .smsubl rm 31#5 rn rd
  | .smull rm rn rd => .smaddl rm 31#5 rn rd
  | .staddb r rs rn => .ldaddb 0#1 r rs rn 31#5
  | .staddh r rs rn => .ldaddh 0#1 r rs rn 31#5
  | .stadd size0 r rs rn => .ldadd size0 0#1 r rs rn 31#5
  | .stclrb r rs rn => .ldclrb 0#1 r rs rn 31#5
  | .stclrh r rs rn => .ldclrh 0#1 r rs rn 31#5
  | .stclr size0 r rs rn => .ldclr size0 0#1 r rs rn 31#5
  | .steorb r rs rn => .ldeorb 0#1 r rs rn 31#5
  | .steorh r rs rn => .ldeorh 0#1 r rs rn 31#5
  | .steor size0 r rs rn => .ldeor size0 0#1 r rs rn 31#5
  | .stsetb r rs rn => .ldsetb 0#1 r rs rn 31#5
  | .stseth r rs rn => .ldseth 0#1 r rs rn 31#5
  | .stset size0 r rs rn => .ldset size0 0#1 r rs rn 31#5
  | .stsmaxb r rs rn => .ldsmaxb 0#1 r rs rn 31#5
  | .stsmaxh r rs rn => .ldsmaxh 0#1 r rs rn 31#5
  | .stsmax size0 r rs rn => .ldsmax size0 0#1 r rs rn 31#5
  | .stsminb r rs rn => .ldsminb 0#1 r rs rn 31#5
  | .stsminh r rs rn => .ldsminh 0#1 r rs rn 31#5
  | .stsmin size0 r rs rn => .ldsmin size0 0#1 r rs rn 31#5
  | .stumaxb r rs rn => .ldumaxb 0#1 r rs rn 31#5
  | .stumaxh r rs rn => .ldumaxh 0#1 r rs rn 31#5
  | .stumax size0 r rs rn => .ldumax size0 0#1 r rs rn 31#5
  | .stuminb r rs rn => .lduminb 0#1 r rs rn 31#5
  | .stuminh r rs rn => .lduminh 0#1 r rs rn 31#5
  | .stumin size0 r rs rn => .ldumin size0 0#1 r rs rn 31#5
  | .sxtb sf n rn rd => .sbfm sf n 0#6 7#6 rn rd
  | .sxth sf n rn rd => .sbfm sf n 0#6 15#6 rn rd
  | .sxtw rn rd => .sbfm 1#1 1#1 0#6 31#6 rn rd
  | .sysTlbi op1 crm op2 rt => .sys op1 8#4 crm op2 rt
  | .tstImmediate sf n immr imms rn => .andsImmediate sf n immr imms rn 31#5
  | .tstShiftedRegister sf shift rm imm6 rn => .andsShiftedRegister sf shift rm imm6 rn 31#5
  | .ubfiz sf n immr imms rn rd => .ubfm sf n immr imms rn rd
  | .ubfx sf n immr imms rn rd => .ubfm sf n immr imms rn rd
  | .umnegl rm rn rd => .umsubl rm 31#5 rn rd
  | .umull rm rn rd => .umaddl rm 31#5 rn rd
  | .uxtb rn rd => .ubfm 0#1 0#1 0#6 7#6 rn rd
  | .uxth rn rd => .ubfm 0#1 0#1 0#6 15#6 rn rd

end Instr

end Sys2Proof
end

