-- ==== Sys2Proof/Machine/Dispatch.lean ====
section
/-! DEFINITION. One arm per constructor of `Instr`, each one direct call of a meaning. -/

namespace Sys2Proof.Machine

/-- The meaning of an instruction at a state. -/
def exec (i : Instr) (s : State) : Host.Outcome State Fault Refusal :=
  match i with
  | .adc sf rm rn rd => Sys2Proof.Machine.execAdc sf rm rn rd s
  | .adcs sf rm rn rd => Sys2Proof.Machine.execAdcs sf rm rn rd s
  | .addExtendedRegister sf rm option imm3 rn rd => Sys2Proof.Machine.execAddExtendedRegister sf rm option imm3 rn rd s
  | .addImmediate sf shift imm12 rn rd => Sys2Proof.Machine.execAddImmediate sf shift imm12 rn rd s
  | .addShiftedRegister sf shift rm imm6 rn rd => Sys2Proof.Machine.execAddShiftedRegister sf shift rm imm6 rn rd s
  | .addsExtendedRegister sf rm option imm3 rn rd => Sys2Proof.Machine.execAddsExtendedRegister sf rm option imm3 rn rd s
  | .addsImmediate sf shift imm12 rn rd => Sys2Proof.Machine.execAddsImmediate sf shift imm12 rn rd s
  | .addsShiftedRegister sf shift rm imm6 rn rd => Sys2Proof.Machine.execAddsShiftedRegister sf shift rm imm6 rn rd s
  | .adr immlo immhi rd => Sys2Proof.Machine.execAdr immlo immhi rd s
  | .adrp immlo immhi rd => Sys2Proof.Machine.execAdrp immlo immhi rd s
  | .andImmediate sf n immr imms rn rd => Sys2Proof.Machine.execAndImmediate sf n immr imms rn rd s
  | .andShiftedRegister sf shift rm imm6 rn rd => Sys2Proof.Machine.execAndShiftedRegister sf shift rm imm6 rn rd s
  | .andsImmediate sf n immr imms rn rd => Sys2Proof.Machine.execAndsImmediate sf n immr imms rn rd s
  | .andsShiftedRegister sf shift rm imm6 rn rd => Sys2Proof.Machine.execAndsShiftedRegister sf shift rm imm6 rn rd s
  | .asrv sf rm rn rd => Sys2Proof.Machine.execAsrv sf rm rn rd s
  | .bCond imm19 cond => Sys2Proof.Machine.execBCond imm19 cond s
  | .b imm26 => Sys2Proof.Machine.execB imm26 s
  | .bfm sf n immr imms rn rd => Sys2Proof.Machine.execBfm sf n immr imms rn rd s
  | .bicShiftedRegister sf shift rm imm6 rn rd => Sys2Proof.Machine.execBicShiftedRegister sf shift rm imm6 rn rd s
  | .bicsShiftedRegister sf shift rm imm6 rn rd => Sys2Proof.Machine.execBicsShiftedRegister sf shift rm imm6 rn rd s
  | .bl imm26 => Sys2Proof.Machine.execBl imm26 s
  | .blr rn => Sys2Proof.Machine.execBlr rn s
  | .br rn => Sys2Proof.Machine.execBr rn s
  | .brk imm16 => Sys2Proof.Machine.execBrk imm16 s
  | .casb l rs o0 rn rt => Sys2Proof.Machine.execCasb l rs o0 rn rt s
  | .cash l rs o0 rn rt => Sys2Proof.Machine.execCash l rs o0 rn rt s
  | .casp sz l rs o0 rn rt => Sys2Proof.Machine.execCasp sz l rs o0 rn rt s
  | .cas size0 l rs o0 rn rt => Sys2Proof.Machine.execCas size0 l rs o0 rn rt s
  | .cbnz sf imm19 rt => Sys2Proof.Machine.execCbnz sf imm19 rt s
  | .cbz sf imm19 rt => Sys2Proof.Machine.execCbz sf imm19 rt s
  | .ccmnImmediate sf imm5 cond rn nzcv => Sys2Proof.Machine.execCcmnImmediate sf imm5 cond rn nzcv s
  | .ccmnRegister sf rm cond rn nzcv => Sys2Proof.Machine.execCcmnRegister sf rm cond rn nzcv s
  | .ccmpImmediate sf imm5 cond rn nzcv => Sys2Proof.Machine.execCcmpImmediate sf imm5 cond rn nzcv s
  | .ccmpRegister sf rm cond rn nzcv => Sys2Proof.Machine.execCcmpRegister sf rm cond rn nzcv s
  | .clrex crm => Sys2Proof.Machine.execClrex crm s
  | .cls sf rn rd => Sys2Proof.Machine.execCls sf rn rd s
  | .clz sf rn rd => Sys2Proof.Machine.execClz sf rn rd s
  | .crc32 sf rm sz rn rd => Sys2Proof.Machine.execCrc32 sf rm sz rn rd s
  | .crc32c sf rm sz rn rd => Sys2Proof.Machine.execCrc32c sf rm sz rn rd s
  | .csel sf rm cond rn rd => Sys2Proof.Machine.execCsel sf rm cond rn rd s
  | .csinc sf rm cond rn rd => Sys2Proof.Machine.execCsinc sf rm cond rn rd s
  | .csinv sf rm cond rn rd => Sys2Proof.Machine.execCsinv sf rm cond rn rd s
  | .csneg sf rm cond rn rd => Sys2Proof.Machine.execCsneg sf rm cond rn rd s
  | .dcps1 imm16 => Sys2Proof.Machine.execDcps1 imm16 s
  | .dcps2 imm16 => Sys2Proof.Machine.execDcps2 imm16 s
  | .dcps3 imm16 => Sys2Proof.Machine.execDcps3 imm16 s
  | .dmb crm => Sys2Proof.Machine.execDmb crm s
  | .drps => Sys2Proof.Machine.execDrps s
  | .dsb crm => Sys2Proof.Machine.execDsb crm s
  | .eonShiftedRegister sf shift rm imm6 rn rd => Sys2Proof.Machine.execEonShiftedRegister sf shift rm imm6 rn rd s
  | .eorImmediate sf n immr imms rn rd => Sys2Proof.Machine.execEorImmediate sf n immr imms rn rd s
  | .eorShiftedRegister sf shift rm imm6 rn rd => Sys2Proof.Machine.execEorShiftedRegister sf shift rm imm6 rn rd s
  | .eret => Sys2Proof.Machine.execEret s
  | .esb => Sys2Proof.Machine.execEsb s
  | .extr sf n rm imms rn rd => Sys2Proof.Machine.execExtr sf n rm imms rn rd s
  | .hint crm op2 => Sys2Proof.Machine.execHint crm op2 s
  | .hlt imm16 => Sys2Proof.Machine.execHlt imm16 s
  | .hvc imm16 => Sys2Proof.Machine.execHvc imm16 s
  | .isb crm => Sys2Proof.Machine.execIsb crm s
  | .ldaddb a r rs rn rt => Sys2Proof.Machine.execLdaddb a r rs rn rt s
  | .ldaddh a r rs rn rt => Sys2Proof.Machine.execLdaddh a r rs rn rt s
  | .ldadd size0 a r rs rn rt => Sys2Proof.Machine.execLdadd size0 a r rs rn rt s
  | .ldar size0 rn rt => Sys2Proof.Machine.execLdar size0 rn rt s
  | .ldarb rn rt => Sys2Proof.Machine.execLdarb rn rt s
  | .ldarh rn rt => Sys2Proof.Machine.execLdarh rn rt s
  | .ldaxp sz rt2 rn rt => Sys2Proof.Machine.execLdaxp sz rt2 rn rt s
  | .ldaxr size0 rn rt => Sys2Proof.Machine.execLdaxr size0 rn rt s
  | .ldaxrb rn rt => Sys2Proof.Machine.execLdaxrb rn rt s
  | .ldaxrh rn rt => Sys2Proof.Machine.execLdaxrh rn rt s
  | .ldclrb a r rs rn rt => Sys2Proof.Machine.execLdclrb a r rs rn rt s
  | .ldclrh a r rs rn rt => Sys2Proof.Machine.execLdclrh a r rs rn rt s
  | .ldclr size0 a r rs rn rt => Sys2Proof.Machine.execLdclr size0 a r rs rn rt s
  | .ldeorb a r rs rn rt => Sys2Proof.Machine.execLdeorb a r rs rn rt s
  | .ldeorh a r rs rn rt => Sys2Proof.Machine.execLdeorh a r rs rn rt s
  | .ldeor size0 a r rs rn rt => Sys2Proof.Machine.execLdeor size0 a r rs rn rt s
  | .ldlarb rn rt => Sys2Proof.Machine.execLdlarb rn rt s
  | .ldlarh rn rt => Sys2Proof.Machine.execLdlarh rn rt s
  | .ldlar size0 rn rt => Sys2Proof.Machine.execLdlar size0 rn rt s
  | .ldnp opc1 imm7 rt2 rn rt => Sys2Proof.Machine.execLdnp opc1 imm7 rt2 rn rt s
  | .ldpPostIndex opc1 imm7 rt2 rn rt => Sys2Proof.Machine.execLdpPostIndex opc1 imm7 rt2 rn rt s
  | .ldpPreIndex opc1 imm7 rt2 rn rt => Sys2Proof.Machine.execLdpPreIndex opc1 imm7 rt2 rn rt s
  | .ldpSignedOffset opc1 imm7 rt2 rn rt => Sys2Proof.Machine.execLdpSignedOffset opc1 imm7 rt2 rn rt s
  | .ldpswPostIndex imm7 rt2 rn rt => Sys2Proof.Machine.execLdpswPostIndex imm7 rt2 rn rt s
  | .ldpswPreIndex imm7 rt2 rn rt => Sys2Proof.Machine.execLdpswPreIndex imm7 rt2 rn rt s
  | .ldpswSignedOffset imm7 rt2 rn rt => Sys2Proof.Machine.execLdpswSignedOffset imm7 rt2 rn rt s
  | .ldrImmediatePostIndex size0 imm9 rn rt => Sys2Proof.Machine.execLdrImmediatePostIndex size0 imm9 rn rt s
  | .ldrImmediatePreIndex size0 imm9 rn rt => Sys2Proof.Machine.execLdrImmediatePreIndex size0 imm9 rn rt s
  | .ldrImmediateUnsignedOffset size0 imm12 rn rt => Sys2Proof.Machine.execLdrImmediateUnsignedOffset size0 imm12 rn rt s
  | .ldrLiteral opc0 imm19 rt => Sys2Proof.Machine.execLdrLiteral opc0 imm19 rt s
  | .ldrRegister size0 rm option s1 rn rt => Sys2Proof.Machine.execLdrRegister size0 rm option s1 rn rt s
  | .ldrbImmediatePostIndex imm9 rn rt => Sys2Proof.Machine.execLdrbImmediatePostIndex imm9 rn rt s
  | .ldrbImmediatePreIndex imm9 rn rt => Sys2Proof.Machine.execLdrbImmediatePreIndex imm9 rn rt s
  | .ldrbImmediateUnsignedOffset imm12 rn rt => Sys2Proof.Machine.execLdrbImmediateUnsignedOffset imm12 rn rt s
  | .ldrbRegister rm option s1 rn rt => Sys2Proof.Machine.execLdrbRegister rm option s1 rn rt s
  | .ldrhImmediatePostIndex imm9 rn rt => Sys2Proof.Machine.execLdrhImmediatePostIndex imm9 rn rt s
  | .ldrhImmediatePreIndex imm9 rn rt => Sys2Proof.Machine.execLdrhImmediatePreIndex imm9 rn rt s
  | .ldrhImmediateUnsignedOffset imm12 rn rt => Sys2Proof.Machine.execLdrhImmediateUnsignedOffset imm12 rn rt s
  | .ldrhRegister rm option s1 rn rt => Sys2Proof.Machine.execLdrhRegister rm option s1 rn rt s
  | .ldrsbImmediatePostIndex opc0 imm9 rn rt => Sys2Proof.Machine.execLdrsbImmediatePostIndex opc0 imm9 rn rt s
  | .ldrsbImmediatePreIndex opc0 imm9 rn rt => Sys2Proof.Machine.execLdrsbImmediatePreIndex opc0 imm9 rn rt s
  | .ldrsbImmediateUnsignedOffset opc0 imm12 rn rt => Sys2Proof.Machine.execLdrsbImmediateUnsignedOffset opc0 imm12 rn rt s
  | .ldrsbRegister opc0 rm option s1 rn rt => Sys2Proof.Machine.execLdrsbRegister opc0 rm option s1 rn rt s
  | .ldrshImmediatePostIndex opc0 imm9 rn rt => Sys2Proof.Machine.execLdrshImmediatePostIndex opc0 imm9 rn rt s
  | .ldrshImmediatePreIndex opc0 imm9 rn rt => Sys2Proof.Machine.execLdrshImmediatePreIndex opc0 imm9 rn rt s
  | .ldrshImmediateUnsignedOffset opc0 imm12 rn rt => Sys2Proof.Machine.execLdrshImmediateUnsignedOffset opc0 imm12 rn rt s
  | .ldrshRegister opc0 rm option s1 rn rt => Sys2Proof.Machine.execLdrshRegister opc0 rm option s1 rn rt s
  | .ldrswImmediatePostIndex imm9 rn rt => Sys2Proof.Machine.execLdrswImmediatePostIndex imm9 rn rt s
  | .ldrswImmediatePreIndex imm9 rn rt => Sys2Proof.Machine.execLdrswImmediatePreIndex imm9 rn rt s
  | .ldrswImmediateUnsignedOffset imm12 rn rt => Sys2Proof.Machine.execLdrswImmediateUnsignedOffset imm12 rn rt s
  | .ldrswLiteral imm19 rt => Sys2Proof.Machine.execLdrswLiteral imm19 rt s
  | .ldrswRegister rm option s1 rn rt => Sys2Proof.Machine.execLdrswRegister rm option s1 rn rt s
  | .ldsetb a r rs rn rt => Sys2Proof.Machine.execLdsetb a r rs rn rt s
  | .ldseth a r rs rn rt => Sys2Proof.Machine.execLdseth a r rs rn rt s
  | .ldset size0 a r rs rn rt => Sys2Proof.Machine.execLdset size0 a r rs rn rt s
  | .ldsmaxb a r rs rn rt => Sys2Proof.Machine.execLdsmaxb a r rs rn rt s
  | .ldsmaxh a r rs rn rt => Sys2Proof.Machine.execLdsmaxh a r rs rn rt s
  | .ldsmax size0 a r rs rn rt => Sys2Proof.Machine.execLdsmax size0 a r rs rn rt s
  | .ldsminb a r rs rn rt => Sys2Proof.Machine.execLdsminb a r rs rn rt s
  | .ldsminh a r rs rn rt => Sys2Proof.Machine.execLdsminh a r rs rn rt s
  | .ldsmin size0 a r rs rn rt => Sys2Proof.Machine.execLdsmin size0 a r rs rn rt s
  | .ldtr size0 imm9 rn rt => Sys2Proof.Machine.execLdtr size0 imm9 rn rt s
  | .ldtrb imm9 rn rt => Sys2Proof.Machine.execLdtrb imm9 rn rt s
  | .ldtrh imm9 rn rt => Sys2Proof.Machine.execLdtrh imm9 rn rt s
  | .ldtrsb opc0 imm9 rn rt => Sys2Proof.Machine.execLdtrsb opc0 imm9 rn rt s
  | .ldtrsh opc0 imm9 rn rt => Sys2Proof.Machine.execLdtrsh opc0 imm9 rn rt s
  | .ldtrsw imm9 rn rt => Sys2Proof.Machine.execLdtrsw imm9 rn rt s
  | .ldumaxb a r rs rn rt => Sys2Proof.Machine.execLdumaxb a r rs rn rt s
  | .ldumaxh a r rs rn rt => Sys2Proof.Machine.execLdumaxh a r rs rn rt s
  | .ldumax size0 a r rs rn rt => Sys2Proof.Machine.execLdumax size0 a r rs rn rt s
  | .lduminb a r rs rn rt => Sys2Proof.Machine.execLduminb a r rs rn rt s
  | .lduminh a r rs rn rt => Sys2Proof.Machine.execLduminh a r rs rn rt s
  | .ldumin size0 a r rs rn rt => Sys2Proof.Machine.execLdumin size0 a r rs rn rt s
  | .ldur size0 imm9 rn rt => Sys2Proof.Machine.execLdur size0 imm9 rn rt s
  | .ldurb imm9 rn rt => Sys2Proof.Machine.execLdurb imm9 rn rt s
  | .ldurh imm9 rn rt => Sys2Proof.Machine.execLdurh imm9 rn rt s
  | .ldursb opc0 imm9 rn rt => Sys2Proof.Machine.execLdursb opc0 imm9 rn rt s
  | .ldursh opc0 imm9 rn rt => Sys2Proof.Machine.execLdursh opc0 imm9 rn rt s
  | .ldursw imm9 rn rt => Sys2Proof.Machine.execLdursw imm9 rn rt s
  | .ldxp sz rt2 rn rt => Sys2Proof.Machine.execLdxp sz rt2 rn rt s
  | .ldxr size0 rn rt => Sys2Proof.Machine.execLdxr size0 rn rt s
  | .ldxrb rn rt => Sys2Proof.Machine.execLdxrb rn rt s
  | .ldxrh rn rt => Sys2Proof.Machine.execLdxrh rn rt s
  | .lslv sf rm rn rd => Sys2Proof.Machine.execLslv sf rm rn rd s
  | .lsrv sf rm rn rd => Sys2Proof.Machine.execLsrv sf rm rn rd s
  | .madd sf rm ra rn rd => Sys2Proof.Machine.execMadd sf rm ra rn rd s
  | .movk sf hw imm16 rd => Sys2Proof.Machine.execMovk sf hw imm16 rd s
  | .movn sf hw imm16 rd => Sys2Proof.Machine.execMovn sf hw imm16 rd s
  | .movz sf hw imm16 rd => Sys2Proof.Machine.execMovz sf hw imm16 rd s
  | .mrs o0 op1 crn crm op2 rt => Sys2Proof.Machine.execMrs o0 op1 crn crm op2 rt s
  | .msrImmediate op1 crm op2 => Sys2Proof.Machine.execMsrImmediate op1 crm op2 s
  | .msrRegister o0 op1 crn crm op2 rt => Sys2Proof.Machine.execMsrRegister o0 op1 crn crm op2 rt s
  | .msub sf rm ra rn rd => Sys2Proof.Machine.execMsub sf rm ra rn rd s
  | .nop => Sys2Proof.Machine.execNop s
  | .ornShiftedRegister sf shift rm imm6 rn rd => Sys2Proof.Machine.execOrnShiftedRegister sf shift rm imm6 rn rd s
  | .orrImmediate sf n immr imms rn rd => Sys2Proof.Machine.execOrrImmediate sf n immr imms rn rd s
  | .orrShiftedRegister sf shift rm imm6 rn rd => Sys2Proof.Machine.execOrrShiftedRegister sf shift rm imm6 rn rd s
  | .prfmImmediate imm12 rn rt => Sys2Proof.Machine.execPrfmImmediate imm12 rn rt s
  | .prfmLiteral imm19 rt => Sys2Proof.Machine.execPrfmLiteral imm19 rt s
  | .prfmRegister rm option s1 rn rt => Sys2Proof.Machine.execPrfmRegister rm option s1 rn rt s
  | .prfum imm9 rn rt => Sys2Proof.Machine.execPrfum imm9 rn rt s
  | .psbCsync => Sys2Proof.Machine.execPsbCsync s
  | .rbit sf rn rd => Sys2Proof.Machine.execRbit sf rn rd s
  | .ret rn => Sys2Proof.Machine.execRet rn s
  | .rev32Bit rn rd => Sys2Proof.Machine.execRev32Bit rn rd s
  | .rev64Bit rn rd => Sys2Proof.Machine.execRev64Bit rn rd s
  | .rev16 sf rn rd => Sys2Proof.Machine.execRev16 sf rn rd s
  | .rev32 rn rd => Sys2Proof.Machine.execRev32 rn rd s
  | .rorv sf rm rn rd => Sys2Proof.Machine.execRorv sf rm rn rd s
  | .sbc sf rm rn rd => Sys2Proof.Machine.execSbc sf rm rn rd s
  | .sbcs sf rm rn rd => Sys2Proof.Machine.execSbcs sf rm rn rd s
  | .sbfm sf n immr imms rn rd => Sys2Proof.Machine.execSbfm sf n immr imms rn rd s
  | .sdiv sf rm rn rd => Sys2Proof.Machine.execSdiv sf rm rn rd s
  | .sev => Sys2Proof.Machine.execSev s
  | .sevl => Sys2Proof.Machine.execSevl s
  | .smaddl rm ra rn rd => Sys2Proof.Machine.execSmaddl rm ra rn rd s
  | .smc imm16 => Sys2Proof.Machine.execSmc imm16 s
  | .smsubl rm ra rn rd => Sys2Proof.Machine.execSmsubl rm ra rn rd s
  | .smulh rm rn rd => Sys2Proof.Machine.execSmulh rm rn rd s
  | .stllrb rn rt => Sys2Proof.Machine.execStllrb rn rt s
  | .stllrh rn rt => Sys2Proof.Machine.execStllrh rn rt s
  | .stllr size0 rn rt => Sys2Proof.Machine.execStllr size0 rn rt s
  | .stlr size0 rn rt => Sys2Proof.Machine.execStlr size0 rn rt s
  | .stlrb rn rt => Sys2Proof.Machine.execStlrb rn rt s
  | .stlrh rn rt => Sys2Proof.Machine.execStlrh rn rt s
  | .stlxp sz rs rt2 rn rt => Sys2Proof.Machine.execStlxp sz rs rt2 rn rt s
  | .stlxr size0 rs rn rt => Sys2Proof.Machine.execStlxr size0 rs rn rt s
  | .stlxrb rs rn rt => Sys2Proof.Machine.execStlxrb rs rn rt s
  | .stlxrh rs rn rt => Sys2Proof.Machine.execStlxrh rs rn rt s
  | .stnp opc1 imm7 rt2 rn rt => Sys2Proof.Machine.execStnp opc1 imm7 rt2 rn rt s
  | .stpPostIndex opc1 imm7 rt2 rn rt => Sys2Proof.Machine.execStpPostIndex opc1 imm7 rt2 rn rt s
  | .stpPreIndex opc1 imm7 rt2 rn rt => Sys2Proof.Machine.execStpPreIndex opc1 imm7 rt2 rn rt s
  | .stpSignedOffset opc1 imm7 rt2 rn rt => Sys2Proof.Machine.execStpSignedOffset opc1 imm7 rt2 rn rt s
  | .strImmediatePostIndex size0 imm9 rn rt => Sys2Proof.Machine.execStrImmediatePostIndex size0 imm9 rn rt s
  | .strImmediatePreIndex size0 imm9 rn rt => Sys2Proof.Machine.execStrImmediatePreIndex size0 imm9 rn rt s
  | .strImmediateUnsignedOffset size0 imm12 rn rt => Sys2Proof.Machine.execStrImmediateUnsignedOffset size0 imm12 rn rt s
  | .strRegister size0 rm option s1 rn rt => Sys2Proof.Machine.execStrRegister size0 rm option s1 rn rt s
  | .strbImmediatePostIndex imm9 rn rt => Sys2Proof.Machine.execStrbImmediatePostIndex imm9 rn rt s
  | .strbImmediatePreIndex imm9 rn rt => Sys2Proof.Machine.execStrbImmediatePreIndex imm9 rn rt s
  | .strbImmediateUnsignedOffset imm12 rn rt => Sys2Proof.Machine.execStrbImmediateUnsignedOffset imm12 rn rt s
  | .strbRegister rm option s1 rn rt => Sys2Proof.Machine.execStrbRegister rm option s1 rn rt s
  | .strhImmediatePostIndex imm9 rn rt => Sys2Proof.Machine.execStrhImmediatePostIndex imm9 rn rt s
  | .strhImmediatePreIndex imm9 rn rt => Sys2Proof.Machine.execStrhImmediatePreIndex imm9 rn rt s
  | .strhImmediateUnsignedOffset imm12 rn rt => Sys2Proof.Machine.execStrhImmediateUnsignedOffset imm12 rn rt s
  | .strhRegister rm option s1 rn rt => Sys2Proof.Machine.execStrhRegister rm option s1 rn rt s
  | .sttr size0 imm9 rn rt => Sys2Proof.Machine.execSttr size0 imm9 rn rt s
  | .sttrb imm9 rn rt => Sys2Proof.Machine.execSttrb imm9 rn rt s
  | .sttrh imm9 rn rt => Sys2Proof.Machine.execSttrh imm9 rn rt s
  | .stur size0 imm9 rn rt => Sys2Proof.Machine.execStur size0 imm9 rn rt s
  | .sturb imm9 rn rt => Sys2Proof.Machine.execSturb imm9 rn rt s
  | .sturh imm9 rn rt => Sys2Proof.Machine.execSturh imm9 rn rt s
  | .stxp sz rs rt2 rn rt => Sys2Proof.Machine.execStxp sz rs rt2 rn rt s
  | .stxr size0 rs rn rt => Sys2Proof.Machine.execStxr size0 rs rn rt s
  | .stxrb rs rn rt => Sys2Proof.Machine.execStxrb rs rn rt s
  | .stxrh rs rn rt => Sys2Proof.Machine.execStxrh rs rn rt s
  | .subExtendedRegister sf rm option imm3 rn rd => Sys2Proof.Machine.execSubExtendedRegister sf rm option imm3 rn rd s
  | .subImmediate sf shift imm12 rn rd => Sys2Proof.Machine.execSubImmediate sf shift imm12 rn rd s
  | .subShiftedRegister sf shift rm imm6 rn rd => Sys2Proof.Machine.execSubShiftedRegister sf shift rm imm6 rn rd s
  | .subsExtendedRegister sf rm option imm3 rn rd => Sys2Proof.Machine.execSubsExtendedRegister sf rm option imm3 rn rd s
  | .subsImmediate sf shift imm12 rn rd => Sys2Proof.Machine.execSubsImmediate sf shift imm12 rn rd s
  | .subsShiftedRegister sf shift rm imm6 rn rd => Sys2Proof.Machine.execSubsShiftedRegister sf shift rm imm6 rn rd s
  | .svc imm16 => Sys2Proof.Machine.execSvc imm16 s
  | .swpb a r rs rn rt => Sys2Proof.Machine.execSwpb a r rs rn rt s
  | .swph a r rs rn rt => Sys2Proof.Machine.execSwph a r rs rn rt s
  | .swp size0 a r rs rn rt => Sys2Proof.Machine.execSwp size0 a r rs rn rt s
  | .sys op1 crn crm op2 rt => Sys2Proof.Machine.execSys op1 crn crm op2 rt s
  | .sysl op1 crn crm op2 rt => Sys2Proof.Machine.execSysl op1 crn crm op2 rt s
  | .tbnz b5 b40 imm14 rt => Sys2Proof.Machine.execTbnz b5 b40 imm14 rt s
  | .tbz b5 b40 imm14 rt => Sys2Proof.Machine.execTbz b5 b40 imm14 rt s
  | .ubfm sf n immr imms rn rd => Sys2Proof.Machine.execUbfm sf n immr imms rn rd s
  | .udiv sf rm rn rd => Sys2Proof.Machine.execUdiv sf rm rn rd s
  | .umaddl rm ra rn rd => Sys2Proof.Machine.execUmaddl rm ra rn rd s
  | .umsubl rm ra rn rd => Sys2Proof.Machine.execUmsubl rm ra rn rd s
  | .umulh rm rn rd => Sys2Proof.Machine.execUmulh rm rn rd s
  | .wfe => Sys2Proof.Machine.execWfe s
  | .wfi => Sys2Proof.Machine.execWfi s
  | .yield => Sys2Proof.Machine.execYield s
  | .asrRegister sf rm rn rd => Sys2Proof.Machine.execAsrRegister sf rm rn rd s
  | .asrImmediate sf n immr imms5 rn rd => Sys2Proof.Machine.execAsrImmediate sf n immr imms5 rn rd s
  | .sysAt op1 crm0 op2 rt => Sys2Proof.Machine.execSysAt op1 crm0 op2 rt s
  | .bfc sf n immr imms rd => Sys2Proof.Machine.execBfc sf n immr imms rd s
  | .bfi sf n immr imms rn rd => Sys2Proof.Machine.execBfi sf n immr imms rn rd s
  | .bfxil sf n immr imms rn rd => Sys2Proof.Machine.execBfxil sf n immr imms rn rd s
  | .cinc sf rm cond rn rd => Sys2Proof.Machine.execCinc sf rm cond rn rd s
  | .cinv sf rm cond rn rd => Sys2Proof.Machine.execCinv sf rm cond rn rd s
  | .cmnExtendedRegister sf rm option imm3 rn => Sys2Proof.Machine.execCmnExtendedRegister sf rm option imm3 rn s
  | .cmnImmediate sf shift imm12 rn => Sys2Proof.Machine.execCmnImmediate sf shift imm12 rn s
  | .cmnShiftedRegister sf shift rm imm6 rn => Sys2Proof.Machine.execCmnShiftedRegister sf shift rm imm6 rn s
  | .cmpExtendedRegister sf rm option imm3 rn => Sys2Proof.Machine.execCmpExtendedRegister sf rm option imm3 rn s
  | .cmpImmediate sf shift imm12 rn => Sys2Proof.Machine.execCmpImmediate sf shift imm12 rn s
  | .cmpShiftedRegister sf shift rm imm6 rn => Sys2Proof.Machine.execCmpShiftedRegister sf shift rm imm6 rn s
  | .cneg sf rm cond rn rd => Sys2Proof.Machine.execCneg sf rm cond rn rd s
  | .cset sf cond rd => Sys2Proof.Machine.execCset sf cond rd s
  | .csetm sf cond rd => Sys2Proof.Machine.execCsetm sf cond rd s
  | .sysDc op1 crm op2 rt => Sys2Proof.Machine.execSysDc op1 crm op2 rt s
  | .sysIc op1 crm op2 rt => Sys2Proof.Machine.execSysIc op1 crm op2 rt s
  | .lslRegister sf rm rn rd => Sys2Proof.Machine.execLslRegister sf rm rn rd s
  | .lslImmediate sf n immr imms rn rd => Sys2Proof.Machine.execLslImmediate sf n immr imms rn rd s
  | .lsrRegister sf rm rn rd => Sys2Proof.Machine.execLsrRegister sf rm rn rd s
  | .lsrImmediate sf n immr imms5 rn rd => Sys2Proof.Machine.execLsrImmediate sf n immr imms5 rn rd s
  | .mneg sf rm rn rd => Sys2Proof.Machine.execMneg sf rm rn rd s
  | .movToFromSP sf rn rd => Sys2Proof.Machine.execMovToFromSP sf rn rd s
  | .movInvertedWideImmediate sf hw imm16 rd => Sys2Proof.Machine.execMovInvertedWideImmediate sf hw imm16 rd s
  | .movWideImmediate sf hw imm16 rd => Sys2Proof.Machine.execMovWideImmediate sf hw imm16 rd s
  | .movBitmaskImmediate sf n immr imms rd => Sys2Proof.Machine.execMovBitmaskImmediate sf n immr imms rd s
  | .movRegister sf rm rd => Sys2Proof.Machine.execMovRegister sf rm rd s
  | .mul sf rm rn rd => Sys2Proof.Machine.execMul sf rm rn rd s
  | .mvn sf shift rm imm6 rd => Sys2Proof.Machine.execMvn sf shift rm imm6 rd s
  | .negShiftedRegister sf shift rm imm6 rd => Sys2Proof.Machine.execNegShiftedRegister sf shift rm imm6 rd s
  | .negs sf shift rm imm6 rd => Sys2Proof.Machine.execNegs sf shift rm imm6 rd s
  | .ngc sf rm rd => Sys2Proof.Machine.execNgc sf rm rd s
  | .ngcs sf rm rd => Sys2Proof.Machine.execNgcs sf rm rd s
  | .rev64 rn rd => Sys2Proof.Machine.execRev64 rn rd s
  | .rorImmediate sf n rm imms rn rd => Sys2Proof.Machine.execRorImmediate sf n rm imms rn rd s
  | .rorRegister sf rm rn rd => Sys2Proof.Machine.execRorRegister sf rm rn rd s
  | .sbfiz sf n immr imms rn rd => Sys2Proof.Machine.execSbfiz sf n immr imms rn rd s
  | .sbfx sf n immr imms rn rd => Sys2Proof.Machine.execSbfx sf n immr imms rn rd s
  | .smnegl rm rn rd => Sys2Proof.Machine.execSmnegl rm rn rd s
  | .smull rm rn rd => Sys2Proof.Machine.execSmull rm rn rd s
  | .staddb r rs rn => Sys2Proof.Machine.execStaddb r rs rn s
  | .staddh r rs rn => Sys2Proof.Machine.execStaddh r rs rn s
  | .stadd size0 r rs rn => Sys2Proof.Machine.execStadd size0 r rs rn s
  | .stclrb r rs rn => Sys2Proof.Machine.execStclrb r rs rn s
  | .stclrh r rs rn => Sys2Proof.Machine.execStclrh r rs rn s
  | .stclr size0 r rs rn => Sys2Proof.Machine.execStclr size0 r rs rn s
  | .steorb r rs rn => Sys2Proof.Machine.execSteorb r rs rn s
  | .steorh r rs rn => Sys2Proof.Machine.execSteorh r rs rn s
  | .steor size0 r rs rn => Sys2Proof.Machine.execSteor size0 r rs rn s
  | .stsetb r rs rn => Sys2Proof.Machine.execStsetb r rs rn s
  | .stseth r rs rn => Sys2Proof.Machine.execStseth r rs rn s
  | .stset size0 r rs rn => Sys2Proof.Machine.execStset size0 r rs rn s
  | .stsmaxb r rs rn => Sys2Proof.Machine.execStsmaxb r rs rn s
  | .stsmaxh r rs rn => Sys2Proof.Machine.execStsmaxh r rs rn s
  | .stsmax size0 r rs rn => Sys2Proof.Machine.execStsmax size0 r rs rn s
  | .stsminb r rs rn => Sys2Proof.Machine.execStsminb r rs rn s
  | .stsminh r rs rn => Sys2Proof.Machine.execStsminh r rs rn s
  | .stsmin size0 r rs rn => Sys2Proof.Machine.execStsmin size0 r rs rn s
  | .stumaxb r rs rn => Sys2Proof.Machine.execStumaxb r rs rn s
  | .stumaxh r rs rn => Sys2Proof.Machine.execStumaxh r rs rn s
  | .stumax size0 r rs rn => Sys2Proof.Machine.execStumax size0 r rs rn s
  | .stuminb r rs rn => Sys2Proof.Machine.execStuminb r rs rn s
  | .stuminh r rs rn => Sys2Proof.Machine.execStuminh r rs rn s
  | .stumin size0 r rs rn => Sys2Proof.Machine.execStumin size0 r rs rn s
  | .sxtb sf n rn rd => Sys2Proof.Machine.execSxtb sf n rn rd s
  | .sxth sf n rn rd => Sys2Proof.Machine.execSxth sf n rn rd s
  | .sxtw rn rd => Sys2Proof.Machine.execSxtw rn rd s
  | .sysTlbi op1 crm op2 rt => Sys2Proof.Machine.execSysTlbi op1 crm op2 rt s
  | .tstImmediate sf n immr imms rn => Sys2Proof.Machine.execTstImmediate sf n immr imms rn s
  | .tstShiftedRegister sf shift rm imm6 rn => Sys2Proof.Machine.execTstShiftedRegister sf shift rm imm6 rn s
  | .ubfiz sf n immr imms rn rd => Sys2Proof.Machine.execUbfiz sf n immr imms rn rd s
  | .ubfx sf n immr imms rn rd => Sys2Proof.Machine.execUbfx sf n immr imms rn rd s
  | .umnegl rm rn rd => Sys2Proof.Machine.execUmnegl rm rn rd s
  | .umull rm rn rd => Sys2Proof.Machine.execUmull rm rn rd s
  | .uxtb rn rd => Sys2Proof.Machine.execUxtb rn rd s
  | .uxth rn rd => Sys2Proof.Machine.execUxth rn rd s

end Sys2Proof.Machine
end

