-- ==== Sys2Proof/WellFormed.lean ====
section
/-! DEFINITION. The static checks of an instruction: the reserved and unallocated values of its fields (30 R150, R151) and,
for an alias, the condition under which the alias names the word (30 R196; 00 R18). The checks that depend on the
configuration or on the state are in the meanings. -/

namespace Sys2Proof

namespace WellFormed

/-- The shift of an extended register is at most 4 (30 R150). -/
def validExtendShift (imm3 : BitVec 3) : Bool := decide (imm3.toNat ≤ 4)

/-- The shift of an arithmetic immediate is 0 or 12 bits (30 R150). -/
def validArithShift (shift : BitVec 2) : Bool := !shift.getLsbD 1

/-- A 32-bit form shifts by less than 32 (30 R150). -/
def validShiftAmount (sf : BitVec 1) (imm6 : BitVec 6) : Bool := decide (sf = 1#1) || !imm6.getLsbD 5

/-- A shifted addend is not rotated (30 R150). -/
def validAddend (sf : BitVec 1) (shift : BitVec 2) (imm6 : BitVec 6) : Bool :=
  decide (shift ≠ 3#2) && validShiftAmount sf imm6

/-- A logical immediate: a 32-bit form has N = 0, the element has at least 2 bits and is not all ones (30 R150;
00 R16). -/
def validBitMask (sf n : BitVec 1) (_immr imms : BitVec 6) : Bool :=
  (decide (sf = 1#1) || decide (n = 0#1))
    && (if n = 1#1 then decide (imms ≠ 0x3F#6)
      else if !imms.getLsbD 5 then decide (imms.extractLsb' 0 5 ≠ 0x1F#5)
      else if !imms.getLsbD 4 then decide (imms.extractLsb' 0 4 ≠ 0xF#4)
      else if !imms.getLsbD 3 then decide (imms.extractLsb' 0 3 ≠ 7#3)
      else if !imms.getLsbD 2 then decide (imms.extractLsb' 0 2 ≠ 3#2)
      else !imms.getLsbD 1 && decide (imms.extractLsb' 0 1 ≠ 1#1))

/-- A bitfield move has N = sf, and positions below 32 in a 32-bit form (30 R150). -/
def validBitfield (sf n : BitVec 1) (immr imms : BitVec 6) : Bool :=
  decide (n = sf) && (decide (sf = 1#1) || (!immr.getLsbD 5 && !imms.getLsbD 5))

/-- EXTR has N = sf, and a position below 32 in a 32-bit form (30 R150, R151). -/
def validExtract (sf n : BitVec 1) (imms : BitVec 6) : Bool :=
  decide (n = sf) && (decide (sf = 1#1) || !imms.getLsbD 5)

/-- The registers of a CASP are even (30 R151). -/
def validEven (r : Reg) : Bool := !r.getLsbD 0

/-- A CRC32 of 64 bits is the one with sf = 1 (30 R151). -/
def validCrc (sf : BitVec 1) (sz : BitVec 2) : Bool := decide (sf = 1#1) == decide (sz = 3#2)

/-- A 32-bit wide immediate is in the low two halfwords (30 R151). -/
def validHalfword (sf : BitVec 1) (hw : BitVec 2) : Bool := decide (sf = 1#1) || !hw.getLsbD 1

/-- A register offset is extended from 32 or 64 bits (30 R151). -/
def validIndexOption (option : BitVec 3) : Bool := option.getLsbD 1

/-- MSR (immediate) names a field (30 R151): UAO, PAN, SPSel, DAIFSet or DAIFClr. -/
def validPStateField (op1 op2 : BitVec 3) : Bool :=
  (decide (op1 = 0#3) && (decide (op2 = 3#3) || decide (op2 = 4#3) || decide (op2 = 5#3)))
    || (decide (op1 = 3#3) && (decide (op2 = 6#3) || decide (op2 = 7#3)))

/-- The hint numbers 0 to 5, 16 and 17 are instructions of their own (30 R152). -/
def validHint (crm : BitVec 4) (op2 : BitVec 3) : Bool :=
  !decide ((crm ++ op2).toNat < 6) && !decide ((crm ++ op2).toNat = 16) && !decide ((crm ++ op2).toNat = 17)

/-- The register field is not 31. -/
def notZR (r : Reg) : Bool := decide (r ≠ 31#5)

/-- The condition is not AL or NV. -/
def notAlways (cond : BitVec 4) : Bool := decide (cond.extractLsb' 1 3 ≠ 7#3)

/-- `MoveWidePreferred` (00 R18). -/
def moveWidePreferred (sf n : BitVec 1) (imms immr : BitVec 6) : Bool :=
  let s := imms.toNat
  let r := immr.toNat
  let width := if sf = 1#1 then 64 else 32
  if sf = 1#1 ∧ n ≠ 1#1 then false
  else if sf = 0#1 ∧ (n ≠ 0#1 ∨ imms.getLsbD 5) then false
  else if s < 16 then decide ((64 - r) % 16 ≤ 15 - s)
  else if width - 15 ≤ s then decide (r % 16 ≤ s - (width - 15))
  else false

/-- `BFXPreferred` (00 R18). -/
def bfxPreferred (sf uns : BitVec 1) (imms immr : BitVec 6) : Bool :=
  if imms.toNat < immr.toNat then false
  else if imms = sf ++ 31#5 then false
  else if immr = 0#6 then
    !(decide (sf = 0#1) && (decide (imms = 7#6) || decide (imms = 15#6)))
      && !(decide (sf = 1#1) && decide (uns = 0#1)
        && (decide (imms = 7#6) || decide (imms = 15#6) || decide (imms = 31#6)))
  else true

/-- The `op1:CRm<0>:op2` of an AT operation (49 R744). -/
def isAt (op1 : BitVec 3) (crm0 : BitVec 1) (op2 : BitVec 3) : Bool :=
  decide ((op1.toNat, crm0.toNat, op2.toNat) ∈
    [(0, 0, 0), (0, 0, 1), (0, 0, 2), (0, 0, 3), (4, 0, 0), (4, 0, 1), (4, 0, 4), (4, 0, 5), (4, 0, 6), (4, 0, 7),
      (6, 0, 0), (6, 0, 1), (0, 1, 0), (0, 1, 1)])

/-- The `op1:CRm:op2` of a DC operation (49 R745). -/
def isDc (op1 : BitVec 3) (crm : BitVec 4) (op2 : BitVec 3) : Bool :=
  decide ((op1.toNat, crm.toNat, op2.toNat) ∈
    [(0, 6, 1), (0, 6, 2), (0, 10, 2), (0, 14, 2), (3, 4, 1), (3, 10, 1), (3, 11, 1), (3, 14, 1), (3, 12, 1)])

/-- The `op1:CRm:op2` of an IC operation (49 R746). -/
def isIc (op1 : BitVec 3) (crm : BitVec 4) (op2 : BitVec 3) : Bool :=
  decide ((op1.toNat, crm.toNat, op2.toNat) ∈ [(0, 1, 0), (0, 5, 0), (3, 5, 1)])

/-- The `op1:CRm:op2` of a TLBI operation (49 R747). -/
def isTlbi (op1 : BitVec 3) (crm : BitVec 4) (op2 : BitVec 3) : Bool :=
  decide ((op1.toNat, crm.toNat, op2.toNat) ∈
    [(0, 3, 0), (0, 3, 1), (0, 3, 2), (0, 3, 3), (0, 3, 5), (0, 3, 7), (0, 7, 0), (0, 7, 1), (0, 7, 2), (0, 7, 3),
      (0, 7, 5), (0, 7, 7), (4, 0, 1), (4, 0, 5), (4, 3, 0), (4, 3, 1), (4, 3, 4), (4, 3, 5), (4, 3, 6), (4, 4, 1),
      (4, 4, 5), (4, 7, 0), (4, 7, 1), (4, 7, 4), (4, 7, 5), (4, 7, 6), (6, 3, 0), (6, 3, 1), (6, 3, 5), (6, 7, 0),
      (6, 7, 1), (6, 7, 5)])

end WellFormed

open WellFormed in
/-- Every field holds a value that its encoding admits; an alias also names its word. -/
def Instr.wellFormed : Instr → Bool
  | .adc _ _ _ _ => true
  | .adcs _ _ _ _ => true
  | .addExtendedRegister _ _ _ imm3 _ _ => validExtendShift imm3
  | .addImmediate _ shift _ _ _ => validArithShift shift
  | .addShiftedRegister sf shift _ imm6 _ _ => validAddend sf shift imm6
  | .addsExtendedRegister _ _ _ imm3 _ _ => validExtendShift imm3
  | .addsImmediate _ shift _ _ _ => validArithShift shift
  | .addsShiftedRegister sf shift _ imm6 _ _ => validAddend sf shift imm6
  | .adr _ _ _ => true
  | .adrp _ _ _ => true
  | .andImmediate sf n immr imms _ _ => validBitMask sf n immr imms
  | .andShiftedRegister sf _ _ imm6 _ _ => validShiftAmount sf imm6
  | .andsImmediate sf n immr imms _ _ => validBitMask sf n immr imms
  | .andsShiftedRegister sf _ _ imm6 _ _ => validShiftAmount sf imm6
  | .asrv _ _ _ _ => true
  | .bCond _ _ => true
  | .b _ => true
  | .bfm sf n immr imms _ _ => validBitfield sf n immr imms
  | .bicShiftedRegister sf _ _ imm6 _ _ => validShiftAmount sf imm6
  | .bicsShiftedRegister sf _ _ imm6 _ _ => validShiftAmount sf imm6
  | .bl _ => true
  | .blr _ => true
  | .br _ => true
  | .brk _ => true
  | .casb _ _ _ _ _ => true
  | .cash _ _ _ _ _ => true
  | .casp _ _ rs _ _ rt => validEven rs && validEven rt
  | .cas _ _ _ _ _ _ => true
  | .cbnz _ _ _ => true
  | .cbz _ _ _ => true
  | .ccmnImmediate _ _ _ _ _ => true
  | .ccmnRegister _ _ _ _ _ => true
  | .ccmpImmediate _ _ _ _ _ => true
  | .ccmpRegister _ _ _ _ _ => true
  | .clrex _ => true
  | .cls _ _ _ => true
  | .clz _ _ _ => true
  | .crc32 sf _ sz _ _ => validCrc sf sz
  | .crc32c sf _ sz _ _ => validCrc sf sz
  | .csel _ _ _ _ _ => true
  | .csinc _ _ _ _ _ => true
  | .csinv _ _ _ _ _ => true
  | .csneg _ _ _ _ _ => true
  | .dcps1 _ => true
  | .dcps2 _ => true
  | .dcps3 _ => true
  | .dmb _ => true
  | .drps => true
  | .dsb _ => true
  | .eonShiftedRegister sf _ _ imm6 _ _ => validShiftAmount sf imm6
  | .eorImmediate sf n immr imms _ _ => validBitMask sf n immr imms
  | .eorShiftedRegister sf _ _ imm6 _ _ => validShiftAmount sf imm6
  | .eret => true
  | .esb => true
  | .extr sf n _ imms _ _ => validExtract sf n imms
  | .hint crm op2 => validHint crm op2
  | .hlt _ => true
  | .hvc _ => true
  | .isb _ => true
  | .ldaddb _ _ _ _ _ => true
  | .ldaddh _ _ _ _ _ => true
  | .ldadd _ _ _ _ _ _ => true
  | .ldar _ _ _ => true
  | .ldarb _ _ => true
  | .ldarh _ _ => true
  | .ldaxp _ _ _ _ => true
  | .ldaxr _ _ _ => true
  | .ldaxrb _ _ => true
  | .ldaxrh _ _ => true
  | .ldclrb _ _ _ _ _ => true
  | .ldclrh _ _ _ _ _ => true
  | .ldclr _ _ _ _ _ _ => true
  | .ldeorb _ _ _ _ _ => true
  | .ldeorh _ _ _ _ _ => true
  | .ldeor _ _ _ _ _ _ => true
  | .ldlarb _ _ => true
  | .ldlarh _ _ => true
  | .ldlar _ _ _ => true
  | .ldnp _ _ _ _ _ => true
  | .ldpPostIndex _ _ _ _ _ => true
  | .ldpPreIndex _ _ _ _ _ => true
  | .ldpSignedOffset _ _ _ _ _ => true
  | .ldpswPostIndex _ _ _ _ => true
  | .ldpswPreIndex _ _ _ _ => true
  | .ldpswSignedOffset _ _ _ _ => true
  | .ldrImmediatePostIndex _ _ _ _ => true
  | .ldrImmediatePreIndex _ _ _ _ => true
  | .ldrImmediateUnsignedOffset _ _ _ _ => true
  | .ldrLiteral _ _ _ => true
  | .ldrRegister _ _ option _ _ _ => validIndexOption option
  | .ldrbImmediatePostIndex _ _ _ => true
  | .ldrbImmediatePreIndex _ _ _ => true
  | .ldrbImmediateUnsignedOffset _ _ _ => true
  | .ldrbRegister _ option _ _ _ => validIndexOption option
  | .ldrhImmediatePostIndex _ _ _ => true
  | .ldrhImmediatePreIndex _ _ _ => true
  | .ldrhImmediateUnsignedOffset _ _ _ => true
  | .ldrhRegister _ option _ _ _ => validIndexOption option
  | .ldrsbImmediatePostIndex _ _ _ _ => true
  | .ldrsbImmediatePreIndex _ _ _ _ => true
  | .ldrsbImmediateUnsignedOffset _ _ _ _ => true
  | .ldrsbRegister _ _ option _ _ _ => validIndexOption option
  | .ldrshImmediatePostIndex _ _ _ _ => true
  | .ldrshImmediatePreIndex _ _ _ _ => true
  | .ldrshImmediateUnsignedOffset _ _ _ _ => true
  | .ldrshRegister _ _ option _ _ _ => validIndexOption option
  | .ldrswImmediatePostIndex _ _ _ => true
  | .ldrswImmediatePreIndex _ _ _ => true
  | .ldrswImmediateUnsignedOffset _ _ _ => true
  | .ldrswLiteral _ _ => true
  | .ldrswRegister _ option _ _ _ => validIndexOption option
  | .ldsetb _ _ _ _ _ => true
  | .ldseth _ _ _ _ _ => true
  | .ldset _ _ _ _ _ _ => true
  | .ldsmaxb _ _ _ _ _ => true
  | .ldsmaxh _ _ _ _ _ => true
  | .ldsmax _ _ _ _ _ _ => true
  | .ldsminb _ _ _ _ _ => true
  | .ldsminh _ _ _ _ _ => true
  | .ldsmin _ _ _ _ _ _ => true
  | .ldtr _ _ _ _ => true
  | .ldtrb _ _ _ => true
  | .ldtrh _ _ _ => true
  | .ldtrsb _ _ _ _ => true
  | .ldtrsh _ _ _ _ => true
  | .ldtrsw _ _ _ => true
  | .ldumaxb _ _ _ _ _ => true
  | .ldumaxh _ _ _ _ _ => true
  | .ldumax _ _ _ _ _ _ => true
  | .lduminb _ _ _ _ _ => true
  | .lduminh _ _ _ _ _ => true
  | .ldumin _ _ _ _ _ _ => true
  | .ldur _ _ _ _ => true
  | .ldurb _ _ _ => true
  | .ldurh _ _ _ => true
  | .ldursb _ _ _ _ => true
  | .ldursh _ _ _ _ => true
  | .ldursw _ _ _ => true
  | .ldxp _ _ _ _ => true
  | .ldxr _ _ _ => true
  | .ldxrb _ _ => true
  | .ldxrh _ _ => true
  | .lslv _ _ _ _ => true
  | .lsrv _ _ _ _ => true
  | .madd _ _ _ _ _ => true
  | .movk sf hw _ _ => validHalfword sf hw
  | .movn sf hw _ _ => validHalfword sf hw
  | .movz sf hw _ _ => validHalfword sf hw
  | .mrs _ _ _ _ _ _ => true
  | .msrImmediate op1 _ op2 => validPStateField op1 op2
  | .msrRegister _ _ _ _ _ _ => true
  | .msub _ _ _ _ _ => true
  | .nop => true
  | .ornShiftedRegister sf _ _ imm6 _ _ => validShiftAmount sf imm6
  | .orrImmediate sf n immr imms _ _ => validBitMask sf n immr imms
  | .orrShiftedRegister sf _ _ imm6 _ _ => validShiftAmount sf imm6
  | .prfmImmediate _ _ _ => true
  | .prfmLiteral _ _ => true
  | .prfmRegister _ option _ _ _ => validIndexOption option
  | .prfum _ _ _ => true
  | .psbCsync => true
  | .rbit _ _ _ => true
  | .ret _ => true
  | .rev32Bit _ _ => true
  | .rev64Bit _ _ => true
  | .rev16 _ _ _ => true
  | .rev32 _ _ => true
  | .rorv _ _ _ _ => true
  | .sbc _ _ _ _ => true
  | .sbcs _ _ _ _ => true
  | .sbfm sf n immr imms _ _ => validBitfield sf n immr imms
  | .sdiv _ _ _ _ => true
  | .sev => true
  | .sevl => true
  | .smaddl _ _ _ _ => true
  | .smc _ => true
  | .smsubl _ _ _ _ => true
  | .smulh _ _ _ => true
  | .stllrb _ _ => true
  | .stllrh _ _ => true
  | .stllr _ _ _ => true
  | .stlr _ _ _ => true
  | .stlrb _ _ => true
  | .stlrh _ _ => true
  | .stlxp _ _ _ _ _ => true
  | .stlxr _ _ _ _ => true
  | .stlxrb _ _ _ => true
  | .stlxrh _ _ _ => true
  | .stnp _ _ _ _ _ => true
  | .stpPostIndex _ _ _ _ _ => true
  | .stpPreIndex _ _ _ _ _ => true
  | .stpSignedOffset _ _ _ _ _ => true
  | .strImmediatePostIndex _ _ _ _ => true
  | .strImmediatePreIndex _ _ _ _ => true
  | .strImmediateUnsignedOffset _ _ _ _ => true
  | .strRegister _ _ option _ _ _ => validIndexOption option
  | .strbImmediatePostIndex _ _ _ => true
  | .strbImmediatePreIndex _ _ _ => true
  | .strbImmediateUnsignedOffset _ _ _ => true
  | .strbRegister _ option _ _ _ => validIndexOption option
  | .strhImmediatePostIndex _ _ _ => true
  | .strhImmediatePreIndex _ _ _ => true
  | .strhImmediateUnsignedOffset _ _ _ => true
  | .strhRegister _ option _ _ _ => validIndexOption option
  | .sttr _ _ _ _ => true
  | .sttrb _ _ _ => true
  | .sttrh _ _ _ => true
  | .stur _ _ _ _ => true
  | .sturb _ _ _ => true
  | .sturh _ _ _ => true
  | .stxp _ _ _ _ _ => true
  | .stxr _ _ _ _ => true
  | .stxrb _ _ _ => true
  | .stxrh _ _ _ => true
  | .subExtendedRegister _ _ _ imm3 _ _ => validExtendShift imm3
  | .subImmediate _ shift _ _ _ => validArithShift shift
  | .subShiftedRegister sf shift _ imm6 _ _ => validAddend sf shift imm6
  | .subsExtendedRegister _ _ _ imm3 _ _ => validExtendShift imm3
  | .subsImmediate _ shift _ _ _ => validArithShift shift
  | .subsShiftedRegister sf shift _ imm6 _ _ => validAddend sf shift imm6
  | .svc _ => true
  | .swpb _ _ _ _ _ => true
  | .swph _ _ _ _ _ => true
  | .swp _ _ _ _ _ _ => true
  | .sys _ _ _ _ _ => true
  | .sysl _ _ _ _ _ => true
  | .tbnz _ _ _ _ => true
  | .tbz _ _ _ _ => true
  | .ubfm sf n immr imms _ _ => validBitfield sf n immr imms
  | .udiv _ _ _ _ => true
  | .umaddl _ _ _ _ => true
  | .umsubl _ _ _ _ => true
  | .umulh _ _ _ => true
  | .wfe => true
  | .wfi => true
  | .yield => true
  | .asrRegister _ _ _ _ => true
  | .asrImmediate sf n immr imms5 _ _ => validBitfield sf n immr (imms5 ++ 31#5) && decide (imms5 = sf)
  | .sysAt op1 crm0 op2 _ => isAt op1 crm0 op2
  | .bfc sf n immr imms _ => validBitfield sf n immr imms && decide (imms.toNat < immr.toNat)
  | .bfi sf n immr imms rn _ => validBitfield sf n immr imms && notZR rn && decide (imms.toNat < immr.toNat)
  | .bfxil sf n immr imms _ _ => validBitfield sf n immr imms && decide (immr.toNat ≤ imms.toNat)
  | .cinc _ rm cond rn _ => notZR rm && notAlways cond && notZR rn && decide (rn = rm)
  | .cinv _ rm cond rn _ => notZR rm && notAlways cond && notZR rn && decide (rn = rm)
  | .cmnExtendedRegister _ _ _ imm3 _ => validExtendShift imm3
  | .cmnImmediate _ shift _ _ => validArithShift shift
  | .cmnShiftedRegister sf shift _ imm6 _ => validAddend sf shift imm6
  | .cmpExtendedRegister _ _ _ imm3 _ => validExtendShift imm3
  | .cmpImmediate _ shift _ _ => validArithShift shift
  | .cmpShiftedRegister sf shift _ imm6 _ => validAddend sf shift imm6
  | .cneg _ rm cond rn _ => notAlways cond && decide (rn = rm)
  | .cset _ cond _ => notAlways cond
  | .csetm _ cond _ => notAlways cond
  | .sysDc op1 crm op2 _ => isDc op1 crm op2
  | .sysIc op1 crm op2 _ => isIc op1 crm op2
  | .lslRegister _ _ _ _ => true
  | .lslImmediate sf n immr imms _ _ =>
    validBitfield sf n immr imms && decide (imms ≠ sf ++ 31#5) && decide (imms.toNat + 1 = immr.toNat)
  | .lsrRegister _ _ _ _ => true
  | .lsrImmediate sf n immr imms5 _ _ => validBitfield sf n immr (imms5 ++ 31#5) && decide (imms5 = sf)
  | .mneg _ _ _ _ => true
  | .movToFromSP _ rn rd => validArithShift 0#2 && (decide (rd = 31#5) || decide (rn = 31#5))
  | .movInvertedWideImmediate sf hw imm16 _ =>
    validHalfword sf hw && !(decide (imm16 = 0#16) && decide (hw ≠ 0#2)) && (decide (sf = 1#1) || decide (imm16 ≠ 0xFFFF#16))
  | .movWideImmediate sf hw imm16 _ => validHalfword sf hw && !(decide (imm16 = 0#16) && decide (hw ≠ 0#2))
  | .movBitmaskImmediate sf n immr imms _ => validBitMask sf n immr imms && !moveWidePreferred sf n imms immr
  | .movRegister sf _ _ => validShiftAmount sf 0#6
  | .mul _ _ _ _ => true
  | .mvn sf _ _ imm6 _ => validShiftAmount sf imm6
  | .negShiftedRegister sf shift _ imm6 _ => validAddend sf shift imm6
  | .negs sf shift _ imm6 rd => validAddend sf shift imm6 && notZR rd
  | .ngc _ _ _ => true
  | .ngcs _ _ _ => true
  | .rev64 _ _ => true
  | .rorImmediate sf n rm imms rn _ => validExtract sf n imms && decide (rn = rm)
  | .rorRegister _ _ _ _ => true
  | .sbfiz sf n immr imms _ _ => validBitfield sf n immr imms && decide (imms.toNat < immr.toNat)
  | .sbfx sf n immr imms _ _ => validBitfield sf n immr imms && bfxPreferred sf 0#1 imms immr
  | .smnegl _ _ _ => true
  | .smull _ _ _ => true
  | .staddb _ _ _ => true
  | .staddh _ _ _ => true
  | .stadd _ _ _ _ => true
  | .stclrb _ _ _ => true
  | .stclrh _ _ _ => true
  | .stclr _ _ _ _ => true
  | .steorb _ _ _ => true
  | .steorh _ _ _ => true
  | .steor _ _ _ _ => true
  | .stsetb _ _ _ => true
  | .stseth _ _ _ => true
  | .stset _ _ _ _ => true
  | .stsmaxb _ _ _ => true
  | .stsmaxh _ _ _ => true
  | .stsmax _ _ _ _ => true
  | .stsminb _ _ _ => true
  | .stsminh _ _ _ => true
  | .stsmin _ _ _ _ => true
  | .stumaxb _ _ _ => true
  | .stumaxh _ _ _ => true
  | .stumax _ _ _ _ => true
  | .stuminb _ _ _ => true
  | .stuminh _ _ _ => true
  | .stumin _ _ _ _ => true
  | .sxtb sf n _ _ => validBitfield sf n 0#6 7#6
  | .sxth sf n _ _ => validBitfield sf n 0#6 15#6
  | .sxtw _ _ => validBitfield 1#1 1#1 0#6 31#6
  | .sysTlbi op1 crm op2 _ => isTlbi op1 crm op2
  | .tstImmediate sf n immr imms _ => validBitMask sf n immr imms
  | .tstShiftedRegister sf _ _ imm6 _ => validShiftAmount sf imm6
  | .ubfiz sf n immr imms _ _ => validBitfield sf n immr imms && decide (imms.toNat < immr.toNat)
  | .ubfx sf n immr imms _ _ => validBitfield sf n immr imms && bfxPreferred sf 1#1 imms immr
  | .umnegl _ _ _ => true
  | .umull _ _ _ => true
  | .uxtb _ _ => validBitfield 0#1 0#1 0#6 7#6
  | .uxth _ _ => validBitfield 0#1 0#1 0#6 15#6

end Sys2Proof
end

