-- ==== Sys2Proof/Decode.lean ====
section
/-! DEFINITION. Decoding (30 R140 to R190) and encoding. A word decodes through the base rows of the opcode table only: an
alias never takes part (30 R145; log 25). Should-be-one bits are ignored by the decoder and written as ones by the encoder
(30 R144; log 24). -/

namespace Sys2Proof

/-- Why bytes are not an instruction that executes. -/
inductive DecodeError where
  /-- The word matches no row (30 R149). -/
  | unallocated (w : Word)
  /-- The word matches the row of an instruction, with a reserved or unallocated value in a field (30 R150, R151). -/
  | reserved (i : Instr)
  /-- There are not four bytes (30 R140). -/
  | truncated
deriving DecidableEq, Repr

/-- A row of the opcode table: the words with `w AND mask = mat`, and the instruction of such a word. -/
structure Row where
  mask : Word
  mat : Word
  build : Word → Instr

/-- The word is one of the row's. -/
def Row.hits (r : Row) (w : Word) : Bool := decide (w &&& r.mask = r.mat)

/-- Addition, subtraction, address formation (30 R160 to R164). -/
def arithRows : List Row :=
  [ ⟨0x7FE0FC00#32, 0x1A000000#32, fun w =>
        .adc (w.extractLsb' 31 1) (w.extractLsb' 16 5) (w.extractLsb' 5 5) (w.extractLsb' 0 5)⟩,
    ⟨0x7FE0FC00#32, 0x3A000000#32, fun w =>
        .adcs (w.extractLsb' 31 1) (w.extractLsb' 16 5) (w.extractLsb' 5 5) (w.extractLsb' 0 5)⟩,
    ⟨0x7FE00000#32, 0x0B200000#32, fun w =>
        .addExtendedRegister (w.extractLsb' 31 1) (w.extractLsb' 16 5) (w.extractLsb' 13 3) (w.extractLsb' 10 3)
          (w.extractLsb' 5 5) (w.extractLsb' 0 5)⟩,
    ⟨0x7F000000#32, 0x11000000#32, fun w =>
        .addImmediate (w.extractLsb' 31 1) (w.extractLsb' 22 2) (w.extractLsb' 10 12) (w.extractLsb' 5 5)
          (w.extractLsb' 0 5)⟩,
    ⟨0x7F200000#32, 0x0B000000#32, fun w =>
        .addShiftedRegister (w.extractLsb' 31 1) (w.extractLsb' 22 2) (w.extractLsb' 16 5) (w.extractLsb' 10 6)
          (w.extractLsb' 5 5) (w.extractLsb' 0 5)⟩,
    ⟨0x7FE00000#32, 0x2B200000#32, fun w =>
        .addsExtendedRegister (w.extractLsb' 31 1) (w.extractLsb' 16 5) (w.extractLsb' 13 3) (w.extractLsb' 10 3)
          (w.extractLsb' 5 5) (w.extractLsb' 0 5)⟩,
    ⟨0x7F000000#32, 0x31000000#32, fun w =>
        .addsImmediate (w.extractLsb' 31 1) (w.extractLsb' 22 2) (w.extractLsb' 10 12) (w.extractLsb' 5 5)
          (w.extractLsb' 0 5)⟩,
    ⟨0x7F200000#32, 0x2B000000#32, fun w =>
        .addsShiftedRegister (w.extractLsb' 31 1) (w.extractLsb' 22 2) (w.extractLsb' 16 5) (w.extractLsb' 10 6)
          (w.extractLsb' 5 5) (w.extractLsb' 0 5)⟩,
    ⟨0x9F000000#32, 0x10000000#32, fun w => .adr (w.extractLsb' 29 2) (w.extractLsb' 5 19) (w.extractLsb' 0 5)⟩,
    ⟨0x9F000000#32, 0x90000000#32, fun w => .adrp (w.extractLsb' 29 2) (w.extractLsb' 5 19) (w.extractLsb' 0 5)⟩,
    ⟨0x7FE0FC00#32, 0x5A000000#32, fun w =>
        .sbc (w.extractLsb' 31 1) (w.extractLsb' 16 5) (w.extractLsb' 5 5) (w.extractLsb' 0 5)⟩,
    ⟨0x7FE0FC00#32, 0x7A000000#32, fun w =>
        .sbcs (w.extractLsb' 31 1) (w.extractLsb' 16 5) (w.extractLsb' 5 5) (w.extractLsb' 0 5)⟩,
    ⟨0x7FE00000#32, 0x4B200000#32, fun w =>
        .subExtendedRegister (w.extractLsb' 31 1) (w.extractLsb' 16 5) (w.extractLsb' 13 3) (w.extractLsb' 10 3)
          (w.extractLsb' 5 5) (w.extractLsb' 0 5)⟩,
    ⟨0x7F000000#32, 0x51000000#32, fun w =>
        .subImmediate (w.extractLsb' 31 1) (w.extractLsb' 22 2) (w.extractLsb' 10 12) (w.extractLsb' 5 5)
          (w.extractLsb' 0 5)⟩,
    ⟨0x7F200000#32, 0x4B000000#32, fun w =>
        .subShiftedRegister (w.extractLsb' 31 1) (w.extractLsb' 22 2) (w.extractLsb' 16 5) (w.extractLsb' 10 6)
          (w.extractLsb' 5 5) (w.extractLsb' 0 5)⟩,
    ⟨0x7FE00000#32, 0x6B200000#32, fun w =>
        .subsExtendedRegister (w.extractLsb' 31 1) (w.extractLsb' 16 5) (w.extractLsb' 13 3) (w.extractLsb' 10 3)
          (w.extractLsb' 5 5) (w.extractLsb' 0 5)⟩,
    ⟨0x7F000000#32, 0x71000000#32, fun w =>
        .subsImmediate (w.extractLsb' 31 1) (w.extractLsb' 22 2) (w.extractLsb' 10 12) (w.extractLsb' 5 5)
          (w.extractLsb' 0 5)⟩,
    ⟨0x7F200000#32, 0x6B000000#32, fun w =>
        .subsShiftedRegister (w.extractLsb' 31 1) (w.extractLsb' 22 2) (w.extractLsb' 16 5) (w.extractLsb' 10 6)
          (w.extractLsb' 5 5) (w.extractLsb' 0 5)⟩ ]

/-- Logical operations and wide moves (30 R165 to R167). -/
def logicalRows : List Row :=
  [ ⟨0x7F800000#32, 0x12000000#32, fun w =>
        .andImmediate (w.extractLsb' 31 1) (w.extractLsb' 22 1) (w.extractLsb' 16 6) (w.extractLsb' 10 6)
          (w.extractLsb' 5 5) (w.extractLsb' 0 5)⟩,
    ⟨0x7F200000#32, 0x0A000000#32, fun w =>
        .andShiftedRegister (w.extractLsb' 31 1) (w.extractLsb' 22 2) (w.extractLsb' 16 5) (w.extractLsb' 10 6)
          (w.extractLsb' 5 5) (w.extractLsb' 0 5)⟩,
    ⟨0x7F800000#32, 0x72000000#32, fun w =>
        .andsImmediate (w.extractLsb' 31 1) (w.extractLsb' 22 1) (w.extractLsb' 16 6) (w.extractLsb' 10 6)
          (w.extractLsb' 5 5) (w.extractLsb' 0 5)⟩,
    ⟨0x7F200000#32, 0x6A000000#32, fun w =>
        .andsShiftedRegister (w.extractLsb' 31 1) (w.extractLsb' 22 2) (w.extractLsb' 16 5) (w.extractLsb' 10 6)
          (w.extractLsb' 5 5) (w.extractLsb' 0 5)⟩,
    ⟨0x7F200000#32, 0x0A200000#32, fun w =>
        .bicShiftedRegister (w.extractLsb' 31 1) (w.extractLsb' 22 2) (w.extractLsb' 16 5) (w.extractLsb' 10 6)
          (w.extractLsb' 5 5) (w.extractLsb' 0 5)⟩,
    ⟨0x7F200000#32, 0x6A200000#32, fun w =>
        .bicsShiftedRegister (w.extractLsb' 31 1) (w.extractLsb' 22 2) (w.extractLsb' 16 5) (w.extractLsb' 10 6)
          (w.extractLsb' 5 5) (w.extractLsb' 0 5)⟩,
    ⟨0x7F200000#32, 0x4A200000#32, fun w =>
        .eonShiftedRegister (w.extractLsb' 31 1) (w.extractLsb' 22 2) (w.extractLsb' 16 5) (w.extractLsb' 10 6)
          (w.extractLsb' 5 5) (w.extractLsb' 0 5)⟩,
    ⟨0x7F800000#32, 0x52000000#32, fun w =>
        .eorImmediate (w.extractLsb' 31 1) (w.extractLsb' 22 1) (w.extractLsb' 16 6) (w.extractLsb' 10 6)
          (w.extractLsb' 5 5) (w.extractLsb' 0 5)⟩,
    ⟨0x7F200000#32, 0x4A000000#32, fun w =>
        .eorShiftedRegister (w.extractLsb' 31 1) (w.extractLsb' 22 2) (w.extractLsb' 16 5) (w.extractLsb' 10 6)
          (w.extractLsb' 5 5) (w.extractLsb' 0 5)⟩,
    ⟨0x7F800000#32, 0x72800000#32, fun w =>
        .movk (w.extractLsb' 31 1) (w.extractLsb' 21 2) (w.extractLsb' 5 16) (w.extractLsb' 0 5)⟩,
    ⟨0x7F800000#32, 0x12800000#32, fun w =>
        .movn (w.extractLsb' 31 1) (w.extractLsb' 21 2) (w.extractLsb' 5 16) (w.extractLsb' 0 5)⟩,
    ⟨0x7F800000#32, 0x52800000#32, fun w =>
        .movz (w.extractLsb' 31 1) (w.extractLsb' 21 2) (w.extractLsb' 5 16) (w.extractLsb' 0 5)⟩,
    ⟨0x7F200000#32, 0x2A200000#32, fun w =>
        .ornShiftedRegister (w.extractLsb' 31 1) (w.extractLsb' 22 2) (w.extractLsb' 16 5) (w.extractLsb' 10 6)
          (w.extractLsb' 5 5) (w.extractLsb' 0 5)⟩,
    ⟨0x7F800000#32, 0x32000000#32, fun w =>
        .orrImmediate (w.extractLsb' 31 1) (w.extractLsb' 22 1) (w.extractLsb' 16 6) (w.extractLsb' 10 6)
          (w.extractLsb' 5 5) (w.extractLsb' 0 5)⟩,
    ⟨0x7F200000#32, 0x2A000000#32, fun w =>
        .orrShiftedRegister (w.extractLsb' 31 1) (w.extractLsb' 22 2) (w.extractLsb' 16 5) (w.extractLsb' 10 6)
          (w.extractLsb' 5 5) (w.extractLsb' 0 5)⟩ ]

/-- Shifts, bitfields, extraction, one-source operations (30 R168 to R171). -/
def shiftRows : List Row :=
  [ ⟨0x7FE0FC00#32, 0x1AC02800#32, fun w =>
        .asrv (w.extractLsb' 31 1) (w.extractLsb' 16 5) (w.extractLsb' 5 5) (w.extractLsb' 0 5)⟩,
    ⟨0x7F800000#32, 0x33000000#32, fun w =>
        .bfm (w.extractLsb' 31 1) (w.extractLsb' 22 1) (w.extractLsb' 16 6) (w.extractLsb' 10 6) (w.extractLsb' 5 5)
          (w.extractLsb' 0 5)⟩,
    ⟨0x7FFFFC00#32, 0x5AC01400#32, fun w => .cls (w.extractLsb' 31 1) (w.extractLsb' 5 5) (w.extractLsb' 0 5)⟩,
    ⟨0x7FFFFC00#32, 0x5AC01000#32, fun w => .clz (w.extractLsb' 31 1) (w.extractLsb' 5 5) (w.extractLsb' 0 5)⟩,
    ⟨0x7FA00000#32, 0x13800000#32, fun w =>
        .extr (w.extractLsb' 31 1) (w.extractLsb' 22 1) (w.extractLsb' 16 5) (w.extractLsb' 10 6)
          (w.extractLsb' 5 5) (w.extractLsb' 0 5)⟩,
    ⟨0x7FE0FC00#32, 0x1AC02000#32, fun w =>
        .lslv (w.extractLsb' 31 1) (w.extractLsb' 16 5) (w.extractLsb' 5 5) (w.extractLsb' 0 5)⟩,
    ⟨0x7FE0FC00#32, 0x1AC02400#32, fun w =>
        .lsrv (w.extractLsb' 31 1) (w.extractLsb' 16 5) (w.extractLsb' 5 5) (w.extractLsb' 0 5)⟩,
    ⟨0x7FFFFC00#32, 0x5AC00000#32, fun w => .rbit (w.extractLsb' 31 1) (w.extractLsb' 5 5) (w.extractLsb' 0 5)⟩,
    ⟨0xFFFFFC00#32, 0x5AC00800#32, fun w => .rev32Bit (w.extractLsb' 5 5) (w.extractLsb' 0 5)⟩,
    ⟨0xFFFFFC00#32, 0xDAC00C00#32, fun w => .rev64Bit (w.extractLsb' 5 5) (w.extractLsb' 0 5)⟩,
    ⟨0x7FFFFC00#32, 0x5AC00400#32, fun w => .rev16 (w.extractLsb' 31 1) (w.extractLsb' 5 5) (w.extractLsb' 0 5)⟩,
    ⟨0xFFFFFC00#32, 0xDAC00800#32, fun w => .rev32 (w.extractLsb' 5 5) (w.extractLsb' 0 5)⟩,
    ⟨0x7FE0FC00#32, 0x1AC02C00#32, fun w =>
        .rorv (w.extractLsb' 31 1) (w.extractLsb' 16 5) (w.extractLsb' 5 5) (w.extractLsb' 0 5)⟩,
    ⟨0x7F800000#32, 0x13000000#32, fun w =>
        .sbfm (w.extractLsb' 31 1) (w.extractLsb' 22 1) (w.extractLsb' 16 6) (w.extractLsb' 10 6)
          (w.extractLsb' 5 5) (w.extractLsb' 0 5)⟩,
    ⟨0x7F800000#32, 0x53000000#32, fun w =>
        .ubfm (w.extractLsb' 31 1) (w.extractLsb' 22 1) (w.extractLsb' 16 6) (w.extractLsb' 10 6)
          (w.extractLsb' 5 5) (w.extractLsb' 0 5)⟩ ]

/-- Conditional compare and select (30 R172 to R174). -/
def condRows : List Row :=
  [ ⟨0x7FE00C10#32, 0x3A400800#32, fun w =>
        .ccmnImmediate (w.extractLsb' 31 1) (w.extractLsb' 16 5) (w.extractLsb' 12 4) (w.extractLsb' 5 5)
          (w.extractLsb' 0 4)⟩,
    ⟨0x7FE00C10#32, 0x3A400000#32, fun w =>
        .ccmnRegister (w.extractLsb' 31 1) (w.extractLsb' 16 5) (w.extractLsb' 12 4) (w.extractLsb' 5 5)
          (w.extractLsb' 0 4)⟩,
    ⟨0x7FE00C10#32, 0x7A400800#32, fun w =>
        .ccmpImmediate (w.extractLsb' 31 1) (w.extractLsb' 16 5) (w.extractLsb' 12 4) (w.extractLsb' 5 5)
          (w.extractLsb' 0 4)⟩,
    ⟨0x7FE00C10#32, 0x7A400000#32, fun w =>
        .ccmpRegister (w.extractLsb' 31 1) (w.extractLsb' 16 5) (w.extractLsb' 12 4) (w.extractLsb' 5 5)
          (w.extractLsb' 0 4)⟩,
    ⟨0x7FE00C00#32, 0x1A800000#32, fun w =>
        .csel (w.extractLsb' 31 1) (w.extractLsb' 16 5) (w.extractLsb' 12 4) (w.extractLsb' 5 5) (w.extractLsb' 0 5)⟩,
    ⟨0x7FE00C00#32, 0x1A800400#32, fun w =>
        .csinc (w.extractLsb' 31 1) (w.extractLsb' 16 5) (w.extractLsb' 12 4) (w.extractLsb' 5 5)
          (w.extractLsb' 0 5)⟩,
    ⟨0x7FE00C00#32, 0x5A800000#32, fun w =>
        .csinv (w.extractLsb' 31 1) (w.extractLsb' 16 5) (w.extractLsb' 12 4) (w.extractLsb' 5 5)
          (w.extractLsb' 0 5)⟩,
    ⟨0x7FE00C00#32, 0x5A800400#32, fun w =>
        .csneg (w.extractLsb' 31 1) (w.extractLsb' 16 5) (w.extractLsb' 12 4) (w.extractLsb' 5 5)
          (w.extractLsb' 0 5)⟩ ]

/-- Multiplication, division, CRC32 (30 R171, R175). -/
def mulDivRows : List Row :=
  [ ⟨0x7FE0F000#32, 0x1AC04000#32, fun w =>
        .crc32 (w.extractLsb' 31 1) (w.extractLsb' 16 5) (w.extractLsb' 10 2) (w.extractLsb' 5 5)
          (w.extractLsb' 0 5)⟩,
    ⟨0x7FE0F000#32, 0x1AC05000#32, fun w =>
        .crc32c (w.extractLsb' 31 1) (w.extractLsb' 16 5) (w.extractLsb' 10 2) (w.extractLsb' 5 5)
          (w.extractLsb' 0 5)⟩,
    ⟨0x7FE08000#32, 0x1B000000#32, fun w =>
        .madd (w.extractLsb' 31 1) (w.extractLsb' 16 5) (w.extractLsb' 10 5) (w.extractLsb' 5 5) (w.extractLsb' 0 5)⟩,
    ⟨0x7FE08000#32, 0x1B008000#32, fun w =>
        .msub (w.extractLsb' 31 1) (w.extractLsb' 16 5) (w.extractLsb' 10 5) (w.extractLsb' 5 5) (w.extractLsb' 0 5)⟩,
    ⟨0x7FE0FC00#32, 0x1AC00C00#32, fun w =>
        .sdiv (w.extractLsb' 31 1) (w.extractLsb' 16 5) (w.extractLsb' 5 5) (w.extractLsb' 0 5)⟩,
    ⟨0xFFE08000#32, 0x9B200000#32, fun w =>
        .smaddl (w.extractLsb' 16 5) (w.extractLsb' 10 5) (w.extractLsb' 5 5) (w.extractLsb' 0 5)⟩,
    ⟨0xFFE08000#32, 0x9B208000#32, fun w =>
        .smsubl (w.extractLsb' 16 5) (w.extractLsb' 10 5) (w.extractLsb' 5 5) (w.extractLsb' 0 5)⟩,
    ⟨0xFFE08000#32, 0x9B400000#32, fun w => .smulh (w.extractLsb' 16 5) (w.extractLsb' 5 5) (w.extractLsb' 0 5)⟩,
    ⟨0x7FE0FC00#32, 0x1AC00800#32, fun w =>
        .udiv (w.extractLsb' 31 1) (w.extractLsb' 16 5) (w.extractLsb' 5 5) (w.extractLsb' 0 5)⟩,
    ⟨0xFFE08000#32, 0x9BA00000#32, fun w =>
        .umaddl (w.extractLsb' 16 5) (w.extractLsb' 10 5) (w.extractLsb' 5 5) (w.extractLsb' 0 5)⟩,
    ⟨0xFFE08000#32, 0x9BA08000#32, fun w =>
        .umsubl (w.extractLsb' 16 5) (w.extractLsb' 10 5) (w.extractLsb' 5 5) (w.extractLsb' 0 5)⟩,
    ⟨0xFFE08000#32, 0x9BC00000#32, fun w => .umulh (w.extractLsb' 16 5) (w.extractLsb' 5 5) (w.extractLsb' 0 5)⟩ ]

/-- Branches (30 R176 to R180). -/
def branchRows : List Row :=
  [ ⟨0xFF000010#32, 0x54000000#32, fun w => .bCond (w.extractLsb' 5 19) (w.extractLsb' 0 4)⟩,
    ⟨0xFC000000#32, 0x14000000#32, fun w => .b (w.extractLsb' 0 26)⟩,
    ⟨0xFC000000#32, 0x94000000#32, fun w => .bl (w.extractLsb' 0 26)⟩,
    ⟨0xFFFFFC1F#32, 0xD63F0000#32, fun w => .blr (w.extractLsb' 5 5)⟩,
    ⟨0xFFFFFC1F#32, 0xD61F0000#32, fun w => .br (w.extractLsb' 5 5)⟩,
    ⟨0x7F000000#32, 0x35000000#32, fun w => .cbnz (w.extractLsb' 31 1) (w.extractLsb' 5 19) (w.extractLsb' 0 5)⟩,
    ⟨0x7F000000#32, 0x34000000#32, fun w => .cbz (w.extractLsb' 31 1) (w.extractLsb' 5 19) (w.extractLsb' 0 5)⟩,
    ⟨0xFFFFFC1F#32, 0xD65F0000#32, fun w => .ret (w.extractLsb' 5 5)⟩,
    ⟨0x7F000000#32, 0x37000000#32, fun w =>
        .tbnz (w.extractLsb' 31 1) (w.extractLsb' 19 5) (w.extractLsb' 5 14) (w.extractLsb' 0 5)⟩,
    ⟨0x7F000000#32, 0x36000000#32, fun w =>
        .tbz (w.extractLsb' 31 1) (w.extractLsb' 19 5) (w.extractLsb' 5 14) (w.extractLsb' 0 5)⟩ ]

/-- Loads, stores and prefetches of one register (30 R185, R187 to R189). -/
def loadStoreRows1 : List Row :=
  [ ⟨0xBFE00C00#32, 0xB8400400#32, fun w =>
        .ldrImmediatePostIndex (w.extractLsb' 30 1) (w.extractLsb' 12 9) (w.extractLsb' 5 5) (w.extractLsb' 0 5)⟩,
    ⟨0xBFE00C00#32, 0xB8400C00#32, fun w =>
        .ldrImmediatePreIndex (w.extractLsb' 30 1) (w.extractLsb' 12 9) (w.extractLsb' 5 5) (w.extractLsb' 0 5)⟩,
    ⟨0xBFC00000#32, 0xB9400000#32, fun w =>
        .ldrImmediateUnsignedOffset (w.extractLsb' 30 1) (w.extractLsb' 10 12) (w.extractLsb' 5 5)
          (w.extractLsb' 0 5)⟩,
    ⟨0xBF000000#32, 0x18000000#32, fun w =>
        .ldrLiteral (w.extractLsb' 30 1) (w.extractLsb' 5 19) (w.extractLsb' 0 5)⟩,
    ⟨0xBFE00C00#32, 0xB8600800#32, fun w =>
        .ldrRegister (w.extractLsb' 30 1) (w.extractLsb' 16 5) (w.extractLsb' 13 3) (w.extractLsb' 12 1)
          (w.extractLsb' 5 5) (w.extractLsb' 0 5)⟩,
    ⟨0xFFE00C00#32, 0x38400400#32, fun w =>
        .ldrbImmediatePostIndex (w.extractLsb' 12 9) (w.extractLsb' 5 5) (w.extractLsb' 0 5)⟩,
    ⟨0xFFE00C00#32, 0x38400C00#32, fun w =>
        .ldrbImmediatePreIndex (w.extractLsb' 12 9) (w.extractLsb' 5 5) (w.extractLsb' 0 5)⟩,
    ⟨0xFFC00000#32, 0x39400000#32, fun w =>
        .ldrbImmediateUnsignedOffset (w.extractLsb' 10 12) (w.extractLsb' 5 5) (w.extractLsb' 0 5)⟩,
    ⟨0xFFE00C00#32, 0x38600800#32, fun w =>
        .ldrbRegister (w.extractLsb' 16 5) (w.extractLsb' 13 3) (w.extractLsb' 12 1) (w.extractLsb' 5 5)
          (w.extractLsb' 0 5)⟩,
    ⟨0xFFE00C00#32, 0x78400400#32, fun w =>
        .ldrhImmediatePostIndex (w.extractLsb' 12 9) (w.extractLsb' 5 5) (w.extractLsb' 0 5)⟩,
    ⟨0xFFE00C00#32, 0x78400C00#32, fun w =>
        .ldrhImmediatePreIndex (w.extractLsb' 12 9) (w.extractLsb' 5 5) (w.extractLsb' 0 5)⟩,
    ⟨0xFFC00000#32, 0x79400000#32, fun w =>
        .ldrhImmediateUnsignedOffset (w.extractLsb' 10 12) (w.extractLsb' 5 5) (w.extractLsb' 0 5)⟩,
    ⟨0xFFE00C00#32, 0x78600800#32, fun w =>
        .ldrhRegister (w.extractLsb' 16 5) (w.extractLsb' 13 3) (w.extractLsb' 12 1) (w.extractLsb' 5 5)
          (w.extractLsb' 0 5)⟩,
    ⟨0xFFA00C00#32, 0x38800400#32, fun w =>
        .ldrsbImmediatePostIndex (w.extractLsb' 22 1) (w.extractLsb' 12 9) (w.extractLsb' 5 5) (w.extractLsb' 0 5)⟩,
    ⟨0xFFA00C00#32, 0x38800C00#32, fun w =>
        .ldrsbImmediatePreIndex (w.extractLsb' 22 1) (w.extractLsb' 12 9) (w.extractLsb' 5 5) (w.extractLsb' 0 5)⟩,
    ⟨0xFF800000#32, 0x39800000#32, fun w =>
        .ldrsbImmediateUnsignedOffset (w.extractLsb' 22 1) (w.extractLsb' 10 12) (w.extractLsb' 5 5)
          (w.extractLsb' 0 5)⟩,
    ⟨0xFFA00C00#32, 0x38A00800#32, fun w =>
        .ldrsbRegister (w.extractLsb' 22 1) (w.extractLsb' 16 5) (w.extractLsb' 13 3) (w.extractLsb' 12 1)
          (w.extractLsb' 5 5) (w.extractLsb' 0 5)⟩,
    ⟨0xFFA00C00#32, 0x78800400#32, fun w =>
        .ldrshImmediatePostIndex (w.extractLsb' 22 1) (w.extractLsb' 12 9) (w.extractLsb' 5 5) (w.extractLsb' 0 5)⟩,
    ⟨0xFFA00C00#32, 0x78800C00#32, fun w =>
        .ldrshImmediatePreIndex (w.extractLsb' 22 1) (w.extractLsb' 12 9) (w.extractLsb' 5 5) (w.extractLsb' 0 5)⟩,
    ⟨0xFF800000#32, 0x79800000#32, fun w =>
        .ldrshImmediateUnsignedOffset (w.extractLsb' 22 1) (w.extractLsb' 10 12) (w.extractLsb' 5 5)
          (w.extractLsb' 0 5)⟩,
    ⟨0xFFA00C00#32, 0x78A00800#32, fun w =>
        .ldrshRegister (w.extractLsb' 22 1) (w.extractLsb' 16 5) (w.extractLsb' 13 3) (w.extractLsb' 12 1)
          (w.extractLsb' 5 5) (w.extractLsb' 0 5)⟩,
    ⟨0xFFE00C00#32, 0xB8800400#32, fun w =>
        .ldrswImmediatePostIndex (w.extractLsb' 12 9) (w.extractLsb' 5 5) (w.extractLsb' 0 5)⟩,
    ⟨0xFFE00C00#32, 0xB8800C00#32, fun w =>
        .ldrswImmediatePreIndex (w.extractLsb' 12 9) (w.extractLsb' 5 5) (w.extractLsb' 0 5)⟩,
    ⟨0xFFC00000#32, 0xB9800000#32, fun w =>
        .ldrswImmediateUnsignedOffset (w.extractLsb' 10 12) (w.extractLsb' 5 5) (w.extractLsb' 0 5)⟩,
    ⟨0xFF000000#32, 0x98000000#32, fun w => .ldrswLiteral (w.extractLsb' 5 19) (w.extractLsb' 0 5)⟩,
    ⟨0xFFE00C00#32, 0xB8A00800#32, fun w =>
        .ldrswRegister (w.extractLsb' 16 5) (w.extractLsb' 13 3) (w.extractLsb' 12 1) (w.extractLsb' 5 5)
          (w.extractLsb' 0 5)⟩,
    ⟨0xBFE00C00#32, 0xB8400800#32, fun w =>
        .ldtr (w.extractLsb' 30 1) (w.extractLsb' 12 9) (w.extractLsb' 5 5) (w.extractLsb' 0 5)⟩,
    ⟨0xFFE00C00#32, 0x38400800#32, fun w => .ldtrb (w.extractLsb' 12 9) (w.extractLsb' 5 5) (w.extractLsb' 0 5)⟩,
    ⟨0xFFE00C00#32, 0x78400800#32, fun w => .ldtrh (w.extractLsb' 12 9) (w.extractLsb' 5 5) (w.extractLsb' 0 5)⟩,
    ⟨0xFFA00C00#32, 0x38800800#32, fun w =>
        .ldtrsb (w.extractLsb' 22 1) (w.extractLsb' 12 9) (w.extractLsb' 5 5) (w.extractLsb' 0 5)⟩,
    ⟨0xFFA00C00#32, 0x78800800#32, fun w =>
        .ldtrsh (w.extractLsb' 22 1) (w.extractLsb' 12 9) (w.extractLsb' 5 5) (w.extractLsb' 0 5)⟩,
    ⟨0xFFE00C00#32, 0xB8800800#32, fun w => .ldtrsw (w.extractLsb' 12 9) (w.extractLsb' 5 5) (w.extractLsb' 0 5)⟩,
    ⟨0xBFE00C00#32, 0xB8400000#32, fun w =>
        .ldur (w.extractLsb' 30 1) (w.extractLsb' 12 9) (w.extractLsb' 5 5) (w.extractLsb' 0 5)⟩,
    ⟨0xFFE00C00#32, 0x38400000#32, fun w => .ldurb (w.extractLsb' 12 9) (w.extractLsb' 5 5) (w.extractLsb' 0 5)⟩,
    ⟨0xFFE00C00#32, 0x78400000#32, fun w => .ldurh (w.extractLsb' 12 9) (w.extractLsb' 5 5) (w.extractLsb' 0 5)⟩,
    ⟨0xFFA00C00#32, 0x38800000#32, fun w =>
        .ldursb (w.extractLsb' 22 1) (w.extractLsb' 12 9) (w.extractLsb' 5 5) (w.extractLsb' 0 5)⟩,
    ⟨0xFFA00C00#32, 0x78800000#32, fun w =>
        .ldursh (w.extractLsb' 22 1) (w.extractLsb' 12 9) (w.extractLsb' 5 5) (w.extractLsb' 0 5)⟩,
    ⟨0xFFE00C00#32, 0xB8800000#32, fun w => .ldursw (w.extractLsb' 12 9) (w.extractLsb' 5 5) (w.extractLsb' 0 5)⟩,
    ⟨0xFFC00000#32, 0xF9800000#32, fun w =>
        .prfmImmediate (w.extractLsb' 10 12) (w.extractLsb' 5 5) (w.extractLsb' 0 5)⟩,
    ⟨0xFF000000#32, 0xD8000000#32, fun w => .prfmLiteral (w.extractLsb' 5 19) (w.extractLsb' 0 5)⟩ ]

/-- Loads, stores and prefetches of one register (30 R185, R187 to R189). -/
def loadStoreRows2 : List Row :=
  [ ⟨0xFFE00C00#32, 0xF8A00800#32, fun w =>
        .prfmRegister (w.extractLsb' 16 5) (w.extractLsb' 13 3) (w.extractLsb' 12 1) (w.extractLsb' 5 5)
          (w.extractLsb' 0 5)⟩,
    ⟨0xFFE00C00#32, 0xF8800000#32, fun w => .prfum (w.extractLsb' 12 9) (w.extractLsb' 5 5) (w.extractLsb' 0 5)⟩,
    ⟨0xBFE00C00#32, 0xB8000400#32, fun w =>
        .strImmediatePostIndex (w.extractLsb' 30 1) (w.extractLsb' 12 9) (w.extractLsb' 5 5) (w.extractLsb' 0 5)⟩,
    ⟨0xBFE00C00#32, 0xB8000C00#32, fun w =>
        .strImmediatePreIndex (w.extractLsb' 30 1) (w.extractLsb' 12 9) (w.extractLsb' 5 5) (w.extractLsb' 0 5)⟩,
    ⟨0xBFC00000#32, 0xB9000000#32, fun w =>
        .strImmediateUnsignedOffset (w.extractLsb' 30 1) (w.extractLsb' 10 12) (w.extractLsb' 5 5)
          (w.extractLsb' 0 5)⟩,
    ⟨0xBFE00C00#32, 0xB8200800#32, fun w =>
        .strRegister (w.extractLsb' 30 1) (w.extractLsb' 16 5) (w.extractLsb' 13 3) (w.extractLsb' 12 1)
          (w.extractLsb' 5 5) (w.extractLsb' 0 5)⟩,
    ⟨0xFFE00C00#32, 0x38000400#32, fun w =>
        .strbImmediatePostIndex (w.extractLsb' 12 9) (w.extractLsb' 5 5) (w.extractLsb' 0 5)⟩,
    ⟨0xFFE00C00#32, 0x38000C00#32, fun w =>
        .strbImmediatePreIndex (w.extractLsb' 12 9) (w.extractLsb' 5 5) (w.extractLsb' 0 5)⟩,
    ⟨0xFFC00000#32, 0x39000000#32, fun w =>
        .strbImmediateUnsignedOffset (w.extractLsb' 10 12) (w.extractLsb' 5 5) (w.extractLsb' 0 5)⟩,
    ⟨0xFFE00C00#32, 0x38200800#32, fun w =>
        .strbRegister (w.extractLsb' 16 5) (w.extractLsb' 13 3) (w.extractLsb' 12 1) (w.extractLsb' 5 5)
          (w.extractLsb' 0 5)⟩,
    ⟨0xFFE00C00#32, 0x78000400#32, fun w =>
        .strhImmediatePostIndex (w.extractLsb' 12 9) (w.extractLsb' 5 5) (w.extractLsb' 0 5)⟩,
    ⟨0xFFE00C00#32, 0x78000C00#32, fun w =>
        .strhImmediatePreIndex (w.extractLsb' 12 9) (w.extractLsb' 5 5) (w.extractLsb' 0 5)⟩,
    ⟨0xFFC00000#32, 0x79000000#32, fun w =>
        .strhImmediateUnsignedOffset (w.extractLsb' 10 12) (w.extractLsb' 5 5) (w.extractLsb' 0 5)⟩,
    ⟨0xFFE00C00#32, 0x78200800#32, fun w =>
        .strhRegister (w.extractLsb' 16 5) (w.extractLsb' 13 3) (w.extractLsb' 12 1) (w.extractLsb' 5 5)
          (w.extractLsb' 0 5)⟩,
    ⟨0xBFE00C00#32, 0xB8000800#32, fun w =>
        .sttr (w.extractLsb' 30 1) (w.extractLsb' 12 9) (w.extractLsb' 5 5) (w.extractLsb' 0 5)⟩,
    ⟨0xFFE00C00#32, 0x38000800#32, fun w => .sttrb (w.extractLsb' 12 9) (w.extractLsb' 5 5) (w.extractLsb' 0 5)⟩,
    ⟨0xFFE00C00#32, 0x78000800#32, fun w => .sttrh (w.extractLsb' 12 9) (w.extractLsb' 5 5) (w.extractLsb' 0 5)⟩,
    ⟨0xBFE00C00#32, 0xB8000000#32, fun w =>
        .stur (w.extractLsb' 30 1) (w.extractLsb' 12 9) (w.extractLsb' 5 5) (w.extractLsb' 0 5)⟩,
    ⟨0xFFE00C00#32, 0x38000000#32, fun w => .sturb (w.extractLsb' 12 9) (w.extractLsb' 5 5) (w.extractLsb' 0 5)⟩,
    ⟨0xFFE00C00#32, 0x78000000#32, fun w => .sturh (w.extractLsb' 12 9) (w.extractLsb' 5 5) (w.extractLsb' 0 5)⟩ ]

/-- Loads, stores and prefetches of one register (30 R185, R187 to R189). -/
def loadStoreRows : List Row := loadStoreRows1 ++ loadStoreRows2

/-- Pairs (30 R186). -/
def pairRows : List Row :=
  [ ⟨0x7FC00000#32, 0x28400000#32, fun w =>
        .ldnp (w.extractLsb' 31 1) (w.extractLsb' 15 7) (w.extractLsb' 10 5) (w.extractLsb' 5 5) (w.extractLsb' 0 5)⟩,
    ⟨0x7FC00000#32, 0x28C00000#32, fun w =>
        .ldpPostIndex (w.extractLsb' 31 1) (w.extractLsb' 15 7) (w.extractLsb' 10 5) (w.extractLsb' 5 5)
          (w.extractLsb' 0 5)⟩,
    ⟨0x7FC00000#32, 0x29C00000#32, fun w =>
        .ldpPreIndex (w.extractLsb' 31 1) (w.extractLsb' 15 7) (w.extractLsb' 10 5) (w.extractLsb' 5 5)
          (w.extractLsb' 0 5)⟩,
    ⟨0x7FC00000#32, 0x29400000#32, fun w =>
        .ldpSignedOffset (w.extractLsb' 31 1) (w.extractLsb' 15 7) (w.extractLsb' 10 5) (w.extractLsb' 5 5)
          (w.extractLsb' 0 5)⟩,
    ⟨0xFFC00000#32, 0x68C00000#32, fun w =>
        .ldpswPostIndex (w.extractLsb' 15 7) (w.extractLsb' 10 5) (w.extractLsb' 5 5) (w.extractLsb' 0 5)⟩,
    ⟨0xFFC00000#32, 0x69C00000#32, fun w =>
        .ldpswPreIndex (w.extractLsb' 15 7) (w.extractLsb' 10 5) (w.extractLsb' 5 5) (w.extractLsb' 0 5)⟩,
    ⟨0xFFC00000#32, 0x69400000#32, fun w =>
        .ldpswSignedOffset (w.extractLsb' 15 7) (w.extractLsb' 10 5) (w.extractLsb' 5 5) (w.extractLsb' 0 5)⟩,
    ⟨0x7FC00000#32, 0x28000000#32, fun w =>
        .stnp (w.extractLsb' 31 1) (w.extractLsb' 15 7) (w.extractLsb' 10 5) (w.extractLsb' 5 5) (w.extractLsb' 0 5)⟩,
    ⟨0x7FC00000#32, 0x28800000#32, fun w =>
        .stpPostIndex (w.extractLsb' 31 1) (w.extractLsb' 15 7) (w.extractLsb' 10 5) (w.extractLsb' 5 5)
          (w.extractLsb' 0 5)⟩,
    ⟨0x7FC00000#32, 0x29800000#32, fun w =>
        .stpPreIndex (w.extractLsb' 31 1) (w.extractLsb' 15 7) (w.extractLsb' 10 5) (w.extractLsb' 5 5)
          (w.extractLsb' 0 5)⟩,
    ⟨0x7FC00000#32, 0x29000000#32, fun w =>
        .stpSignedOffset (w.extractLsb' 31 1) (w.extractLsb' 15 7) (w.extractLsb' 10 5) (w.extractLsb' 5 5)
          (w.extractLsb' 0 5)⟩ ]

/-- Exclusive and ordered accesses (30 R183). -/
def exclusiveRows : List Row :=
  [ ⟨0xBFE08000#32, 0x88C08000#32, fun w => .ldar (w.extractLsb' 30 1) (w.extractLsb' 5 5) (w.extractLsb' 0 5)⟩,
    ⟨0xFFE08000#32, 0x08C08000#32, fun w => .ldarb (w.extractLsb' 5 5) (w.extractLsb' 0 5)⟩,
    ⟨0xFFE08000#32, 0x48C08000#32, fun w => .ldarh (w.extractLsb' 5 5) (w.extractLsb' 0 5)⟩,
    ⟨0xBFE08000#32, 0x88608000#32, fun w =>
        .ldaxp (w.extractLsb' 30 1) (w.extractLsb' 10 5) (w.extractLsb' 5 5) (w.extractLsb' 0 5)⟩,
    ⟨0xBFE08000#32, 0x88408000#32, fun w => .ldaxr (w.extractLsb' 30 1) (w.extractLsb' 5 5) (w.extractLsb' 0 5)⟩,
    ⟨0xFFE08000#32, 0x08408000#32, fun w => .ldaxrb (w.extractLsb' 5 5) (w.extractLsb' 0 5)⟩,
    ⟨0xFFE08000#32, 0x48408000#32, fun w => .ldaxrh (w.extractLsb' 5 5) (w.extractLsb' 0 5)⟩,
    ⟨0xFFE08000#32, 0x08C00000#32, fun w => .ldlarb (w.extractLsb' 5 5) (w.extractLsb' 0 5)⟩,
    ⟨0xFFE08000#32, 0x48C00000#32, fun w => .ldlarh (w.extractLsb' 5 5) (w.extractLsb' 0 5)⟩,
    ⟨0xBFE08000#32, 0x88C00000#32, fun w => .ldlar (w.extractLsb' 30 1) (w.extractLsb' 5 5) (w.extractLsb' 0 5)⟩,
    ⟨0xBFE08000#32, 0x88600000#32, fun w =>
        .ldxp (w.extractLsb' 30 1) (w.extractLsb' 10 5) (w.extractLsb' 5 5) (w.extractLsb' 0 5)⟩,
    ⟨0xBFE08000#32, 0x88400000#32, fun w => .ldxr (w.extractLsb' 30 1) (w.extractLsb' 5 5) (w.extractLsb' 0 5)⟩,
    ⟨0xFFE08000#32, 0x08400000#32, fun w => .ldxrb (w.extractLsb' 5 5) (w.extractLsb' 0 5)⟩,
    ⟨0xFFE08000#32, 0x48400000#32, fun w => .ldxrh (w.extractLsb' 5 5) (w.extractLsb' 0 5)⟩,
    ⟨0xFFE08000#32, 0x08800000#32, fun w => .stllrb (w.extractLsb' 5 5) (w.extractLsb' 0 5)⟩,
    ⟨0xFFE08000#32, 0x48800000#32, fun w => .stllrh (w.extractLsb' 5 5) (w.extractLsb' 0 5)⟩,
    ⟨0xBFE08000#32, 0x88800000#32, fun w => .stllr (w.extractLsb' 30 1) (w.extractLsb' 5 5) (w.extractLsb' 0 5)⟩,
    ⟨0xBFE08000#32, 0x88808000#32, fun w => .stlr (w.extractLsb' 30 1) (w.extractLsb' 5 5) (w.extractLsb' 0 5)⟩,
    ⟨0xFFE08000#32, 0x08808000#32, fun w => .stlrb (w.extractLsb' 5 5) (w.extractLsb' 0 5)⟩,
    ⟨0xFFE08000#32, 0x48808000#32, fun w => .stlrh (w.extractLsb' 5 5) (w.extractLsb' 0 5)⟩,
    ⟨0xBFE08000#32, 0x88208000#32, fun w =>
        .stlxp (w.extractLsb' 30 1) (w.extractLsb' 16 5) (w.extractLsb' 10 5) (w.extractLsb' 5 5)
          (w.extractLsb' 0 5)⟩,
    ⟨0xBFE08000#32, 0x88008000#32, fun w =>
        .stlxr (w.extractLsb' 30 1) (w.extractLsb' 16 5) (w.extractLsb' 5 5) (w.extractLsb' 0 5)⟩,
    ⟨0xFFE08000#32, 0x08008000#32, fun w => .stlxrb (w.extractLsb' 16 5) (w.extractLsb' 5 5) (w.extractLsb' 0 5)⟩,
    ⟨0xFFE08000#32, 0x48008000#32, fun w => .stlxrh (w.extractLsb' 16 5) (w.extractLsb' 5 5) (w.extractLsb' 0 5)⟩,
    ⟨0xBFE08000#32, 0x88200000#32, fun w =>
        .stxp (w.extractLsb' 30 1) (w.extractLsb' 16 5) (w.extractLsb' 10 5) (w.extractLsb' 5 5) (w.extractLsb' 0 5)⟩,
    ⟨0xBFE08000#32, 0x88000000#32, fun w =>
        .stxr (w.extractLsb' 30 1) (w.extractLsb' 16 5) (w.extractLsb' 5 5) (w.extractLsb' 0 5)⟩,
    ⟨0xFFE08000#32, 0x08000000#32, fun w => .stxrb (w.extractLsb' 16 5) (w.extractLsb' 5 5) (w.extractLsb' 0 5)⟩,
    ⟨0xFFE08000#32, 0x48000000#32, fun w => .stxrh (w.extractLsb' 16 5) (w.extractLsb' 5 5) (w.extractLsb' 0 5)⟩ ]

/-- Compare and swap, atomic operations (30 R184, R190). -/
def atomicRows : List Row :=
  [ ⟨0xFFA07C00#32, 0x08A07C00#32, fun w =>
        .casb (w.extractLsb' 22 1) (w.extractLsb' 16 5) (w.extractLsb' 15 1) (w.extractLsb' 5 5) (w.extractLsb' 0 5)⟩,
    ⟨0xFFA07C00#32, 0x48A07C00#32, fun w =>
        .cash (w.extractLsb' 22 1) (w.extractLsb' 16 5) (w.extractLsb' 15 1) (w.extractLsb' 5 5) (w.extractLsb' 0 5)⟩,
    ⟨0xBFA07C00#32, 0x08207C00#32, fun w =>
        .casp (w.extractLsb' 30 1) (w.extractLsb' 22 1) (w.extractLsb' 16 5) (w.extractLsb' 15 1)
          (w.extractLsb' 5 5) (w.extractLsb' 0 5)⟩,
    ⟨0xBFA07C00#32, 0x88A07C00#32, fun w =>
        .cas (w.extractLsb' 30 1) (w.extractLsb' 22 1) (w.extractLsb' 16 5) (w.extractLsb' 15 1) (w.extractLsb' 5 5)
          (w.extractLsb' 0 5)⟩,
    ⟨0xFF20FC00#32, 0x38200000#32, fun w =>
        .ldaddb (w.extractLsb' 23 1) (w.extractLsb' 22 1) (w.extractLsb' 16 5) (w.extractLsb' 5 5)
          (w.extractLsb' 0 5)⟩,
    ⟨0xFF20FC00#32, 0x78200000#32, fun w =>
        .ldaddh (w.extractLsb' 23 1) (w.extractLsb' 22 1) (w.extractLsb' 16 5) (w.extractLsb' 5 5)
          (w.extractLsb' 0 5)⟩,
    ⟨0xBF20FC00#32, 0xB8200000#32, fun w =>
        .ldadd (w.extractLsb' 30 1) (w.extractLsb' 23 1) (w.extractLsb' 22 1) (w.extractLsb' 16 5)
          (w.extractLsb' 5 5) (w.extractLsb' 0 5)⟩,
    ⟨0xFF20FC00#32, 0x38201000#32, fun w =>
        .ldclrb (w.extractLsb' 23 1) (w.extractLsb' 22 1) (w.extractLsb' 16 5) (w.extractLsb' 5 5)
          (w.extractLsb' 0 5)⟩,
    ⟨0xFF20FC00#32, 0x78201000#32, fun w =>
        .ldclrh (w.extractLsb' 23 1) (w.extractLsb' 22 1) (w.extractLsb' 16 5) (w.extractLsb' 5 5)
          (w.extractLsb' 0 5)⟩,
    ⟨0xBF20FC00#32, 0xB8201000#32, fun w =>
        .ldclr (w.extractLsb' 30 1) (w.extractLsb' 23 1) (w.extractLsb' 22 1) (w.extractLsb' 16 5)
          (w.extractLsb' 5 5) (w.extractLsb' 0 5)⟩,
    ⟨0xFF20FC00#32, 0x38202000#32, fun w =>
        .ldeorb (w.extractLsb' 23 1) (w.extractLsb' 22 1) (w.extractLsb' 16 5) (w.extractLsb' 5 5)
          (w.extractLsb' 0 5)⟩,
    ⟨0xFF20FC00#32, 0x78202000#32, fun w =>
        .ldeorh (w.extractLsb' 23 1) (w.extractLsb' 22 1) (w.extractLsb' 16 5) (w.extractLsb' 5 5)
          (w.extractLsb' 0 5)⟩,
    ⟨0xBF20FC00#32, 0xB8202000#32, fun w =>
        .ldeor (w.extractLsb' 30 1) (w.extractLsb' 23 1) (w.extractLsb' 22 1) (w.extractLsb' 16 5)
          (w.extractLsb' 5 5) (w.extractLsb' 0 5)⟩,
    ⟨0xFF20FC00#32, 0x38203000#32, fun w =>
        .ldsetb (w.extractLsb' 23 1) (w.extractLsb' 22 1) (w.extractLsb' 16 5) (w.extractLsb' 5 5)
          (w.extractLsb' 0 5)⟩,
    ⟨0xFF20FC00#32, 0x78203000#32, fun w =>
        .ldseth (w.extractLsb' 23 1) (w.extractLsb' 22 1) (w.extractLsb' 16 5) (w.extractLsb' 5 5)
          (w.extractLsb' 0 5)⟩,
    ⟨0xBF20FC00#32, 0xB8203000#32, fun w =>
        .ldset (w.extractLsb' 30 1) (w.extractLsb' 23 1) (w.extractLsb' 22 1) (w.extractLsb' 16 5)
          (w.extractLsb' 5 5) (w.extractLsb' 0 5)⟩,
    ⟨0xFF20FC00#32, 0x38204000#32, fun w =>
        .ldsmaxb (w.extractLsb' 23 1) (w.extractLsb' 22 1) (w.extractLsb' 16 5) (w.extractLsb' 5 5)
          (w.extractLsb' 0 5)⟩,
    ⟨0xFF20FC00#32, 0x78204000#32, fun w =>
        .ldsmaxh (w.extractLsb' 23 1) (w.extractLsb' 22 1) (w.extractLsb' 16 5) (w.extractLsb' 5 5)
          (w.extractLsb' 0 5)⟩,
    ⟨0xBF20FC00#32, 0xB8204000#32, fun w =>
        .ldsmax (w.extractLsb' 30 1) (w.extractLsb' 23 1) (w.extractLsb' 22 1) (w.extractLsb' 16 5)
          (w.extractLsb' 5 5) (w.extractLsb' 0 5)⟩,
    ⟨0xFF20FC00#32, 0x38205000#32, fun w =>
        .ldsminb (w.extractLsb' 23 1) (w.extractLsb' 22 1) (w.extractLsb' 16 5) (w.extractLsb' 5 5)
          (w.extractLsb' 0 5)⟩,
    ⟨0xFF20FC00#32, 0x78205000#32, fun w =>
        .ldsminh (w.extractLsb' 23 1) (w.extractLsb' 22 1) (w.extractLsb' 16 5) (w.extractLsb' 5 5)
          (w.extractLsb' 0 5)⟩,
    ⟨0xBF20FC00#32, 0xB8205000#32, fun w =>
        .ldsmin (w.extractLsb' 30 1) (w.extractLsb' 23 1) (w.extractLsb' 22 1) (w.extractLsb' 16 5)
          (w.extractLsb' 5 5) (w.extractLsb' 0 5)⟩,
    ⟨0xFF20FC00#32, 0x38206000#32, fun w =>
        .ldumaxb (w.extractLsb' 23 1) (w.extractLsb' 22 1) (w.extractLsb' 16 5) (w.extractLsb' 5 5)
          (w.extractLsb' 0 5)⟩,
    ⟨0xFF20FC00#32, 0x78206000#32, fun w =>
        .ldumaxh (w.extractLsb' 23 1) (w.extractLsb' 22 1) (w.extractLsb' 16 5) (w.extractLsb' 5 5)
          (w.extractLsb' 0 5)⟩,
    ⟨0xBF20FC00#32, 0xB8206000#32, fun w =>
        .ldumax (w.extractLsb' 30 1) (w.extractLsb' 23 1) (w.extractLsb' 22 1) (w.extractLsb' 16 5)
          (w.extractLsb' 5 5) (w.extractLsb' 0 5)⟩,
    ⟨0xFF20FC00#32, 0x38207000#32, fun w =>
        .lduminb (w.extractLsb' 23 1) (w.extractLsb' 22 1) (w.extractLsb' 16 5) (w.extractLsb' 5 5)
          (w.extractLsb' 0 5)⟩,
    ⟨0xFF20FC00#32, 0x78207000#32, fun w =>
        .lduminh (w.extractLsb' 23 1) (w.extractLsb' 22 1) (w.extractLsb' 16 5) (w.extractLsb' 5 5)
          (w.extractLsb' 0 5)⟩,
    ⟨0xBF20FC00#32, 0xB8207000#32, fun w =>
        .ldumin (w.extractLsb' 30 1) (w.extractLsb' 23 1) (w.extractLsb' 22 1) (w.extractLsb' 16 5)
          (w.extractLsb' 5 5) (w.extractLsb' 0 5)⟩,
    ⟨0xFF20FC00#32, 0x38208000#32, fun w =>
        .swpb (w.extractLsb' 23 1) (w.extractLsb' 22 1) (w.extractLsb' 16 5) (w.extractLsb' 5 5) (w.extractLsb' 0 5)⟩,
    ⟨0xFF20FC00#32, 0x78208000#32, fun w =>
        .swph (w.extractLsb' 23 1) (w.extractLsb' 22 1) (w.extractLsb' 16 5) (w.extractLsb' 5 5) (w.extractLsb' 0 5)⟩,
    ⟨0xBF20FC00#32, 0xB8208000#32, fun w =>
        .swp (w.extractLsb' 30 1) (w.extractLsb' 23 1) (w.extractLsb' 22 1) (w.extractLsb' 16 5) (w.extractLsb' 5 5)
          (w.extractLsb' 0 5)⟩ ]

/-- System, exception generation and return (30 R180 to R182). -/
def systemRows : List Row :=
  [ ⟨0xFFE0001F#32, 0xD4200000#32, fun w => .brk (w.extractLsb' 5 16)⟩,
    ⟨0xFFFFF0FF#32, 0xD503305F#32, fun w => .clrex (w.extractLsb' 8 4)⟩,
    ⟨0xFFE0001F#32, 0xD4A00001#32, fun w => .dcps1 (w.extractLsb' 5 16)⟩,
    ⟨0xFFE0001F#32, 0xD4A00002#32, fun w => .dcps2 (w.extractLsb' 5 16)⟩,
    ⟨0xFFE0001F#32, 0xD4A00003#32, fun w => .dcps3 (w.extractLsb' 5 16)⟩,
    ⟨0xFFFFF0FF#32, 0xD50330BF#32, fun w => .dmb (w.extractLsb' 8 4)⟩,
    ⟨0xFFFFFFFF#32, 0xD6BF03E0#32, fun _ => .drps⟩,
    ⟨0xFFFFF0FF#32, 0xD503309F#32, fun w => .dsb (w.extractLsb' 8 4)⟩,
    ⟨0xFFFFFFFF#32, 0xD69F03E0#32, fun _ => .eret⟩,
    ⟨0xFFFFFFFF#32, 0xD503221F#32, fun _ => .esb⟩,
    ⟨0xFFE0001F#32, 0xD4400000#32, fun w => .hlt (w.extractLsb' 5 16)⟩,
    ⟨0xFFE0001F#32, 0xD4000002#32, fun w => .hvc (w.extractLsb' 5 16)⟩,
    ⟨0xFFFFF0FF#32, 0xD50330DF#32, fun w => .isb (w.extractLsb' 8 4)⟩,
    ⟨0xFFF00000#32, 0xD5300000#32, fun w =>
        .mrs (w.extractLsb' 19 1) (w.extractLsb' 16 3) (w.extractLsb' 12 4) (w.extractLsb' 8 4) (w.extractLsb' 5 3)
          (w.extractLsb' 0 5)⟩,
    ⟨0xFFF8F01F#32, 0xD500401F#32, fun w =>
        .msrImmediate (w.extractLsb' 16 3) (w.extractLsb' 8 4) (w.extractLsb' 5 3)⟩,
    ⟨0xFFF00000#32, 0xD5100000#32, fun w =>
        .msrRegister (w.extractLsb' 19 1) (w.extractLsb' 16 3) (w.extractLsb' 12 4) (w.extractLsb' 8 4)
          (w.extractLsb' 5 3) (w.extractLsb' 0 5)⟩,
    ⟨0xFFFFFFFF#32, 0xD503201F#32, fun _ => .nop⟩,
    ⟨0xFFFFFFFF#32, 0xD503223F#32, fun _ => .psbCsync⟩,
    ⟨0xFFFFFFFF#32, 0xD503209F#32, fun _ => .sev⟩,
    ⟨0xFFFFFFFF#32, 0xD50320BF#32, fun _ => .sevl⟩,
    ⟨0xFFE0001F#32, 0xD4000003#32, fun w => .smc (w.extractLsb' 5 16)⟩,
    ⟨0xFFE0001F#32, 0xD4000001#32, fun w => .svc (w.extractLsb' 5 16)⟩,
    ⟨0xFFF80000#32, 0xD5080000#32, fun w =>
        .sys (w.extractLsb' 16 3) (w.extractLsb' 12 4) (w.extractLsb' 8 4) (w.extractLsb' 5 3) (w.extractLsb' 0 5)⟩,
    ⟨0xFFF80000#32, 0xD5280000#32, fun w =>
        .sysl (w.extractLsb' 16 3) (w.extractLsb' 12 4) (w.extractLsb' 8 4) (w.extractLsb' 5 3) (w.extractLsb' 0 5)⟩,
    ⟨0xFFFFFFFF#32, 0xD503205F#32, fun _ => .wfe⟩,
    ⟨0xFFFFFFFF#32, 0xD503207F#32, fun _ => .wfi⟩,
    ⟨0xFFFFFFFF#32, 0xD503203F#32, fun _ => .yield⟩ ]

/-- The base rows but for the general HINT row (30 R145). -/
def decodeTable : List Row :=
  arithRows ++ logicalRows ++ shiftRows ++ condRows ++ mulDivRows ++ branchRows
    ++ loadStoreRows ++ pairRows ++ exclusiveRows ++ atomicRows ++ systemRows

/-- The general HINT row, which every named hint also matches and loses to (30 R145, R152). -/
def hintRow : Row := ⟨0xFFFFF01F#32, 0xD503201F#32, fun w => .hint (w.extractLsb' 8 4) (w.extractLsb' 5 3)⟩

/-- The row of a word, if it has one (30 R145). -/
def rowOf (w : Word) : Option Row :=
  match decodeTable.find? (fun r => r.hits w) with
  | some r => some r
  | none => if hintRow.hits w then some hintRow else none

/-- The instruction of a word (30 R145): the row, then the checks of its decode. -/
def decode (w : Word) : Except DecodeError Instr :=
  match rowOf w with
  | none => .error (.unallocated w)
  | some r => if (r.build w).wellFormed then .ok (r.build w) else .error (.reserved (r.build w))

/-- The instruction that four bytes hold, the lowest address least significant (30 R140; 20 R97). -/
def decodeBytes : List Byte → Except DecodeError Instr
  | [b0, b1, b2, b3] => decode (b3 ++ b2 ++ b1 ++ b0)
  | _ => .error .truncated

/-- The four bytes of an instruction whose low `nbits` bits are those of `w`, in the order of memory. -/
def tableBytes (nbits w : Nat) : List Byte :=
  let v := w % 2 ^ nbits
  [BitVec.ofNat 8 v, BitVec.ofNat 8 (v / 256), BitVec.ofNat 8 (v / 65536), BitVec.ofNat 8 (v / 16777216)]

/-- What the decoder reads from the bits of a row of the opcode table. -/
def decodeTableWord (nbits w : Nat) : Option Instr :=
  match decodeBytes (tableBytes nbits w) with
  | .ok i => some i
  | .error _ => none

/-! ## Encoding -/

/-- A field at its place in the word. -/
def put {n : Nat} (lo : Nat) (f : BitVec n) : Word := f.setWidth 32 <<< lo

/-- The word of an instruction (30 R160 to R196), its should-be-one bits ones. -/
def encode : Instr → Word
  | .adc sf rm rn rd => 0x1A000000#32 ||| put 31 sf ||| put 16 rm ||| put 5 rn ||| put 0 rd
  | .adcs sf rm rn rd => 0x3A000000#32 ||| put 31 sf ||| put 16 rm ||| put 5 rn ||| put 0 rd
  | .addExtendedRegister sf rm option imm3 rn rd =>
    0x0B200000#32 ||| put 31 sf ||| put 16 rm ||| put 13 option ||| put 10 imm3 ||| put 5 rn ||| put 0 rd
  | .addImmediate sf shift imm12 rn rd =>
    0x11000000#32 ||| put 31 sf ||| put 22 shift ||| put 10 imm12 ||| put 5 rn ||| put 0 rd
  | .addShiftedRegister sf shift rm imm6 rn rd =>
    0x0B000000#32 ||| put 31 sf ||| put 22 shift ||| put 16 rm ||| put 10 imm6 ||| put 5 rn ||| put 0 rd
  | .addsExtendedRegister sf rm option imm3 rn rd =>
    0x2B200000#32 ||| put 31 sf ||| put 16 rm ||| put 13 option ||| put 10 imm3 ||| put 5 rn ||| put 0 rd
  | .addsImmediate sf shift imm12 rn rd =>
    0x31000000#32 ||| put 31 sf ||| put 22 shift ||| put 10 imm12 ||| put 5 rn ||| put 0 rd
  | .addsShiftedRegister sf shift rm imm6 rn rd =>
    0x2B000000#32 ||| put 31 sf ||| put 22 shift ||| put 16 rm ||| put 10 imm6 ||| put 5 rn ||| put 0 rd
  | .adr immlo immhi rd => 0x10000000#32 ||| put 29 immlo ||| put 5 immhi ||| put 0 rd
  | .adrp immlo immhi rd => 0x90000000#32 ||| put 29 immlo ||| put 5 immhi ||| put 0 rd
  | .andImmediate sf n immr imms rn rd =>
    0x12000000#32 ||| put 31 sf ||| put 22 n ||| put 16 immr ||| put 10 imms ||| put 5 rn ||| put 0 rd
  | .andShiftedRegister sf shift rm imm6 rn rd =>
    0x0A000000#32 ||| put 31 sf ||| put 22 shift ||| put 16 rm ||| put 10 imm6 ||| put 5 rn ||| put 0 rd
  | .andsImmediate sf n immr imms rn rd =>
    0x72000000#32 ||| put 31 sf ||| put 22 n ||| put 16 immr ||| put 10 imms ||| put 5 rn ||| put 0 rd
  | .andsShiftedRegister sf shift rm imm6 rn rd =>
    0x6A000000#32 ||| put 31 sf ||| put 22 shift ||| put 16 rm ||| put 10 imm6 ||| put 5 rn ||| put 0 rd
  | .asrv sf rm rn rd => 0x1AC02800#32 ||| put 31 sf ||| put 16 rm ||| put 5 rn ||| put 0 rd
  | .bCond imm19 cond => 0x54000000#32 ||| put 5 imm19 ||| put 0 cond
  | .b imm26 => 0x14000000#32 ||| put 0 imm26
  | .bfm sf n immr imms rn rd =>
    0x33000000#32 ||| put 31 sf ||| put 22 n ||| put 16 immr ||| put 10 imms ||| put 5 rn ||| put 0 rd
  | .bicShiftedRegister sf shift rm imm6 rn rd =>
    0x0A200000#32 ||| put 31 sf ||| put 22 shift ||| put 16 rm ||| put 10 imm6 ||| put 5 rn ||| put 0 rd
  | .bicsShiftedRegister sf shift rm imm6 rn rd =>
    0x6A200000#32 ||| put 31 sf ||| put 22 shift ||| put 16 rm ||| put 10 imm6 ||| put 5 rn ||| put 0 rd
  | .bl imm26 => 0x94000000#32 ||| put 0 imm26
  | .blr rn => 0xD63F0000#32 ||| put 5 rn
  | .br rn => 0xD61F0000#32 ||| put 5 rn
  | .brk imm16 => 0xD4200000#32 ||| put 5 imm16
  | .casb l rs o0 rn rt => 0x08A07C00#32 ||| put 22 l ||| put 16 rs ||| put 15 o0 ||| put 5 rn ||| put 0 rt
  | .cash l rs o0 rn rt => 0x48A07C00#32 ||| put 22 l ||| put 16 rs ||| put 15 o0 ||| put 5 rn ||| put 0 rt
  | .casp sz l rs o0 rn rt =>
    0x08207C00#32 ||| put 30 sz ||| put 22 l ||| put 16 rs ||| put 15 o0 ||| put 5 rn ||| put 0 rt
  | .cas size0 l rs o0 rn rt =>
    0x88A07C00#32 ||| put 30 size0 ||| put 22 l ||| put 16 rs ||| put 15 o0 ||| put 5 rn ||| put 0 rt
  | .cbnz sf imm19 rt => 0x35000000#32 ||| put 31 sf ||| put 5 imm19 ||| put 0 rt
  | .cbz sf imm19 rt => 0x34000000#32 ||| put 31 sf ||| put 5 imm19 ||| put 0 rt
  | .ccmnImmediate sf imm5 cond rn nzcv =>
    0x3A400800#32 ||| put 31 sf ||| put 16 imm5 ||| put 12 cond ||| put 5 rn ||| put 0 nzcv
  | .ccmnRegister sf rm cond rn nzcv =>
    0x3A400000#32 ||| put 31 sf ||| put 16 rm ||| put 12 cond ||| put 5 rn ||| put 0 nzcv
  | .ccmpImmediate sf imm5 cond rn nzcv =>
    0x7A400800#32 ||| put 31 sf ||| put 16 imm5 ||| put 12 cond ||| put 5 rn ||| put 0 nzcv
  | .ccmpRegister sf rm cond rn nzcv =>
    0x7A400000#32 ||| put 31 sf ||| put 16 rm ||| put 12 cond ||| put 5 rn ||| put 0 nzcv
  | .clrex crm => 0xD503305F#32 ||| put 8 crm
  | .cls sf rn rd => 0x5AC01400#32 ||| put 31 sf ||| put 5 rn ||| put 0 rd
  | .clz sf rn rd => 0x5AC01000#32 ||| put 31 sf ||| put 5 rn ||| put 0 rd
  | .crc32 sf rm sz rn rd => 0x1AC04000#32 ||| put 31 sf ||| put 16 rm ||| put 10 sz ||| put 5 rn ||| put 0 rd
  | .crc32c sf rm sz rn rd => 0x1AC05000#32 ||| put 31 sf ||| put 16 rm ||| put 10 sz ||| put 5 rn ||| put 0 rd
  | .csel sf rm cond rn rd => 0x1A800000#32 ||| put 31 sf ||| put 16 rm ||| put 12 cond ||| put 5 rn ||| put 0 rd
  | .csinc sf rm cond rn rd => 0x1A800400#32 ||| put 31 sf ||| put 16 rm ||| put 12 cond ||| put 5 rn ||| put 0 rd
  | .csinv sf rm cond rn rd => 0x5A800000#32 ||| put 31 sf ||| put 16 rm ||| put 12 cond ||| put 5 rn ||| put 0 rd
  | .csneg sf rm cond rn rd => 0x5A800400#32 ||| put 31 sf ||| put 16 rm ||| put 12 cond ||| put 5 rn ||| put 0 rd
  | .dcps1 imm16 => 0xD4A00001#32 ||| put 5 imm16
  | .dcps2 imm16 => 0xD4A00002#32 ||| put 5 imm16
  | .dcps3 imm16 => 0xD4A00003#32 ||| put 5 imm16
  | .dmb crm => 0xD50330BF#32 ||| put 8 crm
  | .drps => 0xD6BF03E0#32
  | .dsb crm => 0xD503309F#32 ||| put 8 crm
  | .eonShiftedRegister sf shift rm imm6 rn rd =>
    0x4A200000#32 ||| put 31 sf ||| put 22 shift ||| put 16 rm ||| put 10 imm6 ||| put 5 rn ||| put 0 rd
  | .eorImmediate sf n immr imms rn rd =>
    0x52000000#32 ||| put 31 sf ||| put 22 n ||| put 16 immr ||| put 10 imms ||| put 5 rn ||| put 0 rd
  | .eorShiftedRegister sf shift rm imm6 rn rd =>
    0x4A000000#32 ||| put 31 sf ||| put 22 shift ||| put 16 rm ||| put 10 imm6 ||| put 5 rn ||| put 0 rd
  | .eret => 0xD69F03E0#32
  | .esb => 0xD503221F#32
  | .extr sf n rm imms rn rd =>
    0x13800000#32 ||| put 31 sf ||| put 22 n ||| put 16 rm ||| put 10 imms ||| put 5 rn ||| put 0 rd
  | .hint crm op2 => 0xD503201F#32 ||| put 8 crm ||| put 5 op2
  | .hlt imm16 => 0xD4400000#32 ||| put 5 imm16
  | .hvc imm16 => 0xD4000002#32 ||| put 5 imm16
  | .isb crm => 0xD50330DF#32 ||| put 8 crm
  | .ldaddb a r rs rn rt => 0x38200000#32 ||| put 23 a ||| put 22 r ||| put 16 rs ||| put 5 rn ||| put 0 rt
  | .ldaddh a r rs rn rt => 0x78200000#32 ||| put 23 a ||| put 22 r ||| put 16 rs ||| put 5 rn ||| put 0 rt
  | .ldadd size0 a r rs rn rt =>
    0xB8200000#32 ||| put 30 size0 ||| put 23 a ||| put 22 r ||| put 16 rs ||| put 5 rn ||| put 0 rt
  | .ldar size0 rn rt => 0x88DFFC00#32 ||| put 30 size0 ||| put 5 rn ||| put 0 rt
  | .ldarb rn rt => 0x08DFFC00#32 ||| put 5 rn ||| put 0 rt
  | .ldarh rn rt => 0x48DFFC00#32 ||| put 5 rn ||| put 0 rt
  | .ldaxp sz rt2 rn rt => 0x887F8000#32 ||| put 30 sz ||| put 10 rt2 ||| put 5 rn ||| put 0 rt
  | .ldaxr size0 rn rt => 0x885FFC00#32 ||| put 30 size0 ||| put 5 rn ||| put 0 rt
  | .ldaxrb rn rt => 0x085FFC00#32 ||| put 5 rn ||| put 0 rt
  | .ldaxrh rn rt => 0x485FFC00#32 ||| put 5 rn ||| put 0 rt
  | .ldclrb a r rs rn rt => 0x38201000#32 ||| put 23 a ||| put 22 r ||| put 16 rs ||| put 5 rn ||| put 0 rt
  | .ldclrh a r rs rn rt => 0x78201000#32 ||| put 23 a ||| put 22 r ||| put 16 rs ||| put 5 rn ||| put 0 rt
  | .ldclr size0 a r rs rn rt =>
    0xB8201000#32 ||| put 30 size0 ||| put 23 a ||| put 22 r ||| put 16 rs ||| put 5 rn ||| put 0 rt
  | .ldeorb a r rs rn rt => 0x38202000#32 ||| put 23 a ||| put 22 r ||| put 16 rs ||| put 5 rn ||| put 0 rt
  | .ldeorh a r rs rn rt => 0x78202000#32 ||| put 23 a ||| put 22 r ||| put 16 rs ||| put 5 rn ||| put 0 rt
  | .ldeor size0 a r rs rn rt =>
    0xB8202000#32 ||| put 30 size0 ||| put 23 a ||| put 22 r ||| put 16 rs ||| put 5 rn ||| put 0 rt
  | .ldlarb rn rt => 0x08DF7C00#32 ||| put 5 rn ||| put 0 rt
  | .ldlarh rn rt => 0x48DF7C00#32 ||| put 5 rn ||| put 0 rt
  | .ldlar size0 rn rt => 0x88DF7C00#32 ||| put 30 size0 ||| put 5 rn ||| put 0 rt
  | .ldnp opc1 imm7 rt2 rn rt =>
    0x28400000#32 ||| put 31 opc1 ||| put 15 imm7 ||| put 10 rt2 ||| put 5 rn ||| put 0 rt
  | .ldpPostIndex opc1 imm7 rt2 rn rt =>
    0x28C00000#32 ||| put 31 opc1 ||| put 15 imm7 ||| put 10 rt2 ||| put 5 rn ||| put 0 rt
  | .ldpPreIndex opc1 imm7 rt2 rn rt =>
    0x29C00000#32 ||| put 31 opc1 ||| put 15 imm7 ||| put 10 rt2 ||| put 5 rn ||| put 0 rt
  | .ldpSignedOffset opc1 imm7 rt2 rn rt =>
    0x29400000#32 ||| put 31 opc1 ||| put 15 imm7 ||| put 10 rt2 ||| put 5 rn ||| put 0 rt
  | .ldpswPostIndex imm7 rt2 rn rt => 0x68C00000#32 ||| put 15 imm7 ||| put 10 rt2 ||| put 5 rn ||| put 0 rt
  | .ldpswPreIndex imm7 rt2 rn rt => 0x69C00000#32 ||| put 15 imm7 ||| put 10 rt2 ||| put 5 rn ||| put 0 rt
  | .ldpswSignedOffset imm7 rt2 rn rt => 0x69400000#32 ||| put 15 imm7 ||| put 10 rt2 ||| put 5 rn ||| put 0 rt
  | .ldrImmediatePostIndex size0 imm9 rn rt =>
    0xB8400400#32 ||| put 30 size0 ||| put 12 imm9 ||| put 5 rn ||| put 0 rt
  | .ldrImmediatePreIndex size0 imm9 rn rt => 0xB8400C00#32 ||| put 30 size0 ||| put 12 imm9 ||| put 5 rn ||| put 0 rt
  | .ldrImmediateUnsignedOffset size0 imm12 rn rt =>
    0xB9400000#32 ||| put 30 size0 ||| put 10 imm12 ||| put 5 rn ||| put 0 rt
  | .ldrLiteral opc0 imm19 rt => 0x18000000#32 ||| put 30 opc0 ||| put 5 imm19 ||| put 0 rt
  | .ldrRegister size0 rm option s1 rn rt =>
    0xB8600800#32 ||| put 30 size0 ||| put 16 rm ||| put 13 option ||| put 12 s1 ||| put 5 rn ||| put 0 rt
  | .ldrbImmediatePostIndex imm9 rn rt => 0x38400400#32 ||| put 12 imm9 ||| put 5 rn ||| put 0 rt
  | .ldrbImmediatePreIndex imm9 rn rt => 0x38400C00#32 ||| put 12 imm9 ||| put 5 rn ||| put 0 rt
  | .ldrbImmediateUnsignedOffset imm12 rn rt => 0x39400000#32 ||| put 10 imm12 ||| put 5 rn ||| put 0 rt
  | .ldrbRegister rm option s1 rn rt =>
    0x38600800#32 ||| put 16 rm ||| put 13 option ||| put 12 s1 ||| put 5 rn ||| put 0 rt
  | .ldrhImmediatePostIndex imm9 rn rt => 0x78400400#32 ||| put 12 imm9 ||| put 5 rn ||| put 0 rt
  | .ldrhImmediatePreIndex imm9 rn rt => 0x78400C00#32 ||| put 12 imm9 ||| put 5 rn ||| put 0 rt
  | .ldrhImmediateUnsignedOffset imm12 rn rt => 0x79400000#32 ||| put 10 imm12 ||| put 5 rn ||| put 0 rt
  | .ldrhRegister rm option s1 rn rt =>
    0x78600800#32 ||| put 16 rm ||| put 13 option ||| put 12 s1 ||| put 5 rn ||| put 0 rt
  | .ldrsbImmediatePostIndex opc0 imm9 rn rt =>
    0x38800400#32 ||| put 22 opc0 ||| put 12 imm9 ||| put 5 rn ||| put 0 rt
  | .ldrsbImmediatePreIndex opc0 imm9 rn rt => 0x38800C00#32 ||| put 22 opc0 ||| put 12 imm9 ||| put 5 rn ||| put 0 rt
  | .ldrsbImmediateUnsignedOffset opc0 imm12 rn rt =>
    0x39800000#32 ||| put 22 opc0 ||| put 10 imm12 ||| put 5 rn ||| put 0 rt
  | .ldrsbRegister opc0 rm option s1 rn rt =>
    0x38A00800#32 ||| put 22 opc0 ||| put 16 rm ||| put 13 option ||| put 12 s1 ||| put 5 rn ||| put 0 rt
  | .ldrshImmediatePostIndex opc0 imm9 rn rt =>
    0x78800400#32 ||| put 22 opc0 ||| put 12 imm9 ||| put 5 rn ||| put 0 rt
  | .ldrshImmediatePreIndex opc0 imm9 rn rt => 0x78800C00#32 ||| put 22 opc0 ||| put 12 imm9 ||| put 5 rn ||| put 0 rt
  | .ldrshImmediateUnsignedOffset opc0 imm12 rn rt =>
    0x79800000#32 ||| put 22 opc0 ||| put 10 imm12 ||| put 5 rn ||| put 0 rt
  | .ldrshRegister opc0 rm option s1 rn rt =>
    0x78A00800#32 ||| put 22 opc0 ||| put 16 rm ||| put 13 option ||| put 12 s1 ||| put 5 rn ||| put 0 rt
  | .ldrswImmediatePostIndex imm9 rn rt => 0xB8800400#32 ||| put 12 imm9 ||| put 5 rn ||| put 0 rt
  | .ldrswImmediatePreIndex imm9 rn rt => 0xB8800C00#32 ||| put 12 imm9 ||| put 5 rn ||| put 0 rt
  | .ldrswImmediateUnsignedOffset imm12 rn rt => 0xB9800000#32 ||| put 10 imm12 ||| put 5 rn ||| put 0 rt
  | .ldrswLiteral imm19 rt => 0x98000000#32 ||| put 5 imm19 ||| put 0 rt
  | .ldrswRegister rm option s1 rn rt =>
    0xB8A00800#32 ||| put 16 rm ||| put 13 option ||| put 12 s1 ||| put 5 rn ||| put 0 rt
  | .ldsetb a r rs rn rt => 0x38203000#32 ||| put 23 a ||| put 22 r ||| put 16 rs ||| put 5 rn ||| put 0 rt
  | .ldseth a r rs rn rt => 0x78203000#32 ||| put 23 a ||| put 22 r ||| put 16 rs ||| put 5 rn ||| put 0 rt
  | .ldset size0 a r rs rn rt =>
    0xB8203000#32 ||| put 30 size0 ||| put 23 a ||| put 22 r ||| put 16 rs ||| put 5 rn ||| put 0 rt
  | .ldsmaxb a r rs rn rt => 0x38204000#32 ||| put 23 a ||| put 22 r ||| put 16 rs ||| put 5 rn ||| put 0 rt
  | .ldsmaxh a r rs rn rt => 0x78204000#32 ||| put 23 a ||| put 22 r ||| put 16 rs ||| put 5 rn ||| put 0 rt
  | .ldsmax size0 a r rs rn rt =>
    0xB8204000#32 ||| put 30 size0 ||| put 23 a ||| put 22 r ||| put 16 rs ||| put 5 rn ||| put 0 rt
  | .ldsminb a r rs rn rt => 0x38205000#32 ||| put 23 a ||| put 22 r ||| put 16 rs ||| put 5 rn ||| put 0 rt
  | .ldsminh a r rs rn rt => 0x78205000#32 ||| put 23 a ||| put 22 r ||| put 16 rs ||| put 5 rn ||| put 0 rt
  | .ldsmin size0 a r rs rn rt =>
    0xB8205000#32 ||| put 30 size0 ||| put 23 a ||| put 22 r ||| put 16 rs ||| put 5 rn ||| put 0 rt
  | .ldtr size0 imm9 rn rt => 0xB8400800#32 ||| put 30 size0 ||| put 12 imm9 ||| put 5 rn ||| put 0 rt
  | .ldtrb imm9 rn rt => 0x38400800#32 ||| put 12 imm9 ||| put 5 rn ||| put 0 rt
  | .ldtrh imm9 rn rt => 0x78400800#32 ||| put 12 imm9 ||| put 5 rn ||| put 0 rt
  | .ldtrsb opc0 imm9 rn rt => 0x38800800#32 ||| put 22 opc0 ||| put 12 imm9 ||| put 5 rn ||| put 0 rt
  | .ldtrsh opc0 imm9 rn rt => 0x78800800#32 ||| put 22 opc0 ||| put 12 imm9 ||| put 5 rn ||| put 0 rt
  | .ldtrsw imm9 rn rt => 0xB8800800#32 ||| put 12 imm9 ||| put 5 rn ||| put 0 rt
  | .ldumaxb a r rs rn rt => 0x38206000#32 ||| put 23 a ||| put 22 r ||| put 16 rs ||| put 5 rn ||| put 0 rt
  | .ldumaxh a r rs rn rt => 0x78206000#32 ||| put 23 a ||| put 22 r ||| put 16 rs ||| put 5 rn ||| put 0 rt
  | .ldumax size0 a r rs rn rt =>
    0xB8206000#32 ||| put 30 size0 ||| put 23 a ||| put 22 r ||| put 16 rs ||| put 5 rn ||| put 0 rt
  | .lduminb a r rs rn rt => 0x38207000#32 ||| put 23 a ||| put 22 r ||| put 16 rs ||| put 5 rn ||| put 0 rt
  | .lduminh a r rs rn rt => 0x78207000#32 ||| put 23 a ||| put 22 r ||| put 16 rs ||| put 5 rn ||| put 0 rt
  | .ldumin size0 a r rs rn rt =>
    0xB8207000#32 ||| put 30 size0 ||| put 23 a ||| put 22 r ||| put 16 rs ||| put 5 rn ||| put 0 rt
  | .ldur size0 imm9 rn rt => 0xB8400000#32 ||| put 30 size0 ||| put 12 imm9 ||| put 5 rn ||| put 0 rt
  | .ldurb imm9 rn rt => 0x38400000#32 ||| put 12 imm9 ||| put 5 rn ||| put 0 rt
  | .ldurh imm9 rn rt => 0x78400000#32 ||| put 12 imm9 ||| put 5 rn ||| put 0 rt
  | .ldursb opc0 imm9 rn rt => 0x38800000#32 ||| put 22 opc0 ||| put 12 imm9 ||| put 5 rn ||| put 0 rt
  | .ldursh opc0 imm9 rn rt => 0x78800000#32 ||| put 22 opc0 ||| put 12 imm9 ||| put 5 rn ||| put 0 rt
  | .ldursw imm9 rn rt => 0xB8800000#32 ||| put 12 imm9 ||| put 5 rn ||| put 0 rt
  | .ldxp sz rt2 rn rt => 0x887F0000#32 ||| put 30 sz ||| put 10 rt2 ||| put 5 rn ||| put 0 rt
  | .ldxr size0 rn rt => 0x885F7C00#32 ||| put 30 size0 ||| put 5 rn ||| put 0 rt
  | .ldxrb rn rt => 0x085F7C00#32 ||| put 5 rn ||| put 0 rt
  | .ldxrh rn rt => 0x485F7C00#32 ||| put 5 rn ||| put 0 rt
  | .lslv sf rm rn rd => 0x1AC02000#32 ||| put 31 sf ||| put 16 rm ||| put 5 rn ||| put 0 rd
  | .lsrv sf rm rn rd => 0x1AC02400#32 ||| put 31 sf ||| put 16 rm ||| put 5 rn ||| put 0 rd
  | .madd sf rm ra rn rd => 0x1B000000#32 ||| put 31 sf ||| put 16 rm ||| put 10 ra ||| put 5 rn ||| put 0 rd
  | .movk sf hw imm16 rd => 0x72800000#32 ||| put 31 sf ||| put 21 hw ||| put 5 imm16 ||| put 0 rd
  | .movn sf hw imm16 rd => 0x12800000#32 ||| put 31 sf ||| put 21 hw ||| put 5 imm16 ||| put 0 rd
  | .movz sf hw imm16 rd => 0x52800000#32 ||| put 31 sf ||| put 21 hw ||| put 5 imm16 ||| put 0 rd
  | .mrs o0 op1 crn crm op2 rt =>
    0xD5300000#32 ||| put 19 o0 ||| put 16 op1 ||| put 12 crn ||| put 8 crm ||| put 5 op2 ||| put 0 rt
  | .msrImmediate op1 crm op2 => 0xD500401F#32 ||| put 16 op1 ||| put 8 crm ||| put 5 op2
  | .msrRegister o0 op1 crn crm op2 rt =>
    0xD5100000#32 ||| put 19 o0 ||| put 16 op1 ||| put 12 crn ||| put 8 crm ||| put 5 op2 ||| put 0 rt
  | .msub sf rm ra rn rd => 0x1B008000#32 ||| put 31 sf ||| put 16 rm ||| put 10 ra ||| put 5 rn ||| put 0 rd
  | .nop => 0xD503201F#32
  | .ornShiftedRegister sf shift rm imm6 rn rd =>
    0x2A200000#32 ||| put 31 sf ||| put 22 shift ||| put 16 rm ||| put 10 imm6 ||| put 5 rn ||| put 0 rd
  | .orrImmediate sf n immr imms rn rd =>
    0x32000000#32 ||| put 31 sf ||| put 22 n ||| put 16 immr ||| put 10 imms ||| put 5 rn ||| put 0 rd
  | .orrShiftedRegister sf shift rm imm6 rn rd =>
    0x2A000000#32 ||| put 31 sf ||| put 22 shift ||| put 16 rm ||| put 10 imm6 ||| put 5 rn ||| put 0 rd
  | .prfmImmediate imm12 rn rt => 0xF9800000#32 ||| put 10 imm12 ||| put 5 rn ||| put 0 rt
  | .prfmLiteral imm19 rt => 0xD8000000#32 ||| put 5 imm19 ||| put 0 rt
  | .prfmRegister rm option s1 rn rt =>
    0xF8A00800#32 ||| put 16 rm ||| put 13 option ||| put 12 s1 ||| put 5 rn ||| put 0 rt
  | .prfum imm9 rn rt => 0xF8800000#32 ||| put 12 imm9 ||| put 5 rn ||| put 0 rt
  | .psbCsync => 0xD503223F#32
  | .rbit sf rn rd => 0x5AC00000#32 ||| put 31 sf ||| put 5 rn ||| put 0 rd
  | .ret rn => 0xD65F0000#32 ||| put 5 rn
  | .rev32Bit rn rd => 0x5AC00800#32 ||| put 5 rn ||| put 0 rd
  | .rev64Bit rn rd => 0xDAC00C00#32 ||| put 5 rn ||| put 0 rd
  | .rev16 sf rn rd => 0x5AC00400#32 ||| put 31 sf ||| put 5 rn ||| put 0 rd
  | .rev32 rn rd => 0xDAC00800#32 ||| put 5 rn ||| put 0 rd
  | .rorv sf rm rn rd => 0x1AC02C00#32 ||| put 31 sf ||| put 16 rm ||| put 5 rn ||| put 0 rd
  | .sbc sf rm rn rd => 0x5A000000#32 ||| put 31 sf ||| put 16 rm ||| put 5 rn ||| put 0 rd
  | .sbcs sf rm rn rd => 0x7A000000#32 ||| put 31 sf ||| put 16 rm ||| put 5 rn ||| put 0 rd
  | .sbfm sf n immr imms rn rd =>
    0x13000000#32 ||| put 31 sf ||| put 22 n ||| put 16 immr ||| put 10 imms ||| put 5 rn ||| put 0 rd
  | .sdiv sf rm rn rd => 0x1AC00C00#32 ||| put 31 sf ||| put 16 rm ||| put 5 rn ||| put 0 rd
  | .sev => 0xD503209F#32
  | .sevl => 0xD50320BF#32
  | .smaddl rm ra rn rd => 0x9B200000#32 ||| put 16 rm ||| put 10 ra ||| put 5 rn ||| put 0 rd
  | .smc imm16 => 0xD4000003#32 ||| put 5 imm16
  | .smsubl rm ra rn rd => 0x9B208000#32 ||| put 16 rm ||| put 10 ra ||| put 5 rn ||| put 0 rd
  | .smulh rm rn rd => 0x9B407C00#32 ||| put 16 rm ||| put 5 rn ||| put 0 rd
  | .stllrb rn rt => 0x089F7C00#32 ||| put 5 rn ||| put 0 rt
  | .stllrh rn rt => 0x489F7C00#32 ||| put 5 rn ||| put 0 rt
  | .stllr size0 rn rt => 0x889F7C00#32 ||| put 30 size0 ||| put 5 rn ||| put 0 rt
  | .stlr size0 rn rt => 0x889FFC00#32 ||| put 30 size0 ||| put 5 rn ||| put 0 rt
  | .stlrb rn rt => 0x089FFC00#32 ||| put 5 rn ||| put 0 rt
  | .stlrh rn rt => 0x489FFC00#32 ||| put 5 rn ||| put 0 rt
  | .stlxp sz rs rt2 rn rt => 0x88208000#32 ||| put 30 sz ||| put 16 rs ||| put 10 rt2 ||| put 5 rn ||| put 0 rt
  | .stlxr size0 rs rn rt => 0x8800FC00#32 ||| put 30 size0 ||| put 16 rs ||| put 5 rn ||| put 0 rt
  | .stlxrb rs rn rt => 0x0800FC00#32 ||| put 16 rs ||| put 5 rn ||| put 0 rt
  | .stlxrh rs rn rt => 0x4800FC00#32 ||| put 16 rs ||| put 5 rn ||| put 0 rt
  | .stnp opc1 imm7 rt2 rn rt =>
    0x28000000#32 ||| put 31 opc1 ||| put 15 imm7 ||| put 10 rt2 ||| put 5 rn ||| put 0 rt
  | .stpPostIndex opc1 imm7 rt2 rn rt =>
    0x28800000#32 ||| put 31 opc1 ||| put 15 imm7 ||| put 10 rt2 ||| put 5 rn ||| put 0 rt
  | .stpPreIndex opc1 imm7 rt2 rn rt =>
    0x29800000#32 ||| put 31 opc1 ||| put 15 imm7 ||| put 10 rt2 ||| put 5 rn ||| put 0 rt
  | .stpSignedOffset opc1 imm7 rt2 rn rt =>
    0x29000000#32 ||| put 31 opc1 ||| put 15 imm7 ||| put 10 rt2 ||| put 5 rn ||| put 0 rt
  | .strImmediatePostIndex size0 imm9 rn rt =>
    0xB8000400#32 ||| put 30 size0 ||| put 12 imm9 ||| put 5 rn ||| put 0 rt
  | .strImmediatePreIndex size0 imm9 rn rt => 0xB8000C00#32 ||| put 30 size0 ||| put 12 imm9 ||| put 5 rn ||| put 0 rt
  | .strImmediateUnsignedOffset size0 imm12 rn rt =>
    0xB9000000#32 ||| put 30 size0 ||| put 10 imm12 ||| put 5 rn ||| put 0 rt
  | .strRegister size0 rm option s1 rn rt =>
    0xB8200800#32 ||| put 30 size0 ||| put 16 rm ||| put 13 option ||| put 12 s1 ||| put 5 rn ||| put 0 rt
  | .strbImmediatePostIndex imm9 rn rt => 0x38000400#32 ||| put 12 imm9 ||| put 5 rn ||| put 0 rt
  | .strbImmediatePreIndex imm9 rn rt => 0x38000C00#32 ||| put 12 imm9 ||| put 5 rn ||| put 0 rt
  | .strbImmediateUnsignedOffset imm12 rn rt => 0x39000000#32 ||| put 10 imm12 ||| put 5 rn ||| put 0 rt
  | .strbRegister rm option s1 rn rt =>
    0x38200800#32 ||| put 16 rm ||| put 13 option ||| put 12 s1 ||| put 5 rn ||| put 0 rt
  | .strhImmediatePostIndex imm9 rn rt => 0x78000400#32 ||| put 12 imm9 ||| put 5 rn ||| put 0 rt
  | .strhImmediatePreIndex imm9 rn rt => 0x78000C00#32 ||| put 12 imm9 ||| put 5 rn ||| put 0 rt
  | .strhImmediateUnsignedOffset imm12 rn rt => 0x79000000#32 ||| put 10 imm12 ||| put 5 rn ||| put 0 rt
  | .strhRegister rm option s1 rn rt =>
    0x78200800#32 ||| put 16 rm ||| put 13 option ||| put 12 s1 ||| put 5 rn ||| put 0 rt
  | .sttr size0 imm9 rn rt => 0xB8000800#32 ||| put 30 size0 ||| put 12 imm9 ||| put 5 rn ||| put 0 rt
  | .sttrb imm9 rn rt => 0x38000800#32 ||| put 12 imm9 ||| put 5 rn ||| put 0 rt
  | .sttrh imm9 rn rt => 0x78000800#32 ||| put 12 imm9 ||| put 5 rn ||| put 0 rt
  | .stur size0 imm9 rn rt => 0xB8000000#32 ||| put 30 size0 ||| put 12 imm9 ||| put 5 rn ||| put 0 rt
  | .sturb imm9 rn rt => 0x38000000#32 ||| put 12 imm9 ||| put 5 rn ||| put 0 rt
  | .sturh imm9 rn rt => 0x78000000#32 ||| put 12 imm9 ||| put 5 rn ||| put 0 rt
  | .stxp sz rs rt2 rn rt => 0x88200000#32 ||| put 30 sz ||| put 16 rs ||| put 10 rt2 ||| put 5 rn ||| put 0 rt
  | .stxr size0 rs rn rt => 0x88007C00#32 ||| put 30 size0 ||| put 16 rs ||| put 5 rn ||| put 0 rt
  | .stxrb rs rn rt => 0x08007C00#32 ||| put 16 rs ||| put 5 rn ||| put 0 rt
  | .stxrh rs rn rt => 0x48007C00#32 ||| put 16 rs ||| put 5 rn ||| put 0 rt
  | .subExtendedRegister sf rm option imm3 rn rd =>
    0x4B200000#32 ||| put 31 sf ||| put 16 rm ||| put 13 option ||| put 10 imm3 ||| put 5 rn ||| put 0 rd
  | .subImmediate sf shift imm12 rn rd =>
    0x51000000#32 ||| put 31 sf ||| put 22 shift ||| put 10 imm12 ||| put 5 rn ||| put 0 rd
  | .subShiftedRegister sf shift rm imm6 rn rd =>
    0x4B000000#32 ||| put 31 sf ||| put 22 shift ||| put 16 rm ||| put 10 imm6 ||| put 5 rn ||| put 0 rd
  | .subsExtendedRegister sf rm option imm3 rn rd =>
    0x6B200000#32 ||| put 31 sf ||| put 16 rm ||| put 13 option ||| put 10 imm3 ||| put 5 rn ||| put 0 rd
  | .subsImmediate sf shift imm12 rn rd =>
    0x71000000#32 ||| put 31 sf ||| put 22 shift ||| put 10 imm12 ||| put 5 rn ||| put 0 rd
  | .subsShiftedRegister sf shift rm imm6 rn rd =>
    0x6B000000#32 ||| put 31 sf ||| put 22 shift ||| put 16 rm ||| put 10 imm6 ||| put 5 rn ||| put 0 rd
  | .svc imm16 => 0xD4000001#32 ||| put 5 imm16
  | .swpb a r rs rn rt => 0x38208000#32 ||| put 23 a ||| put 22 r ||| put 16 rs ||| put 5 rn ||| put 0 rt
  | .swph a r rs rn rt => 0x78208000#32 ||| put 23 a ||| put 22 r ||| put 16 rs ||| put 5 rn ||| put 0 rt
  | .swp size0 a r rs rn rt =>
    0xB8208000#32 ||| put 30 size0 ||| put 23 a ||| put 22 r ||| put 16 rs ||| put 5 rn ||| put 0 rt
  | .sys op1 crn crm op2 rt => 0xD5080000#32 ||| put 16 op1 ||| put 12 crn ||| put 8 crm ||| put 5 op2 ||| put 0 rt
  | .sysl op1 crn crm op2 rt => 0xD5280000#32 ||| put 16 op1 ||| put 12 crn ||| put 8 crm ||| put 5 op2 ||| put 0 rt
  | .tbnz b5 b40 imm14 rt => 0x37000000#32 ||| put 31 b5 ||| put 19 b40 ||| put 5 imm14 ||| put 0 rt
  | .tbz b5 b40 imm14 rt => 0x36000000#32 ||| put 31 b5 ||| put 19 b40 ||| put 5 imm14 ||| put 0 rt
  | .ubfm sf n immr imms rn rd =>
    0x53000000#32 ||| put 31 sf ||| put 22 n ||| put 16 immr ||| put 10 imms ||| put 5 rn ||| put 0 rd
  | .udiv sf rm rn rd => 0x1AC00800#32 ||| put 31 sf ||| put 16 rm ||| put 5 rn ||| put 0 rd
  | .umaddl rm ra rn rd => 0x9BA00000#32 ||| put 16 rm ||| put 10 ra ||| put 5 rn ||| put 0 rd
  | .umsubl rm ra rn rd => 0x9BA08000#32 ||| put 16 rm ||| put 10 ra ||| put 5 rn ||| put 0 rd
  | .umulh rm rn rd => 0x9BC07C00#32 ||| put 16 rm ||| put 5 rn ||| put 0 rd
  | .wfe => 0xD503205F#32
  | .wfi => 0xD503207F#32
  | .yield => 0xD503203F#32
  | .asrRegister sf rm rn rd => 0x1AC02800#32 ||| put 31 sf ||| put 16 rm ||| put 5 rn ||| put 0 rd
  | .asrImmediate sf n immr imms5 rn rd =>
    0x13007C00#32 ||| put 31 sf ||| put 22 n ||| put 16 immr ||| put 15 imms5 ||| put 5 rn ||| put 0 rd
  | .sysAt op1 crm0 op2 rt => 0xD5087800#32 ||| put 16 op1 ||| put 8 crm0 ||| put 5 op2 ||| put 0 rt
  | .bfc sf n immr imms rd => 0x330003E0#32 ||| put 31 sf ||| put 22 n ||| put 16 immr ||| put 10 imms ||| put 0 rd
  | .bfi sf n immr imms rn rd =>
    0x33000000#32 ||| put 31 sf ||| put 22 n ||| put 16 immr ||| put 10 imms ||| put 5 rn ||| put 0 rd
  | .bfxil sf n immr imms rn rd =>
    0x33000000#32 ||| put 31 sf ||| put 22 n ||| put 16 immr ||| put 10 imms ||| put 5 rn ||| put 0 rd
  | .cinc sf rm cond rn rd => 0x1A800400#32 ||| put 31 sf ||| put 16 rm ||| put 12 cond ||| put 5 rn ||| put 0 rd
  | .cinv sf rm cond rn rd => 0x5A800000#32 ||| put 31 sf ||| put 16 rm ||| put 12 cond ||| put 5 rn ||| put 0 rd
  | .cmnExtendedRegister sf rm option imm3 rn =>
    0x2B20001F#32 ||| put 31 sf ||| put 16 rm ||| put 13 option ||| put 10 imm3 ||| put 5 rn
  | .cmnImmediate sf shift imm12 rn => 0x3100001F#32 ||| put 31 sf ||| put 22 shift ||| put 10 imm12 ||| put 5 rn
  | .cmnShiftedRegister sf shift rm imm6 rn =>
    0x2B00001F#32 ||| put 31 sf ||| put 22 shift ||| put 16 rm ||| put 10 imm6 ||| put 5 rn
  | .cmpExtendedRegister sf rm option imm3 rn =>
    0x6B20001F#32 ||| put 31 sf ||| put 16 rm ||| put 13 option ||| put 10 imm3 ||| put 5 rn
  | .cmpImmediate sf shift imm12 rn => 0x7100001F#32 ||| put 31 sf ||| put 22 shift ||| put 10 imm12 ||| put 5 rn
  | .cmpShiftedRegister sf shift rm imm6 rn =>
    0x6B00001F#32 ||| put 31 sf ||| put 22 shift ||| put 16 rm ||| put 10 imm6 ||| put 5 rn
  | .cneg sf rm cond rn rd => 0x5A800400#32 ||| put 31 sf ||| put 16 rm ||| put 12 cond ||| put 5 rn ||| put 0 rd
  | .cset sf cond rd => 0x1A9F07E0#32 ||| put 31 sf ||| put 12 cond ||| put 0 rd
  | .csetm sf cond rd => 0x5A9F03E0#32 ||| put 31 sf ||| put 12 cond ||| put 0 rd
  | .sysDc op1 crm op2 rt => 0xD5087000#32 ||| put 16 op1 ||| put 8 crm ||| put 5 op2 ||| put 0 rt
  | .sysIc op1 crm op2 rt => 0xD5087000#32 ||| put 16 op1 ||| put 8 crm ||| put 5 op2 ||| put 0 rt
  | .lslRegister sf rm rn rd => 0x1AC02000#32 ||| put 31 sf ||| put 16 rm ||| put 5 rn ||| put 0 rd
  | .lslImmediate sf n immr imms rn rd =>
    0x53000000#32 ||| put 31 sf ||| put 22 n ||| put 16 immr ||| put 10 imms ||| put 5 rn ||| put 0 rd
  | .lsrRegister sf rm rn rd => 0x1AC02400#32 ||| put 31 sf ||| put 16 rm ||| put 5 rn ||| put 0 rd
  | .lsrImmediate sf n immr imms5 rn rd =>
    0x53007C00#32 ||| put 31 sf ||| put 22 n ||| put 16 immr ||| put 15 imms5 ||| put 5 rn ||| put 0 rd
  | .mneg sf rm rn rd => 0x1B00FC00#32 ||| put 31 sf ||| put 16 rm ||| put 5 rn ||| put 0 rd
  | .movToFromSP sf rn rd => 0x11000000#32 ||| put 31 sf ||| put 5 rn ||| put 0 rd
  | .movInvertedWideImmediate sf hw imm16 rd => 0x12800000#32 ||| put 31 sf ||| put 21 hw ||| put 5 imm16 ||| put 0 rd
  | .movWideImmediate sf hw imm16 rd => 0x52800000#32 ||| put 31 sf ||| put 21 hw ||| put 5 imm16 ||| put 0 rd
  | .movBitmaskImmediate sf n immr imms rd =>
    0x320003E0#32 ||| put 31 sf ||| put 22 n ||| put 16 immr ||| put 10 imms ||| put 0 rd
  | .movRegister sf rm rd => 0x2A0003E0#32 ||| put 31 sf ||| put 16 rm ||| put 0 rd
  | .mul sf rm rn rd => 0x1B007C00#32 ||| put 31 sf ||| put 16 rm ||| put 5 rn ||| put 0 rd
  | .mvn sf shift rm imm6 rd =>
    0x2A2003E0#32 ||| put 31 sf ||| put 22 shift ||| put 16 rm ||| put 10 imm6 ||| put 0 rd
  | .negShiftedRegister sf shift rm imm6 rd =>
    0x4B0003E0#32 ||| put 31 sf ||| put 22 shift ||| put 16 rm ||| put 10 imm6 ||| put 0 rd
  | .negs sf shift rm imm6 rd =>
    0x6B0003E0#32 ||| put 31 sf ||| put 22 shift ||| put 16 rm ||| put 10 imm6 ||| put 0 rd
  | .ngc sf rm rd => 0x5A0003E0#32 ||| put 31 sf ||| put 16 rm ||| put 0 rd
  | .ngcs sf rm rd => 0x7A0003E0#32 ||| put 31 sf ||| put 16 rm ||| put 0 rd
  | .rev64 rn rd => 0xDAC00C00#32 ||| put 5 rn ||| put 0 rd
  | .rorImmediate sf n rm imms rn rd =>
    0x13800000#32 ||| put 31 sf ||| put 22 n ||| put 16 rm ||| put 10 imms ||| put 5 rn ||| put 0 rd
  | .rorRegister sf rm rn rd => 0x1AC02C00#32 ||| put 31 sf ||| put 16 rm ||| put 5 rn ||| put 0 rd
  | .sbfiz sf n immr imms rn rd =>
    0x13000000#32 ||| put 31 sf ||| put 22 n ||| put 16 immr ||| put 10 imms ||| put 5 rn ||| put 0 rd
  | .sbfx sf n immr imms rn rd =>
    0x13000000#32 ||| put 31 sf ||| put 22 n ||| put 16 immr ||| put 10 imms ||| put 5 rn ||| put 0 rd
  | .smnegl rm rn rd => 0x9B20FC00#32 ||| put 16 rm ||| put 5 rn ||| put 0 rd
  | .smull rm rn rd => 0x9B207C00#32 ||| put 16 rm ||| put 5 rn ||| put 0 rd
  | .staddb r rs rn => 0x3820001F#32 ||| put 22 r ||| put 16 rs ||| put 5 rn
  | .staddh r rs rn => 0x7820001F#32 ||| put 22 r ||| put 16 rs ||| put 5 rn
  | .stadd size0 r rs rn => 0xB820001F#32 ||| put 30 size0 ||| put 22 r ||| put 16 rs ||| put 5 rn
  | .stclrb r rs rn => 0x3820101F#32 ||| put 22 r ||| put 16 rs ||| put 5 rn
  | .stclrh r rs rn => 0x7820101F#32 ||| put 22 r ||| put 16 rs ||| put 5 rn
  | .stclr size0 r rs rn => 0xB820101F#32 ||| put 30 size0 ||| put 22 r ||| put 16 rs ||| put 5 rn
  | .steorb r rs rn => 0x3820201F#32 ||| put 22 r ||| put 16 rs ||| put 5 rn
  | .steorh r rs rn => 0x7820201F#32 ||| put 22 r ||| put 16 rs ||| put 5 rn
  | .steor size0 r rs rn => 0xB820201F#32 ||| put 30 size0 ||| put 22 r ||| put 16 rs ||| put 5 rn
  | .stsetb r rs rn => 0x3820301F#32 ||| put 22 r ||| put 16 rs ||| put 5 rn
  | .stseth r rs rn => 0x7820301F#32 ||| put 22 r ||| put 16 rs ||| put 5 rn
  | .stset size0 r rs rn => 0xB820301F#32 ||| put 30 size0 ||| put 22 r ||| put 16 rs ||| put 5 rn
  | .stsmaxb r rs rn => 0x3820401F#32 ||| put 22 r ||| put 16 rs ||| put 5 rn
  | .stsmaxh r rs rn => 0x7820401F#32 ||| put 22 r ||| put 16 rs ||| put 5 rn
  | .stsmax size0 r rs rn => 0xB820401F#32 ||| put 30 size0 ||| put 22 r ||| put 16 rs ||| put 5 rn
  | .stsminb r rs rn => 0x3820501F#32 ||| put 22 r ||| put 16 rs ||| put 5 rn
  | .stsminh r rs rn => 0x7820501F#32 ||| put 22 r ||| put 16 rs ||| put 5 rn
  | .stsmin size0 r rs rn => 0xB820501F#32 ||| put 30 size0 ||| put 22 r ||| put 16 rs ||| put 5 rn
  | .stumaxb r rs rn => 0x3820601F#32 ||| put 22 r ||| put 16 rs ||| put 5 rn
  | .stumaxh r rs rn => 0x7820601F#32 ||| put 22 r ||| put 16 rs ||| put 5 rn
  | .stumax size0 r rs rn => 0xB820601F#32 ||| put 30 size0 ||| put 22 r ||| put 16 rs ||| put 5 rn
  | .stuminb r rs rn => 0x3820701F#32 ||| put 22 r ||| put 16 rs ||| put 5 rn
  | .stuminh r rs rn => 0x7820701F#32 ||| put 22 r ||| put 16 rs ||| put 5 rn
  | .stumin size0 r rs rn => 0xB820701F#32 ||| put 30 size0 ||| put 22 r ||| put 16 rs ||| put 5 rn
  | .sxtb sf n rn rd => 0x13001C00#32 ||| put 31 sf ||| put 22 n ||| put 5 rn ||| put 0 rd
  | .sxth sf n rn rd => 0x13003C00#32 ||| put 31 sf ||| put 22 n ||| put 5 rn ||| put 0 rd
  | .sxtw rn rd => 0x93407C00#32 ||| put 5 rn ||| put 0 rd
  | .sysTlbi op1 crm op2 rt => 0xD5088000#32 ||| put 16 op1 ||| put 8 crm ||| put 5 op2 ||| put 0 rt
  | .tstImmediate sf n immr imms rn =>
    0x7200001F#32 ||| put 31 sf ||| put 22 n ||| put 16 immr ||| put 10 imms ||| put 5 rn
  | .tstShiftedRegister sf shift rm imm6 rn =>
    0x6A00001F#32 ||| put 31 sf ||| put 22 shift ||| put 16 rm ||| put 10 imm6 ||| put 5 rn
  | .ubfiz sf n immr imms rn rd =>
    0x53000000#32 ||| put 31 sf ||| put 22 n ||| put 16 immr ||| put 10 imms ||| put 5 rn ||| put 0 rd
  | .ubfx sf n immr imms rn rd =>
    0x53000000#32 ||| put 31 sf ||| put 22 n ||| put 16 immr ||| put 10 imms ||| put 5 rn ||| put 0 rd
  | .umnegl rm rn rd => 0x9BA0FC00#32 ||| put 16 rm ||| put 5 rn ||| put 0 rd
  | .umull rm rn rd => 0x9BA07C00#32 ||| put 16 rm ||| put 5 rn ||| put 0 rd
  | .uxtb rn rd => 0x53001C00#32 ||| put 5 rn ||| put 0 rd
  | .uxth rn rd => 0x53003C00#32 ||| put 5 rn ||| put 0 rd

end Sys2Proof
end

