-- ==== Sys2Proof/Machine/Fetch.lean ====
section
/-! DEFINITION. Instruction fetch (20 R97, R103; 60 R803, R810, R813, R814). -/

namespace Sys2Proof.Machine

/-- The checks before an instruction is decoded, in their order: PC alignment, translation, permission, illegal execution
state (60 R803; log 32, 35). -/
def State.checkFetch (s : State) : Except Exc Unit :=
  if s.pc.extractLsb' 0 2 ≠ 0#2 then .error .pcAlignment
  else if (firstByte (fun b => !s.mapped b) s.pc 4).isSome then .error (.instructionAbort s.pc .translation)
  else if (firstByte (fun b => !s.platformAllows s.p.el .execute b) s.pc 4).isSome then
    .error (.instructionAbort s.pc .permission)
  else if s.p.il then .error .illegalState
  else .ok ()

/-- The four bytes at the pc, the lowest address first (30 R140). -/
def State.fetchBytes (s : State) : List Byte :=
  [s.mem.byte s.pc, s.mem.byte (s.pc + 1#64), s.mem.byte (s.pc + 2#64), s.mem.byte (s.pc + 3#64)]

/-- The instruction at the pc, or the exception that its fetch or its decode raises (30 R145, R149). -/
def State.fetch (s : State) : Except Exc Instr :=
  match s.checkFetch with
  | .error e => .error e
  | .ok _ =>
    match decodeBytes s.fetchBytes with
    | .ok i => .ok i
    | .error _ => .error .undefined

/-- A WFI at the pc completes before an interrupt that is due is taken (49 R715), unless the last step was an exception
entry or an ERET (60 R822, R840) or such a WFI (log 37). -/
def State.waitCompletesFirst (s : State) : Bool :=
  !s.interruptFirst && match s.fetch with
    | .ok .wfi => true
    | _ => false

/-- What a step does when interrupt `k` is due: it takes it, with the pc as the return address (60 R803(1), R822), but a WFI
at the pc completes first and leaves it to the next step (49 R715). -/
def State.interrupted (s : State) (k : Interrupt) : State :=
  if s.waitCompletesFirst then s.completeWait else s.takeInterrupt k s.pc

/-- Memory with bytes stored one after the other from an address. -/
def Memory.setBytes (m : Memory) (a : Addr) : List Byte → Memory
  | [] => m
  | b :: rest => Memory.setBytes (m.setByte a b) (a + 1#64) rest

end Sys2Proof.Machine
end

