-- ==== Sys2Proof/Machine/Step.lean ====
section
/-! DEFINITION. One step: one instruction or one exception entry (60 R803; 70 R872). -/

namespace Sys2Proof.Machine

/-- The instruction at the pc, run (60 R803(2) to (8)). -/
def State.runInstruction (s : State) : Host.Outcome State Fault Refusal :=
  match s.fetch with
  | .error e => raise s e
  | .ok i => exec i s

/-- One step (60 R803): the environment acts, then an interrupt that is due has its turn or the instruction at the pc
runs. In Debug state the run has ended (60 R844). -/
def step (s : State) : Host.Outcome State Fault Refusal :=
  if s.halted then .fault .halted
  else
    match s.environment.nextInterrupt with
    | some k => .next (s.environment.interrupted k)
    | none => s.environment.startStep.runInstruction

/-- `s` with an instruction stored where the next step fetches, at the pc (log 26). -/
def State.withFetchWord (s : State) (nbits w : Nat) : State :=
  { s with mem := s.mem.setBytes s.pc (tableBytes nbits w) }

end Sys2Proof.Machine
end

