-- ==== Sys2Proof/Safety.lean ====
section
/-! DEFINITION. The words of the statements: what an instruction writes and what it leaves alone, when an access is allowed,
and what a legal state is. None of them is used by the machine. -/

namespace Sys2Proof.Machine

/-! ## What an instruction writes -/

/-- Everything but general registers, stack pointers, PSTATE, pc, monitor and memory is the same: parameters, event register,
inputs, debug state, every system and exception register, and the model's own fields. -/
structure SameSystem (s t : State) : Prop where
  cfg : t.cfg = s.cfg
  event : t.event = s.event
  irqPending : t.irqPending = s.irqPending
  fiqPending : t.fiqPending = s.fiqPending
  serrorPending : t.serrorPending = s.serrorPending
  serrorIss : t.serrorIss = s.serrorIss
  vserrorPending : t.vserrorPending = s.vserrorPending
  vserrorIss : t.vserrorIss = s.vserrorIss
  halted : t.halted = s.halted
  edscr : t.edscr = s.edscr
  haltingAllowed : t.haltingAllowed = s.haltingAllowed
  el1 : t.el1 = s.el1
  el2 : t.el2 = s.el2
  el3 : t.el3 = s.el3
  hcr : t.hcr = s.hcr
  scr : t.scr = s.scr
  dlr : t.dlr = s.dlr
  dspsr : t.dspsr = s.dspsr
  disr : t.disr = s.disr
  vdisr : t.vdisr = s.vdisr
  par : t.par = s.par
  tpidr : t.tpidr = s.tpidr
  extra : t.extra = s.extra
  draws : t.draws = s.draws
  env : t.env = s.env
  interruptFirst : t.interruptFirst = s.interruptFirst

/-- What an instruction writes. What is `none` keeps its value, but the pc, which then goes to the next instruction. -/
structure Writes where
  reg : Reg → Option DWord := fun _ => none
  sp : Option DWord := none
  pstate : Option PState := none
  pc : Option Addr := none
  monitor : Option (Option Mark) := none
  mem : Addr → Option Byte := fun _ => none

/-- `t` is `s` after exactly the given writes. A write to register 31 has no effect, and reading it gives 0 (10 R42, R43);
`sp` is the stack pointer in use in `s` (10 R45); every register, every byte of memory and every field that is not written
keeps its value. -/
structure State.Becomes (s : State) (w : Writes) (t : State) : Prop where
  reg : ∀ r, r ≠ 31#5 → t.readX r = (w.reg r).getD (s.readX r)
  zero : t.readX 31#5 = 0#64
  sp : ∀ level, t.spOf level = if level = s.spLevel then w.sp.getD (s.spOf level) else s.spOf level
  pstate : t.p = w.pstate.getD s.p
  pc : t.pc = w.pc.getD (s.pc + 4#64)
  monitor : t.monitor = w.monitor.getD s.monitor
  mem : ∀ a, t.mem.byte a = (w.mem a).getD (s.mem.byte a)
  system : SameSystem s t

/-- Nothing but the pc, which goes to the next instruction. -/
def Writes.nothing : Writes := {}

/-- Nothing but the pc, which goes to `target`. -/
def Writes.jump (target : Addr) : Writes := { pc := some target }

/-- One register; a narrower value is zero-extended (10 R43). -/
def Writes.toReg {n : Nat} (rd : Reg) (v : BitVec n) : Writes :=
  { reg := fun r => if r = rd then some (v.setWidth 64) else none }

/-- One register, or the stack pointer for number 31 (10 R41). -/
def Writes.toXsp {n : Nat} (rd : Reg) (v : BitVec n) : Writes :=
  if rd = 31#5 then { sp := some (v.setWidth 64) } else .toReg rd v

/-- Two registers, the second written last. -/
def Writes.toRegs {n : Nat} (r1 r2 : Reg) (v1 v2 : BitVec n) : Writes :=
  { reg := fun r => if r = r2 then some (v2.setWidth 64) else if r = r1 then some (v1.setWidth 64) else none }

/-- The same writes, and the base register or stack pointer of a form with writeback. -/
def Writes.base (w : Writes) (rn : Reg) (a : Addr) : Writes :=
  if rn = 31#5 then { w with sp := some a } else { w with reg := fun r => if r = rn then some a else w.reg r }

/-- The same writes, and the four flags: N and Z of a result, C and V as given; the rest of PSTATE stays (10 R49). -/
def Writes.flags {n : Nat} (w : Writes) (s : State) (result : BitVec n) (c v : Bool) : Writes :=
  { w with pstate := some { s.p with n := result.msb, z := decide (result = 0#n), c := c, v := v } }

/-- The same writes, and the first `n` bytes of `v` stored at `a`, in the byte order of the state (20 R93): the byte at `b`
is written exactly if `b - a` is below `n`. -/
def Writes.store {m : Nat} (w : Writes) (s : State) (a : Addr) (n : Nat) (v : BitVec m) : Writes :=
  { w with mem := fun b =>
      if (b - a).toNat < n then some (byteOf v (if s.bigEndian then n - 1 - (b - a).toNat else (b - a).toNat))
      else w.mem b }

/-- The same writes, and the local monitor. -/
def Writes.mark (w : Writes) (m : Option Mark) : Writes := { w with monitor := some m }

/-- `i` completes: `exec` answers a next state, which is `s` with exactly the given writes. -/
def Completes (i : Instr) (s : State) (w : Writes) : Prop := ∃ t, exec i s = .next t ∧ s.Becomes w t

/-- `i` completes with exactly the given writes, but for the count of UNKNOWN values: for the forms whose writes hold some. -/
def CompletesDrawing (i : Instr) (s : State) (w : Writes) : Prop :=
  ∃ t, exec i s = .next t ∧ s.Becomes w { t with draws := s.draws }

/-- `i` takes exception `e` and has no other effect (60 R800). In Debug state an Undefined is not taken, and nothing changes
(49 R706; log 23). -/
def Traps (i : Instr) (s : State) (e : Exc) : Prop :=
  exec i s = .next (if s.halted = true ∧ e = .undefined then s else s.takeSync e)

/-! ## Exception entry and return -/

/-- `t` is `s` after an exception entry to `target` (60 R830): what the registers of `target`, PSTATE and the pc become. An
`esr` of `none` keeps ESR, an UNKNOWN FAR may be anything, an interrupt that is then due comes before the first instruction
(60 R822; log 37), and all that no field names keeps its value. -/
structure State.Enters (s : State) (target : EL) (esr : Option DWord) (far : FarEffect) (ret : Addr) (vect : BitVec 11)
    (t : State) : Prop where
  flags : (t.elRegs target).spsr.extractLsb' 28 4
    = BitVec.ofBool s.p.n ++ BitVec.ofBool s.p.z ++ BitVec.ofBool s.p.c ++ BitVec.ofBool s.p.v
  extensions : (t.elRegs target).spsr.extractLsb' 20 4
    = BitVec.ofBool s.p.uao ++ BitVec.ofBool s.p.pan ++ BitVec.ofBool s.p.ss ++ BitVec.ofBool s.p.il
  masks : (t.elRegs target).spsr.extractLsb' 6 4
    = BitVec.ofBool s.p.d ++ BitVec.ofBool s.p.a ++ BitVec.ofBool s.p.i ++ BitVec.ofBool s.p.f
  mode : (t.elRegs target).spsr.extractLsb' 0 5 = 0#1 ++ s.p.el.bits ++ 0#1 ++ BitVec.ofBool s.p.sp
  reserved : (t.elRegs target).spsr &&& ~~~0xF0F003DF#64 = 0#64
  elr : (t.elRegs target).elr = ret
  esr : (t.elRegs target).esr = esr.getD (s.elRegs target).esr
  far : match far with
    | .keep => (t.elRegs target).far = (s.elRegs target).far
    | .address a => (t.elRegs target).far = a
    | .unknown => True
  pstate : t.p =
    { s.p with
      el := target, sp := true, d := true, a := true, i := true, f := true, ss := false, il := false,
      pan := if s.cfg.havePAN ∧ (target = .el1 ∨ target = .el2 ∧ s.inHostAt .el2)
          ∧ (s.elRegs target).sctlr.getLsbD 23 = false then true else s.p.pan
      uao := if s.cfg.haveUAO then false else s.p.uao }
  pc : t.pc = (s.elRegs target).vbar.extractLsb' 11 53 ++ (vect +
    if s.p.el.toNat < target.toNat then 0x400#11 else if s.p.sp then 0x200#11 else 0#11)
  monitor : t.monitor = none
  control : (t.elRegs target).vbar = (s.elRegs target).vbar ∧ (t.elRegs target).sctlr = (s.elRegs target).sctlr
  interruptFirst : t.interruptFirst = true
  rest : t = { s.setElRegs target (t.elRegs target) with
    p := t.p, pc := t.pc, monitor := t.monitor, draws := t.draws, interruptFirst := t.interruptFirst }

/-- A return from `spsr` is illegal, by the cases (a) to (g) of 60 R841. -/
abbrev State.ReturnIsIllegal (s : State) (spsr : DWord) : Prop :=
  s.p.el.toNat < (spsr.extractLsb' 2 2).toNat
    ∨ s.cfg.haveEL (EL.ofBits (spsr.extractLsb' 2 2)) = false
    ∨ spsr.getLsbD 4 = true
    ∨ spsr.getLsbD 1 = true
    ∨ spsr.extractLsb' 0 4 = 1#4
    ∨ (spsr.extractLsb' 2 2 = 2#2 ∧ s.p.el = .el3 ∧ s.scr.getLsbD 0 = false)
    ∨ (spsr.extractLsb' 2 2 = 1#2 ∧ s.cfg.haveEL2 = true ∧ (s.cfg.haveEL3 = false ∨ s.scr.getLsbD 0 = true)
      ∧ s.hcr.getLsbD 27 = true)

/-! ## When an access is allowed -/

/-- A base register can be used: number 31, the stack pointer, is a multiple of 16 or its alignment is not checked
(10 R46). -/
abbrev State.BaseReady (s : State) (rn : Reg) : Prop :=
  rn = 31#5 → s.sp.extractLsb' 0 4 = 0#4 ∨
    (if s.p.el = .el0 then s.el1.sctlr.getLsbD 4 = false else (s.elRegs s.p.el).sctlr.getLsbD 3 = false)

/-- Host mode, in the words of 60 R804: `HCR_EL2.E2H` (bit 34) at EL2, with `TGE` (bit 27) too at EL0; EL2 implemented with
the host extensions, and the PE Non-secure. -/
abbrev State.HostMode (s : State) : Prop :=
  s.cfg.haveVHE = true ∧ s.cfg.haveEL2 = true ∧ ¬(s.cfg.haveEL3 = true ∧ (s.p.el = .el3 ∨ s.scr.getLsbD 0 = false)) ∧
    s.hcr.getLsbD 34 = true ∧ (s.p.el = .el2 ∨ s.p.el = .el0 ∧ s.hcr.getLsbD 27 = true)

/-- The SCTLR of the current level; EL0 has that of EL1, or of EL2 in host mode (20 R95, R100; log 16). -/
abbrev State.control (s : State) : DWord :=
  match s.p.el with
  | .el0 => if s.HostMode then s.el2.sctlr else s.el1.sctlr
  | .el1 => s.el1.sctlr
  | .el2 => s.el2.sctlr
  | .el3 => s.el3.sctlr

/-- Data accesses are big-endian, in the words of 20 R95: E0E (bit 24) at EL0, EE (bit 25) above. -/
abbrev State.BigEndianData (s : State) : Prop :=
  s.cfg.bigEndianSupported = true ∧ (if s.p.el = .el0 then s.control.getLsbD 24 else s.control.getLsbD 25) = true

/-- An access of `n` bytes at `a` is aligned, or need not be: only the ordinary access types need not, and only if SCTLR.A
(bit 1) is 0 (20 R100). -/
abbrev State.Aligned (s : State) (a : Addr) (n : Nat) (acc : AccType) : Prop :=
  a.toNat % n = 0 ∨ ((acc = .normal ∨ acc = .stream ∨ acc = .unpriv) ∧ s.control.getLsbD 1 = false)

/-- The level whose rights an access has: the current one, but EL0 for an unprivileged access at EL1, or at EL2 with
`HCR_EL2.{E2H, TGE}` = {1, 1}, unless UAO lifts that (20 R113). -/
abbrev State.rightsLevel (s : State) (acc : AccType) : EL :=
  if acc = .unpriv ∧ (s.p.el = .el1 ∨ (s.p.el = .el2 ∧ s.HostMode ∧ s.hcr.getLsbD 27 = true))
      ∧ ¬(s.cfg.haveUAO = true ∧ s.p.uao = true) then .el0
  else s.p.el

/-- A data access to a byte is permitted: `P_PERM` allows it, and PAN does not deny it, which it does for an access at EL1, or
at EL2 in host mode, that EL0 may make too (20 R114; log 28). -/
abbrev State.Permitted (s : State) (acc : AccType) (kind : AccessKind) (a : Addr) : Prop :=
  s.platformAllows (s.rightsLevel acc) kind a = true ∧
    ¬(s.p.pan = true ∧ acc ≠ .unpriv ∧ (s.p.el = .el1 ∨ (s.p.el = .el2 ∧ s.HostMode)) ∧
      s.platformAllows .el0 kind a = true)

/-- An access of `n` bytes at `a` is allowed: aligned if it must be (20 R100), every byte mapped (20 R110) and permitted
(20 R114). -/
abbrev State.Allowed (s : State) (a : Addr) (n : Nat) (acc : AccType) (kind : AccessKind) : Prop :=
  s.Aligned a n acc ∧
    ∀ k, k < n → s.mapped (a + BitVec.ofNat 64 k) = true ∧ s.Permitted acc kind (a + BitVec.ofNat 64 k)

/-! ## Legal states -/

/-- The registers of a level hold 0 where the spec says RES0: VBAR bits 10:0 (60 R833), and the endianness bits of SCTLR
without big-endian support (20 R95). -/
structure ELRegs.Legal (c : Config) (r : ELRegs) : Prop where
  vbar : r.vbar.extractLsb' 0 11 = 0#11
  sctlr : c.bigEndianSupported = false → r.sctlr.extractLsb' 24 2 = 0#2

/-- A state that keeps what the spec says of every state: memory in its canonical form, an implemented level (60 R804), EL2
only in Non-secure state (60 R804), SP_EL0 in use at EL0 (10 R45; 60 R841), SS held at 0 (60 R816), PAN and UAO 0 without
their features (00 R6), and the RES0 bits of the banked registers. -/
structure State.Legal (s : State) : Prop where
  memory : s.mem.wf
  level : s.cfg.haveEL s.p.el = true
  el2 : s.p.el = .el2 → s.el2Acts = true
  sp : s.p.el = .el0 → s.p.sp = false
  ss : s.p.ss = false
  pan : s.cfg.havePAN = false → s.p.pan = false
  uao : s.cfg.haveUAO = false → s.p.uao = false
  el1Regs : s.el1.Legal s.cfg
  el2Regs : s.el2.Legal s.cfg
  el3Regs : s.el3.Legal s.cfg

end Sys2Proof.Machine
end

