-- ==== Sys2Proof/Certificates/Slice0/Obligations.lean ====
section
/-! DEFINITION. The statements for the provers. Each says what the spec says of an instruction or of the machine. A statement
that an instruction completes gives the whole next state: what its `Writes` names is written, and everything else is kept
(`State.Becomes`). Statements about stores have the canonical form of memory as a premise, which every step keeps
(`StepKeepsLegal`). -/

namespace Sys2Proof.Forms

open Sys2Proof.Machine

/-! ## Values -/

/-- A second operand shifted by an amount below its width (00 R14). -/
def shifted {n : Nat} (v : BitVec n) (shift : BitVec 2) (amount : Nat) : BitVec n :=
  if shift = 0#2 then v <<< amount
  else if shift = 1#2 then v >>> amount
  else if shift = 2#2 then v.sshiftRight amount
  else v.rotateRight amount

/-- A second operand extended from its low byte, halfword, word or doubleword and then shifted (00 R15). -/
def extended {n : Nat} (v : BitVec n) (option : BitVec 3) (amount : Nat) : BitVec n :=
  (if option = 0#3 then (v.setWidth 8).setWidth n
    else if option = 1#3 then (v.setWidth 16).setWidth n
    else if option = 2#3 then (v.setWidth 32).setWidth n
    else if option = 4#3 then (v.setWidth 8).signExtend n
    else if option = 5#3 then (v.setWidth 16).signExtend n
    else if option = 6#3 then (v.setWidth 32).signExtend n
    else v) <<< amount

/-- A value with zeros above it. -/
def zx {n : Nat} (v : BitVec n) : DWord := v.setWidth 64

/-- A value with its sign above it, to 64 bits, or to 32 bits and zeros above those if `opc<0>` is 1 (46 R460). -/
def sx (opc0 : BitVec 1) {n : Nat} (v : BitVec n) : DWord :=
  if opc0 = 1#1 then (v.signExtend 32).setWidth 64 else v.signExtend 64

/-- The field that UBFM moves (42 R332): bits `imms` to `immr` to the bottom, or bits `imms` to 0 to bit `n - immr`. -/
def unsignedField {n : Nat} (x : BitVec n) (immr imms : Nat) : BitVec n :=
  if immr ≤ imms then ((x >>> immr).setWidth (imms - immr + 1)).setWidth n
  else (x.setWidth (imms + 1)).setWidth n <<< (n - immr)

/-- The field that SBFM moves, with its sign above it (42 R326). -/
def signedField {n : Nat} (x : BitVec n) (immr imms : Nat) : BitVec n :=
  if immr ≤ imms then ((x >>> immr).setWidth (imms - immr + 1)).signExtend n
  else (x.setWidth (imms + 1)).signExtend n <<< (n - immr)

/-- `old` with the field that BFM moves (42 R306): the bits of the field come from `x`, the others stay. -/
def insertedField {n : Nat} (old x : BitVec n) (immr imms : Nat) : BitVec n :=
  (old &&& ~~~unsignedField (BitVec.allOnes n) immr imms) ||| unsignedField x immr imms

/-- A carry as a number. -/
def carryIn {n : Nat} (c : Bool) : BitVec n := BitVec.ofNat n c.toNat

/-- The offset of a branch or literal: a count of words (45 R430; 46 R463). -/
def words {n : Nat} (imm : BitVec n) : Addr := BitVec.ofInt 64 (4 * imm.toInt)

/-- The product of two polynomials over the two-element field, without its bits from `n` on. -/
def polyMul {n : Nat} (q p : BitVec n) : BitVec n := below n
where
  /-- The part of the product that the bits of `q` below `k` give. -/
  below : Nat → BitVec n
  | 0 => 0#n
  | k + 1 => below k ^^^ (if q.getLsbD k then p <<< k else 0#n)

/-- `r` is the remainder of `data` divided by the polynomial `x^32 + poly` (00 R19): `data` is a multiple of it, and `r`. -/
def IsRemainder {n : Nat} (data : BitVec n) (poly r : BitVec 32) : Prop :=
  ∃ q : BitVec n, q.toNat < 2 ^ (n - 32) ∧ data = polyMul q ((1#1 ++ poly).setWidth n) ^^^ r.setWidth n

/-- A deferred SError, as a layout of DISR_EL1 or VDISR_EL2 holds it: with the default layout A in bit 31 and the syndrome in
the low bits (60 R849; log 22). -/
def recorded (l : DeferredLayout) (iss : BitVec 25) : DWord :=
  BitVec.ofNat 64 (2 ^ l.aBit.toNat) ||| BitVec.ofNat 64 ((iss &&& l.kept).toNat * 2 ^ l.low.toNat)

/-- The should-be-one fields of a form, all ones: bits 14:10 of SMULH and UMULH; of the exclusive and ordered forms bits 20:16
of all that have no status register, and bits 14:10 of all that have no second data register (30 R144; 47 R560(b)). -/
def shouldBeOne : Instr → Word
  | .smulh .. | .umulh .. => 0x00007C00#32
  | .stxr .. | .stxrb .. | .stxrh .. | .stlxr .. | .stlxrb .. | .stlxrh .. => 0x00007C00#32
  | .ldxp .. | .ldaxp .. => 0x001F0000#32
  | .ldxr .. | .ldxrb .. | .ldxrh .. | .ldaxr .. | .ldaxrb .. | .ldaxrh .. => 0x001F7C00#32
  | .ldar .. | .ldarb .. | .ldarh .. | .stlr .. | .stlrb .. | .stlrh .. => 0x001F7C00#32
  | .ldlar .. | .ldlarb .. | .ldlarh .. | .stllr .. | .stllrb .. | .stllrh .. => 0x001F7C00#32
  | _ => 0#32

/-! ## Writes -/

/-- The same writes, and the flags of the exact sum `x + y` (00 R13). -/
def sumFlags {n : Nat} (w : Writes) (s : State) (x y : BitVec n) : Writes :=
  w.flags s (x + y) (decide (2 ^ n ≤ x.toNat + y.toNat)) (x.saddOverflow y)

/-- The same writes, and the flags of the exact difference `x - y`: C is set if there is no borrow (00 R13). -/
def diffFlags {n : Nat} (w : Writes) (s : State) (x y : BitVec n) : Writes :=
  w.flags s (x - y) (decide (y.toNat ≤ x.toNat)) (x.ssubOverflow y)

/-- A logical result in `Rd`, and its flags: C and V are cleared (10 R49). -/
def logicalWrites {n : Nat} (rd : Reg) (s : State) (v : BitVec n) : Writes := (Writes.toReg rd v).flags s v false false

/-- The flags that a conditional compare writes if its condition fails (43 R360). -/
def givenFlags (s : State) (nzcv : BitVec 4) : Writes :=
  { pstate := some { s.p with
      n := nzcv.getLsbD 3, z := nzcv.getLsbD 2, c := nzcv.getLsbD 1, v := nzcv.getLsbD 0 } }

/-! ## Faults of memory access -/

/-- The first byte of `n` from `a` that lacks a property is byte `k`. -/
abbrev FirstWithout (has : Addr → Prop) (a : Addr) (n k : Nat) : Prop :=
  k < n ∧ (∀ j, j < k → has (a + BitVec.ofNat 64 j)) ∧ ¬has (a + BitVec.ofNat 64 k)

/-- `e` is the abort of one access, in the order of 60 R803(8): a misaligned address, the first unmapped byte, the first
denied byte. In a read-modify-write instruction or a store-exclusive (`rmw`), WnR is 1 only for a byte that may be read and
not written (60 R812; log 14). -/
def AccessAbort (s : State) (a : Addr) (n : Nat) (acc : AccType) (kind : AccessKind) (rmw : Prop) (e : Exc) : Prop :=
  let mapped := fun b => s.mapped b = true
  (¬s.Aligned a n acc ∧ ∃ wnr, (wnr = true ↔ kind = .write ∧ ¬rmw) ∧ e = .dataAbort a .alignment wnr false) ∨
  (s.Aligned a n acc ∧ ∃ k wnr, FirstWithout mapped a n k ∧ (wnr = true ↔ kind = .write ∧ ¬rmw) ∧
    e = .dataAbort (a + BitVec.ofNat 64 k) .translation wnr false) ∨
  (s.Aligned a n acc ∧ (∀ k, k < n → mapped (a + BitVec.ofNat 64 k)) ∧ ∃ k wnr,
    FirstWithout (s.Permitted acc kind) a n k ∧
    (wnr = true ↔ kind = .write ∧ (rmw → s.Permitted acc .read (a + BitVec.ofNat 64 k))) ∧
    e = .dataAbort (a + BitVec.ofNat 64 k) .permission wnr false)

/-- `e` is the abort of two accesses, the first checked before the second (60 R803(8)). -/
def TwoAborts (first second : Exc → Prop) (firstAllowed : Prop) (e : Exc) : Prop := first e ∨ (firstAllowed ∧ second e)

/-- `e` is the abort of the two accesses of a load or store pair, the first at the lower address (47 R540(g)). -/
def PairAborts (s : State) (a : Addr) (bytes : Nat) (acc : AccType) (kind : AccessKind) : Exc → Prop :=
  TwoAborts (AccessAbort s a bytes acc kind False) (AccessAbort s (a + BitVec.ofNat 64 bytes) bytes acc kind False)
    (s.Allowed a bytes acc kind)

/-- `e` is the abort of an access to two adjacent elements that must be aligned to both together: alignment, the element at
the lower address, the other one (60 R803(8); log 38). -/
def PairAbort (s : State) (a : Addr) (n : Nat) (acc : AccType) (kind : AccessKind) (rmw : Prop) (e : Exc) : Prop :=
  (¬s.Aligned a (2 * n) acc ∧ ∃ wnr, (wnr = true ↔ kind = .write ∧ ¬rmw) ∧ e = .dataAbort a .alignment wnr false) ∨
  (s.Aligned a (2 * n) acc ∧ TwoAborts (AccessAbort s a n acc kind rmw)
    (AccessAbort s (a + BitVec.ofNat 64 n) n acc kind rmw) (s.Allowed a n acc kind) e)

/-- `e` is the abort of an atomic access: the location is checked for reading and then for writing (48 R610(h); log 14). All
its access types have the same rights and alignment. -/
def AtomicAbort (s : State) (a : Addr) (n : Nat) (e : Exc) : Prop :=
  TwoAborts (AccessAbort s a n .atomicRW .read True) (AccessAbort s a n .atomicRW .write True)
    (s.Allowed a n .atomicRW .read) e

/-- `i` takes SP alignment where its base cannot be used, and else each abort of its accesses; it has no other effect
(10 R46; 60 R800, R803(7), (8)). -/
def Aborts (i : Instr) (s : State) (rn : Reg) (abort : Exc → Prop) : Prop :=
  (¬s.BaseReady rn → Traps i s .spAlignment) ∧ (s.BaseReady rn → ∀ e, abort e → Traps i s e)

/-! ## Forms of memory access -/

/-- A load of `bytes` at the base and an offset, into `Rt`. -/
def Loads (i : Instr) (s : State) (rn rt : Reg) (offset : Addr) (bytes : Nat) (acc : AccType)
    (value : BitVec (8 * bytes) → DWord) : Prop :=
  let a := s.readXsp rn + offset
  s.BaseReady rn → s.Allowed a bytes acc .read → Completes i s (.toReg rt (value (s.loadBytes a bytes)))

/-- A load whose base register is written, and the access before (`pre`) or after that write. -/
def LoadsAndWritesBase (i : Instr) (s : State) (pre : Bool) (rn rt : Reg) (offset : Addr) (bytes : Nat)
    (value : BitVec (8 * bytes) → DWord) : Prop :=
  let a := if pre then s.readXsp rn + offset else s.readXsp rn
  (rn = 31#5 ∨ rn ≠ rt) → s.BaseReady rn → s.Allowed a bytes .normal .read →
    Completes i s ((Writes.toReg rt (value (s.loadBytes a bytes))).base rn (s.readXsp rn + offset))

/-- A store of the low `bytes` of `Rt` at the base and an offset. -/
def Stores (i : Instr) (s : State) (rn rt : Reg) (offset : Addr) (bytes : Nat) (acc : AccType) : Prop :=
  let a := s.readXsp rn + offset
  s.mem.wf → s.BaseReady rn → s.Allowed a bytes acc .write → Completes i s (Writes.nothing.store s a bytes (s.readX rt))

/-- A store whose base register is written, and the access before (`pre`) or after that write. -/
def StoresAndWritesBase (i : Instr) (s : State) (pre : Bool) (rn rt : Reg) (offset : Addr) (bytes : Nat) : Prop :=
  let a := if pre then s.readXsp rn + offset else s.readXsp rn
  s.mem.wf → (rn = 31#5 ∨ rn ≠ rt) → s.BaseReady rn → s.Allowed a bytes .normal .write →
    Completes i s ((Writes.nothing.store s a bytes (s.readX rt)).base rn (s.readXsp rn + offset))

/-- Where a pair form accesses memory, and whether it writes its base. -/
inductive PairForm where
  | offset | pre | post
deriving DecidableEq, Repr

/-- The address of the first element of a pair form. -/
def PairForm.address (form : PairForm) (s : State) (rn : Reg) (offset : Addr) : Addr :=
  if form = .post then s.readXsp rn else s.readXsp rn + offset

/-- A pair form writes a base register that is also a transfer register (47 R540(d) step 1). -/
abbrev PairForm.BaseOverlaps (form : PairForm) (rn rt rt2 : Reg) : Prop :=
  form ≠ .offset ∧ rn ≠ 31#5 ∧ (rn = rt ∨ rn = rt2)

/-- A load of two registers from adjacent elements (47 R540). If both are one register, the implementation's choice: Undefined,
no effect, or an UNKNOWN value after the accesses are made, which may abort; with the base overlap too, this check is the second one. -/
def LoadsPair (i : Instr) (s : State) (form : PairForm) (rn rt rt2 : Reg) (offset : Addr) (bytes : Nat) (acc : AccType)
    (value : BitVec (8 * bytes) → DWord) : Prop :=
  let a := form.address s rn offset
  let a2 := a + BitVec.ofNat 64 bytes
  let w := Writes.toRegs rt rt2 (value (s.loadBytes a bytes)) (value (s.loadBytes a2 bytes))
  let withBase := fun w : Writes => if form = .offset then w else w.base rn (s.readXsp rn + offset)
  let choice := s.cfg.constrain.ldPairOverlap
  let wback := s.cfg.constrain.ldWbackOverlap
  (rt ≠ rt2 → ¬form.BaseOverlaps rn rt rt2 → s.BaseReady rn → s.Allowed a bytes acc .read → s.Allowed a2 bytes acc .read →
    Completes i s (withBase w)) ∧
  (rt = rt2 → (form.BaseOverlaps rn rt rt2 → wback = .wbSuppress ∨ wback = .unknown) →
    (choice = .undef → Traps i s .undefined) ∧
    (choice = .nop → Completes i s .nothing) ∧
    (choice = .unknown → s.BaseReady rn → s.Allowed a bytes acc .read → s.Allowed a2 bytes acc .read →
      ∃ v : DWord, CompletesDrawing i s
        (if form.BaseOverlaps rn rt rt2 then Writes.toReg rt v else withBase (Writes.toReg rt v))) ∧
    (choice = .unknown → Aborts i s rn (PairAborts s a bytes acc .read)))

/-- A load pair whose base is also a transfer register takes the implementation's choice (47 R540(d) step 1). -/
def LoadsPairOverBase (i : Instr) (s : State) (form : PairForm) (rn rt rt2 : Reg) (offset : Addr) (bytes : Nat)
    (value : BitVec (8 * bytes) → DWord) : Prop :=
  let a := form.address s rn offset
  let a2 := a + BitVec.ofNat 64 bytes
  let w := Writes.toRegs rt rt2 (value (s.loadBytes a bytes)) (value (s.loadBytes a2 bytes))
  let choice := s.cfg.constrain.ldWbackOverlap
  form.BaseOverlaps rn rt rt2 →
    (choice = .undef → Traps i s .undefined) ∧
    (choice = .nop → Completes i s .nothing) ∧
    (rt ≠ rt2 → s.Allowed a bytes .normal .read → s.Allowed a2 bytes .normal .read →
      (choice = .wbSuppress → Completes i s w) ∧
      (choice = .unknown → ∃ v, CompletesDrawing i s (w.base rn v))) ∧
    (rt ≠ rt2 → choice = .wbSuppress ∨ choice = .unknown → ∀ e, PairAborts s a bytes .normal .read e → Traps i s e)

/-- A store of two registers to adjacent elements (47 R540). -/
def StoresPair (i : Instr) (s : State) (form : PairForm) (rn rt rt2 : Reg) (offset : Addr) (bytes : Nat)
    (acc : AccType) : Prop :=
  let a := form.address s rn offset
  let a2 := a + BitVec.ofNat 64 bytes
  let w := (Writes.nothing.store s a bytes (s.readX rt)).store s a2 bytes (s.readX rt2)
  s.mem.wf → ¬form.BaseOverlaps rn rt rt2 → s.BaseReady rn → s.Allowed a bytes acc .write →
    s.Allowed a2 bytes acc .write → Completes i s (if form = .offset then w else w.base rn (s.readXsp rn + offset))

/-- A store pair whose base is also a transfer register takes the implementation's choice; of the UNKNOWN choice only the
element of the base is UNKNOWN (47 R540(d) step 1, R545). -/
def StoresPairOverBase (i : Instr) (s : State) (form : PairForm) (rn rt rt2 : Reg) (offset : Addr) (bytes : Nat) : Prop :=
  let a := form.address s rn offset
  let a2 := a + BitVec.ofNat 64 bytes
  let w := fun v v2 : DWord =>
    ((Writes.nothing.store s a bytes v).store s a2 bytes v2).base rn (s.readXsp rn + offset)
  let choice := s.cfg.constrain.stWbackOverlap
  form.BaseOverlaps rn rt rt2 →
    (choice = .undef → Traps i s .undefined) ∧
    (choice = .nop → Completes i s .nothing) ∧
    (s.mem.wf → s.Allowed a bytes .normal .write → s.Allowed a2 bytes .normal .write →
      (choice = .none → Completes i s (w (s.readX rt) (s.readX rt2))) ∧
      (choice = .unknown → ∃ v v2, (rt ≠ rn → v = s.readX rt) ∧ (rt2 ≠ rn → v2 = s.readX rt2) ∧
        CompletesDrawing i s (w v v2))) ∧
    (choice = .none ∨ choice = .unknown → ∀ e, PairAborts s a bytes .normal .write e → Traps i s e)

/-- A load with writeback whose base is the register it loads takes the implementation's choice: Undefined, no effect, the load
without writeback, or an UNKNOWN base after the load (46 R461 step 1; log 34). -/
def LoadsOverBase (i : Instr) (s : State) (pre : Bool) (r : Reg) (offset : Addr) (bytes : Nat)
    (value : BitVec (8 * bytes) → DWord) : Prop :=
  let a := if pre then s.readX r + offset else s.readX r
  let choice := s.cfg.constrain.ldWbackOverlap
  (choice = .undef → Traps i s .undefined) ∧
  (choice = .nop → Completes i s .nothing) ∧
  (s.Allowed a bytes .normal .read →
    (choice = .wbSuppress → Completes i s (.toReg r (value (s.loadBytes a bytes)))) ∧
    (choice = .unknown → ∃ v : DWord, CompletesDrawing i s (.toReg r v))) ∧
  (choice = .wbSuppress ∨ choice = .unknown → ∀ e, AccessAbort s a bytes .normal .read False e → Traps i s e)

/-- A store with writeback whose base is the register it stores takes the implementation's choice: Undefined, no effect, the
value from before the writeback, or an UNKNOWN value stored (46 R461 step 1). -/
def StoresOverBase (i : Instr) (s : State) (pre : Bool) (r : Reg) (offset : Addr) (bytes : Nat) : Prop :=
  let a := if pre then s.readX r + offset else s.readX r
  let w := fun v : DWord => (Writes.nothing.store s a bytes v).base r (s.readX r + offset)
  let choice := s.cfg.constrain.stWbackOverlap
  (choice = .undef → Traps i s .undefined) ∧
  (choice = .nop → Completes i s .nothing) ∧
  (s.mem.wf → s.Allowed a bytes .normal .write →
    (choice = .none → Completes i s (w (s.readX r))) ∧
    (choice = .unknown → ∃ v, CompletesDrawing i s (w v))) ∧
  (choice = .none ∨ choice = .unknown → ∀ e, AccessAbort s a bytes .normal .write False e → Traps i s e)

/-- A load-exclusive of one register: the monitor marks what is read (20 R125). -/
def LoadsExclusive (i : Instr) (s : State) (rn rt : Reg) (bytes : Nat) (acc : AccType) : Prop :=
  let a := s.readXsp rn
  (s.BaseReady rn → s.Allowed a bytes acc .read →
    Completes i s ((Writes.toReg rt (s.loadBytes a bytes)).mark (some ⟨a, bytes⟩))) ∧
  Aborts i s rn (AccessAbort s a bytes acc .read False)

/-- A load-exclusive of a pair, aligned to both elements together (20 R100). If both registers are one, the implementation's
choice: Undefined, no effect, or an UNKNOWN value and the mark, with no memory read (47 R560(e); 20 R129). -/
def LoadsExclusivePair (i : Instr) (s : State) (rn rt rt2 : Reg) (bytes : Nat) (acc : AccType) : Prop :=
  let a := s.readXsp rn
  let choice := s.cfg.constrain.ldPairOverlap
  let marked := fun w : Writes => w.mark (some ⟨a, 2 * bytes⟩)
  (rt ≠ rt2 →
    (s.BaseReady rn → s.Allowed a (2 * bytes) acc .read → Completes i s
      (marked (.toRegs rt rt2 (s.loadBytes a bytes) (s.loadBytes (a + BitVec.ofNat 64 bytes) bytes)))) ∧
    Aborts i s rn (PairAbort s a bytes acc .read False)) ∧
  (rt = rt2 →
    (choice = .undef → Traps i s .undefined) ∧
    (choice = .nop → Completes i s .nothing) ∧
    (choice = .unknown → s.BaseReady rn → ∃ v : DWord, CompletesDrawing i s (marked (.toReg rt v))) ∧
    (choice = .unknown → ¬s.BaseReady rn → Traps i s .spAlignment))

/-- The monitor is Exclusive for the granule of an address (20 R126). -/
abbrev MonitorHolds (s : State) (a : Addr) : Prop :=
  ∃ m ∈ s.monitor, m.pa >>> s.cfg.ergLog2 = a >>> s.cfg.ergLog2

/-- What a store-exclusive at `a` does (20 R126), `w` being what it stores: with the monitor, the stores and status 0; without
it, status 1 and, unless the implementation aborts there (20 R101), no check of the access. The monitor becomes Open. -/
def StoresIfHeld (done : Writes → Prop) (s : State) (rs : Reg) (a : Addr) (bytes : Nat) (acc : AccType) (w : Writes) :
    Prop :=
  (MonitorHolds s a → s.Allowed a bytes acc .write →
    done { w with reg := (Writes.toReg rs 0#32).reg, monitor := some none }) ∧
  (¬MonitorHolds s a → (s.cfg.exFailAborts = false ∨ s.Allowed a bytes acc .write) →
    done ((Writes.toReg rs 1#32).mark none))

/-- A store-exclusive of `bytes` in all that stores `w` of its address, its status register a data register if `dataOverlap`
(47 R560(d)). Where the status register is a data register, and where it is the base, the implementation's choices, in this
order: Undefined, no effect, an UNKNOWN value (address) in place of the data (base), or the registers' values (20 R129;
log 8, 19). The UNKNOWN address is the next value of the oracle (log 7), and the monitor, the store and the aborts are those of
that address. It aborts where it stores, and where the implementation aborts without the monitor (20 R101; log 14). -/
def StoresExclusive (i : Instr) (s : State) (rs rn : Reg) (dataOverlap : Prop) (bytes : Nat) (acc : AccType)
    (abort : Addr → Exc → Prop) (w : Addr → Writes) : Prop :=
  let base := s.readXsp rn
  let baseOverlap := rs = rn ∧ rn ≠ 31#5
  let data := s.cfg.constrain.stxStatusDataOverlap
  let address := s.cfg.constrain.stxStatusBaseOverlap
  let dataKept := dataOverlap → data = .none
  let dataUnknown := dataOverlap ∧ data = .unknown
  let addressKept := baseOverlap → address = .none
  let addressUnknown := baseOverlap ∧ address = .unknown
  let aborts := fun a => ∀ e, abort a e → MonitorHolds s a ∨ s.cfg.exFailAborts = true → Traps i s e
  let storesUnknown := fun a => ∃ v : BitVec (8 * bytes),
    StoresIfHeld (CompletesDrawing i s) s rs a bytes acc (Writes.nothing.store s a bytes v)
  (dataOverlap → data = .undef → Traps i s .undefined) ∧
  (dataOverlap → data = .nop → Completes i s .nothing) ∧
  (dataKept ∨ dataUnknown → baseOverlap →
    (address = .undef → Traps i s .undefined) ∧ (address = .nop → Completes i s .nothing)) ∧
  (dataKept ∨ dataUnknown → addressKept →
    (¬s.BaseReady rn → Traps i s .spAlignment) ∧ (s.BaseReady rn → aborts base)) ∧
  (dataKept ∨ dataUnknown → addressUnknown → aborts (s.unknownAt 0)) ∧
  (s.mem.wf → s.BaseReady rn →
    (dataKept → addressKept → StoresIfHeld (Completes i s) s rs base bytes acc (w base)) ∧
    (dataUnknown → addressKept → storesUnknown base) ∧
    (dataKept → addressUnknown →
      StoresIfHeld (CompletesDrawing i s) s rs (s.unknownAt 0) bytes acc (w (s.unknownAt 0))) ∧
    (dataUnknown → addressUnknown → storesUnknown (s.unknownAt 0)))

/-- A form of the atomic extension is Undefined without it (20 R130; 30 R147). -/
def NeedsAtomics (i : Instr) (s : State) (works : Prop) : Prop :=
  (s.cfg.haveAtomics = true → works) ∧ (s.cfg.haveAtomics = false → Traps i s .undefined)

/-- An atomic operation: `Rt` gets the old value, and memory the result (48 R610). -/
def Atomically (i : Instr) (s : State) (rs rn rt : Reg) (bytes : Nat)
    (op : BitVec (8 * bytes) → BitVec (8 * bytes) → BitVec (8 * bytes)) : Prop :=
  let a := s.readXsp rn
  let old := s.loadBytes a bytes
  NeedsAtomics i s
    ((s.mem.wf → s.BaseReady rn → s.Allowed a bytes .atomicRW .read → s.Allowed a bytes .atomicRW .write →
        Completes i s ((Writes.toReg rt old).store s a bytes (op old (s.readXW (8 * bytes) rs)))) ∧
      Aborts i s rn (AtomicAbort s a bytes))

/-- A compare and swap: `Rs` gets the old value, and memory gets `Rt` if the old value is that of `Rs` (48 R611). -/
def Compares (i : Instr) (s : State) (rs rn rt : Reg) (bytes : Nat) : Prop :=
  let a := s.readXsp rn
  let old := s.loadBytes a bytes
  NeedsAtomics i s
    ((s.mem.wf → s.BaseReady rn → s.Allowed a bytes .atomicRW .read → s.Allowed a bytes .atomicRW .write →
        Completes i s
          (if old = s.readXW (8 * bytes) rs then (Writes.toReg rs old).store s a bytes (s.readX rt) else .toReg rs old)) ∧
      Aborts i s rn (AtomicAbort s a bytes))

/-- The bytes of every group of `c + 1` bytes in reverse order (42 R318). -/
def Reverses (i : Instr) (s : State) (n : Nat) (c : Nat) (rn rd : Reg) : Prop :=
  ∃ v : BitVec n, Completes i s (.toReg rd v) ∧ ∀ k, k < n / 8 → byteOf v k = byteOf (s.readXW n rn) (k ^^^ c)

/-- A synchronous exception: its syndrome, what becomes of FAR, and its return address (60 R802, R830, R832). -/
def EntersWith (e : Exc) (s : State) (ec : BitVec 6) (iss : BitVec 25) (far : FarEffect) (ret : Addr) : Prop :=
  s.Enters (e.target s) (some (ec.setWidth 64 <<< 26 ||| 1#64 <<< 25 ||| iss.setWidth 64)) far ret 0#11 (s.takeSync e)

/-- HCR_EL2.TGE sends what EL1 would take from EL0 to EL2 (60 R831). -/
abbrev Rerouted (s : State) : Prop := s.cfg.haveEL2 = true ∧ s.isSecure = false ∧ s.hcr.getLsbD 27 = true

/-- The general case of the target level (60 R831). -/
def generalLevel (s : State) : EL :=
  if s.p.el = .el2 ∨ s.p.el = .el3 then s.p.el else if s.p.el = .el0 ∧ Rerouted s then .el2 else .el1

/-- A system register or operation can be used at this level: at EL1 or above, with op1 = 3 at EL0 too, with 4 or 5 from EL2
on, with 6 at EL3, with 7 in Secure state (10 R61(2)). -/
abbrev LevelAllows (s : State) (op1 : BitVec 3) : Prop :=
  op1 = 3#3 ∨ (op1.toNat < 3 ∧ s.p.el ≠ .el0) ∨ ((op1 = 4#3 ∨ op1 = 5#3) ∧ (s.p.el = .el2 ∨ s.p.el = .el3))
    ∨ (op1 = 6#3 ∧ s.p.el = .el3) ∨ (op1 = 7#3 ∧ s.p.el ≠ .el0 ∧ s.isSecure = true)

/-- The table of 10 R62. -/
def registerTable : List (BitVec 16 × SysReg) :=
  [ (sysAddress 3 3 4 2 0, .nzcv), (sysAddress 3 3 4 2 1, .daif), (sysAddress 3 0 4 2 2, .currentEL),
    (sysAddress 3 0 4 2 0, .spSel), (sysAddress 3 0 4 2 3, .pan), (sysAddress 3 0 4 2 4, .uao),
    (sysAddress 3 0 4 1 0, .spEL0), (sysAddress 3 4 4 1 0, .spEL1), (sysAddress 3 6 4 1 0, .spEL2),
    (sysAddress 3 0 4 0 0, .spsr .el1), (sysAddress 3 4 4 0 0, .spsr .el2), (sysAddress 3 6 4 0 0, .spsr .el3),
    (sysAddress 3 0 4 0 1, .elr .el1), (sysAddress 3 4 4 0 1, .elr .el2), (sysAddress 3 6 4 0 1, .elr .el3),
    (sysAddress 3 0 5 2 0, .esr .el1), (sysAddress 3 4 5 2 0, .esr .el2), (sysAddress 3 6 5 2 0, .esr .el3),
    (sysAddress 3 0 6 0 0, .far .el1), (sysAddress 3 4 6 0 0, .far .el2), (sysAddress 3 6 6 0 0, .far .el3),
    (sysAddress 3 0 12 0 0, .vbar .el1), (sysAddress 3 4 12 0 0, .vbar .el2), (sysAddress 3 6 12 0 0, .vbar .el3),
    (sysAddress 3 0 1 0 0, .sctlr .el1), (sysAddress 3 4 1 0 0, .sctlr .el2), (sysAddress 3 6 1 0 0, .sctlr .el3),
    (sysAddress 3 4 1 1 0, .hcr), (sysAddress 3 6 1 1 0, .scr), (sysAddress 3 3 4 5 1, .dlr),
    (sysAddress 3 3 4 5 0, .dspsr), (sysAddress 3 0 12 1 1, .disr), (sysAddress 3 4 12 1 1, .vdisr),
    (sysAddress 3 0 7 4 0, .par), (sysAddress 3 3 0 0 7, .dczid), (sysAddress 3 3 13 0 2, .tpidr),
    (sysAddress 3 0 0 6 0, .isar0) ]

/-- A register exists now, by the access column of 10 R62; SP_EL2 and HCR_EL2 with EL2 only (10 R45, R67), SCR_EL3 with EL3
only (10 R68). That the other registers of a level have no such condition: log 17. -/
abbrev Exists (s : State) : SysReg → Prop
  | .pan => s.cfg.havePAN = true
  | .uao => s.cfg.haveUAO = true
  | .spEL0 => s.p.sp = true
  | .spEL2 => s.cfg.haveEL2 = true
  | .hcr => s.cfg.haveEL2 = true
  | .scr => s.cfg.haveEL3 = true
  | .dlr => s.halted = true
  | .dspsr => s.halted = true
  | .disr => s.cfg.haveRAS = true
  | .vdisr => s.cfg.haveRAS = true
  | _ => True

/-- A register may be read (10 R61(1)). -/
abbrev MayRead : SysReg → Prop
  | .extra r => r.readable = true
  | _ => True

/-- A register may be written (10 R61(1), R62, R76). -/
abbrev MayWrite : SysReg → Prop
  | .currentEL => False
  | .dczid => False
  | .isar0 => False
  | .extra r => r.writable = true
  | _ => True

/-- What a register reads as: the bits of the views of PSTATE (10 R62; 49 R730), of the read-only registers (10 R62, R76;
49 R745), and the register itself. -/
def registerValue (s : State) : SysReg → DWord
  | .nzcv => 0#32 ++ BitVec.ofBool s.p.n ++ BitVec.ofBool s.p.z ++ BitVec.ofBool s.p.c ++ BitVec.ofBool s.p.v ++ 0#28
  | .daif => 0#54 ++ BitVec.ofBool s.p.d ++ BitVec.ofBool s.p.a ++ BitVec.ofBool s.p.i ++ BitVec.ofBool s.p.f ++ 0#6
  | .currentEL => 0#60 ++ s.p.el.bits ++ 0#2
  | .spSel => 0#63 ++ BitVec.ofBool s.p.sp
  | .pan => 0#41 ++ BitVec.ofBool s.p.pan ++ 0#22
  | .uao => 0#40 ++ BitVec.ofBool s.p.uao ++ 0#23
  | .spEL0 => s.spEL0
  | .spEL1 => s.spEL1
  | .spEL2 => s.spEL2
  | .spsr level => (s.elRegs level).spsr
  | .elr level => (s.elRegs level).elr
  | .esr level => (s.elRegs level).esr
  | .far level => (s.elRegs level).far
  | .vbar level => (s.elRegs level).vbar
  | .sctlr level => (s.elRegs level).sctlr
  | .hcr => s.hcr
  | .scr => s.scr
  | .dlr => s.dlr
  | .dspsr => s.dspsr
  | .disr => s.disr
  | .vdisr => s.vdisr
  | .par => s.par
  | .dczid => 0#60 ++ s.cfg.dczvaBS
  | .tpidr => s.tpidr
  | .isar0 => 0#40 ++ (if s.cfg.haveAtomics then 2#4 else 0#4) ++ (if s.cfg.haveCRC then 1#4 else 0#4) ++ 0#16
  | .extra r => extraValue r.address s.extra

/-- The bits of a system register that a write changes (10 R62, R65; 20 R95; 60 R833). The RES0 bits of an SPSR keep their
value: DESIGN CHOICE (log 18). -/
def writable (s : State) : SysReg → DWord
  | .nzcv => 0xF0000000#64
  | .daif => 0x3C0#64
  | .spSel => 1#64
  | .pan => 0x400000#64
  | .uao => 0x800000#64
  | .spsr _ => 0xF0F003DD#64
  | .vbar _ => 0xFFFFFFFFFFFFF800#64
  | .sctlr _ => if s.cfg.bigEndianSupported then 0xFFFFFFFFFFFFFFFF#64 else 0xFFFFFFFFFCFFFFFF#64
  | .extra r => r.mask
  | _ => 0xFFFFFFFFFFFFFFFF#64

/-- The 58 operations of SYS with their `op1_CRn_CRm_op2`: AT by the level and the access that its name gives and whether
PSTATE.PAN counts, DC and IC by what they do, TLBI (49 R744 to R747; of the two stages of AT: log 27). -/
def systemTable : List (BitVec 14 × SysOp) :=
  [ (0b000_0111_1000_000#14, .translate .el1 .read false), (0b000_0111_1000_001#14, .translate .el1 .write false),
    (0b000_0111_1000_010#14, .translate .el0 .read false), (0b000_0111_1000_011#14, .translate .el0 .write false),
    (0b100_0111_1000_000#14, .translate .el2 .read false), (0b100_0111_1000_001#14, .translate .el2 .write false),
    (0b100_0111_1000_100#14, .translate .el1 .read false), (0b100_0111_1000_101#14, .translate .el1 .write false),
    (0b100_0111_1000_110#14, .translate .el0 .read false), (0b100_0111_1000_111#14, .translate .el0 .write false),
    (0b110_0111_1000_000#14, .translate .el3 .read false), (0b110_0111_1000_001#14, .translate .el3 .write false),
    (0b000_0111_1001_000#14, .translate .el1 .read true), (0b000_0111_1001_001#14, .translate .el1 .write true) ] ++
  [ (0b000_0111_0110_001#14, .dcAddress true false), (0b000_0111_0110_010#14, .dcSetWay),
    (0b000_0111_1010_010#14, .dcSetWay), (0b000_0111_1110_010#14, .dcSetWay),
    (0b011_0111_0100_001#14, .dcZva), (0b011_0111_1010_001#14, .dcAddress false false),
    (0b011_0111_1011_001#14, .dcAddress false false), (0b011_0111_1110_001#14, .dcAddress false false),
    (0b011_0111_1100_001#14, .dcAddress false true) ] ++
  [ (0b000_0111_0001_000#14, .icAll), (0b000_0111_0101_000#14, .icAll), (0b011_0111_0101_001#14, .icAddress) ] ++
  [ (0b000_1000_0011_000#14, .tlbi), (0b000_1000_0011_001#14, .tlbi), (0b000_1000_0011_010#14, .tlbi),
    (0b000_1000_0011_011#14, .tlbi), (0b000_1000_0011_101#14, .tlbi), (0b000_1000_0011_111#14, .tlbi),
    (0b000_1000_0111_000#14, .tlbi), (0b000_1000_0111_001#14, .tlbi), (0b000_1000_0111_010#14, .tlbi),
    (0b000_1000_0111_011#14, .tlbi), (0b000_1000_0111_101#14, .tlbi), (0b000_1000_0111_111#14, .tlbi),
    (0b100_1000_0000_001#14, .tlbi), (0b100_1000_0000_101#14, .tlbi), (0b100_1000_0011_000#14, .tlbi),
    (0b100_1000_0011_001#14, .tlbi), (0b100_1000_0011_100#14, .tlbi), (0b100_1000_0011_101#14, .tlbi),
    (0b100_1000_0011_110#14, .tlbi), (0b100_1000_0100_001#14, .tlbi), (0b100_1000_0100_101#14, .tlbi),
    (0b100_1000_0111_000#14, .tlbi), (0b100_1000_0111_001#14, .tlbi), (0b100_1000_0111_100#14, .tlbi),
    (0b100_1000_0111_101#14, .tlbi), (0b100_1000_0111_110#14, .tlbi), (0b110_1000_0011_000#14, .tlbi),
    (0b110_1000_0011_001#14, .tlbi), (0b110_1000_0011_101#14, .tlbi), (0b110_1000_0111_000#14, .tlbi),
    (0b110_1000_0111_001#14, .tlbi), (0b110_1000_0111_101#14, .tlbi) ]

/-- A byte of the cache block that DC ZVA zeroes (20 R136). -/
abbrev InBlock (s : State) (a b : Addr) : Prop := a >>> s.cfg.dczvaLog2Bytes = b >>> s.cfg.dczvaLog2Bytes

/-- The first byte of the block that DC ZVA zeroes (20 R136). -/
def blockBase (s : State) (a : Addr) : Addr :=
  BitVec.ofNat 64 (a.toNat / 2 ^ s.cfg.dczvaLog2Bytes * 2 ^ s.cfg.dczvaLog2Bytes)

/-- `e` is the abort of a cache operation on `n` bytes at `a`: the first unmapped byte, then, where it needs write permission,
the first denied one; CM and WnR are 1 (49 R745, R746; 60 R812). -/
def CacheAbort (s : State) (a : Addr) (n : Nat) (needsWrite : Prop) (e : Exc) : Prop :=
  let mapped := fun b => s.mapped b = true
  (∃ k, FirstWithout mapped a n k ∧ e = .dataAbort (a + BitVec.ofNat 64 k) .translation true true) ∨
  ((∀ k, k < n → mapped (a + BitVec.ofNat 64 k)) ∧ needsWrite ∧ ∃ k, FirstWithout (s.Permitted .normal .write) a n k ∧
    e = .dataAbort (a + BitVec.ofNat 64 k) .permission true true)

/-- What a system instruction that is neither Undefined nor trapped does with its operand `a` (49 R744 to R747). AT leaves only
PAR_EL1 changed: bit 0 tells failure, and on success the bits from 12 up to the width of a physical address, 48 by default,
are those of the address; its other bits are UNKNOWN (log 27). -/
def SystemEffect (i : Instr) (s : State) (a : DWord) : SysOp → Prop
  | .translate level kind pan => ∃ par draws,
      exec i s = .next { s with par := par, draws := draws, pc := s.pc + 4#64 } ∧
      par.getLsbD 0 = !(s.mapped a && s.platformAllows level kind a
        && !(pan && s.p.pan && s.platformAllows .el0 kind a)) ∧
      (par.getLsbD 0 = false → ∀ k, 12 ≤ k → k < s.cfg.paBits → par.getLsbD k = a.getLsbD k)
  | .dcZva =>
      (s.mem.wf → (∀ b, InBlock s a b → s.mapped b = true ∧ s.Permitted .normal .write b) →
        Completes i s { mem := fun b => if InBlock s a b then some 0#8 else none }) ∧
      (∀ e, CacheAbort s (blockBase s a) (2 ^ s.cfg.dczvaLog2Bytes) True e → Traps i s e)
  | .dcAddress needsWrite _ =>
      (s.mapped a = true → (needsWrite = true → s.Permitted .normal .write a) → Completes i s .nothing) ∧
      (∀ e, CacheAbort s a 1 (needsWrite = true) e → Traps i s e)
  | .icAddress =>
      (s.mapped a = true → Completes i s .nothing) ∧ (∀ e, CacheAbort s a 1 False e → Traps i s e)
  | .dcSetWay => Completes i s .nothing
  | .icAll => Completes i s .nothing
  | .tlbi => Completes i s .nothing

/-- The level of an AT or TLBI operation is implemented: op1 = 4 needs EL2, and 6 needs EL3 (49 R744, R747). -/
abbrev LevelExists (s : State) (op1 : BitVec 3) : Prop :=
  (op1 = 4#3 → s.cfg.haveEL2 = true) ∧ (op1 = 6#3 → s.cfg.haveEL3 = true)

/-- The feature of an operation is there (49 R744, R745). -/
abbrev FeatureOf (s : State) : SysOp → Prop
  | .translate _ _ pan => pan = true → s.cfg.haveATS1E1 = true
  | .dcAddress _ needsPoP => needsPoP = true → s.cfg.haveDCPoP = true
  | _ => True

/-- A cache operation at EL0 is trapped: DZE (bit 14 of SCTLR_EL1) is 0 for ZVA, UCI (bit 26) for those by address
(49 R745, R746). -/
abbrev CacheTrapped (s : State) : SysOp → Prop
  | .dcZva => s.p.el = .el0 ∧ s.el1.sctlr.getLsbD 14 = false
  | .dcAddress _ _ => s.p.el = .el0 ∧ s.el1.sctlr.getLsbD 26 = false
  | .icAddress => s.p.el = .el0 ∧ s.el1.sctlr.getLsbD 26 = false
  | _ => False

/-- A form of SYS with this operation and register: Undefined where the level does not allow it, or its level or feature is not
there, then trapped, else the effect of the operation (10 R61; 49 R740). -/
def RunsSystem (i : Instr) (s : State) (op1 : BitVec 3) (crn crm : BitVec 4) (op2 : BitVec 3) (rt : Reg) : Prop :=
  ∀ op, (op1 ++ crn ++ crm ++ op2, op) ∈ systemTable →
    let usable := LevelAllows s op1 ∧ LevelExists s op1 ∧ FeatureOf s op
    (¬usable → Traps i s .undefined) ∧
    (usable → CacheTrapped s op → Traps i s (.systemRegisterTrap .el1 1#2 op2 op1 crn rt crm 0#1)) ∧
    (usable → ¬CacheTrapped s op → SystemEffect i s (s.readX rt) op)

/-- An MSR (immediate) form at a level that may use it: PSTATE becomes `p`. -/
def WritesPState (op1 op2 : BitVec 3) (operand : BitVec 4) (s : State) (p : PState) : Prop :=
  Completes (.msrImmediate op1 operand op2) s { pstate := some p }

/-- EL0 may not use the DAIF bits: SCTLR_EL1.UMA is 0 (10 R62), or the PE is in host mode, which 49 R732 gives for MSR
(immediate) and the model takes for MRS and MSR (register) too (log 36). -/
abbrev MasksTrapped (s : State) : Prop := s.p.el = .el0 ∧ (s.HostMode ∨ s.el1.sctlr.getLsbD 9 = false)

/-- WFE or WFI is trapped to a level (60 R847), EL1 before EL2 before EL3 (49 R714, R715). -/
abbrev TrapsToEL1 (s : State) (bit : Nat) : Prop :=
  s.p.el = .el0 ∧ (if s.HostMode then s.el2.sctlr else s.el1.sctlr).getLsbD bit = false
abbrev TrapsToEL2 (s : State) (bit : Nat) : Prop :=
  s.cfg.haveEL2 = true ∧ s.isSecure = false ∧ s.p.el.toNat < 2 ∧ ¬s.HostMode ∧ s.hcr.getLsbD bit = true
abbrev TrapsToEL3 (s : State) (bit : Nat) : Prop :=
  s.cfg.haveEL3 = true ∧ s.p.el ≠ .el3 ∧ s.scr.getLsbD bit = true

/-- A wait that does not end before it begins: it is trapped, or it completes (49 R714, R715; log 11). -/
def Waits (i : Instr) (s : State) (isWfe : Bool) (el1Bit el2Bit el3Bit : Nat) : Prop :=
  (TrapsToEL1 s el1Bit → Traps i s (.wfxTrap .el1 isWfe)) ∧
  (¬TrapsToEL1 s el1Bit → TrapsToEL2 s el2Bit → Traps i s (.wfxTrap .el2 isWfe)) ∧
  (¬TrapsToEL1 s el1Bit → ¬TrapsToEL2 s el2Bit → TrapsToEL3 s el3Bit → Traps i s (.wfxTrap .el3 isWfe)) ∧
  (¬TrapsToEL1 s el1Bit → ¬TrapsToEL2 s el2Bit → ¬TrapsToEL3 s el3Bit → Completes i s .nothing)

/-- The level that takes an interrupt (60 R821), by its routing bits in SCR_EL3 and HCR_EL2, which a parameter lets act
(log 20). -/
def interruptLevel (s : State) (scrBit hcrBit : Nat) : EL :=
  if s.cfg.haveEL3 = true ∧ s.cfg.interruptRouting = true ∧ s.scr.getLsbD scrBit = true then .el3
  else if s.cfg.haveEL2 = true ∧ s.isSecure = false ∧
      (s.p.el = .el2 ∨ s.hcr.getLsbD 27 = true ∨ (s.cfg.interruptRouting = true ∧ s.hcr.getLsbD hcrBit = true)) then .el2
  else .el1

/-- A pending interrupt is taken at this boundary (60 R821): never to a lower level, always to EL2 or EL3 from below, else
unless its mask bit is set. -/
abbrev Due (s : State) (pending mask : Bool) (target : EL) : Prop :=
  pending = true ∧ s.p.el.toNat ≤ target.toNat ∧ ((s.p.el.toNat < target.toNat ∧ target ≠ .el1) ∨ mask = false)

/-- An SError is taken at this boundary. -/
abbrev SErrorDue (s : State) : Prop := Due s s.serrorPending s.p.a (interruptLevel s 3 5)

/-- What DCPS leaves: the level and its stack pointer change, five registers are UNKNOWN, all else stays (60 R843). -/
def ChangesLevel (i : Instr) (s : State) (target : EL) : Prop :=
  ∃ elr spsr esr dlr dspsr draws, exec i s = .next
    { s.setElRegs target { s.elRegs target with elr := elr, spsr := spsr, esr := esr } with
      p := { s.p with el := target, sp := true }, dlr := dlr, dspsr := dspsr, draws := draws }

/-- No exception stands before decode: the pc is aligned, its word is mapped and executable, and PSTATE.IL is 0
(60 R803(2) to (4)). -/
abbrev FetchesWord (s : State) : Prop :=
  s.pc.toNat % 4 = 0 ∧ s.p.il = false ∧
    ∀ k, k < 4 → s.mapped (s.pc + BitVec.ofNat 64 k) = true
      ∧ s.platformAllows s.p.el .execute (s.pc + BitVec.ofNat 64 k) = true

/-- Nothing stands before decode: no interrupt is due, and no exception (60 R803(1) to (4)). -/
abbrev Fetches (s : State) : Prop := s.nextInterrupt = none ∧ FetchesWord s

/-- The instruction word at the pc: always little-endian (20 R97). -/
def wordAt (s : State) : Word :=
  s.mem.byte (s.pc + 3#64) ++ s.mem.byte (s.pc + 2#64) ++ s.mem.byte (s.pc + 1#64) ++ s.mem.byte s.pc

end Sys2Proof.Forms

open Sys2Proof Sys2Proof.Machine Sys2Proof.Forms

/-! ## Encoding and fetch -/

/-- Words of 30 R160 to R182, written out bit by bit, and the instructions they stand for. -/
def Obligations.DecodedSampleWords : Prop :=
  decode 0b1_00_11010000_00010_000000_00001_00000#32 = .ok (.adc 1#1 2#5 1#5 0#5) ∧
  decode 0b0_1_1_10001_00_000000000101_11111_00011#32 = .ok (.subsImmediate 0#1 0#2 5#12 31#5 3#5) ∧
  decode 0b1_01_100100_1_000001_000010_00100_00011#32 = .ok (.orrImmediate 1#1 1#1 1#6 2#6 4#5 3#5) ∧
  decode 0b1_10_100110_1_000100_001011_00010_00001#32 = .ok (.ubfm 1#1 1#1 4#6 11#6 2#5 1#5) ∧
  decode 0b0_0_0_11010100_00011_0001_0_1_00010_00001#32 = .ok (.csinc 0#1 3#5 1#4 2#5 1#5) ∧
  decode 0b1_00_11011_000_00011_1_00100_00010_00001#32 = .ok (.msub 1#1 3#5 4#5 2#5 1#5) ∧
  decode 0b0101010_0_0000000000000000010_0_1011#32 = .ok (.bCond 2#19 11#4) ∧
  decode 0b11_111_0_00_01_0_111111000_11_00010_00001#32 = .ok (.ldrImmediatePreIndex 1#1 0x1F8#9 2#5 1#5) ∧
  decode 0b10_101_0_010_0_0000010_00011_11111_00001#32 = .ok (.stpSignedOffset 1#1 2#7 3#5 31#5 1#5) ∧
  decode 0b10_001000_0_0_0_00100_0_11111_00010_00001#32 = .ok (.stxr 0#1 4#5 2#5 1#5) ∧
  decode 0b11_111_0_00_1_1_1_00011_1_000_00_00010_00001#32 = .ok (.swp 1#1 1#1 1#1 3#5 2#5 1#5) ∧
  decode 0b11010100_000_0000000000000111_000_01#32 = .ok (.svc 7#16)

/-- Every field of a well-formed instruction survives encoding; the word of an alias is its base instruction's (30 R145). -/
def Obligations.DecodeOfEncodeIsBase : Prop :=
  ∀ i : Instr, i.wellFormed = true → decode (encode i) = .ok i.core

/-- What decodes is a well-formed base instruction, and its encoding is the word, but for the should-be-one fields of its own
form, which the decoder ignores and the encoder sets: none for all but SMULH, UMULH and the exclusive and ordered forms
(`shouldBeOne`; 30 R144, R145; 47 R560(b); log 24). -/
def Obligations.DecodeKeepsEveryBit : Prop :=
  ∀ (w : Word) (i : Instr), decode w = .ok i →
    i.wellFormed = true ∧ i.core = i ∧ encode i = w ||| shouldBeOne i

/-- When nothing stands before decode, a step runs the instruction of the word at the pc, with nothing around it: the next
state is that of `exec`, which moves the pc itself. The environment acts before the step, and what the step before left for the
interrupts is used up (60 R803; 70 R872; log 10, 37). -/
def Obligations.StepRunsDecodedInstruction : Prop :=
  ∀ (s : State) (i : Instr), s.halted = false → Fetches s.environment → decode (wordAt s.environment) = .ok i →
    step s = exec i { s.environment with interruptFirst := false }

/-- What a step takes in place of an instruction, in the order of 60 R803(2) to (5): PC alignment fault, Instruction Abort
(first of an unmapped, then of a denied word), illegal state, and Undefined for a word that does not decode (30 R149). That
any of the four bytes of the word counts, and that an unmapped one comes before a denied one, is the model's choice
(log 32). The step also clears the model's own field `interruptFirst` (log 37). -/
def Obligations.FetchExceptions : Prop :=
  ∀ (s : State), s.halted = false → s.env = [] → s.nextInterrupt = none →
    let started := { s with interruptFirst := false }
    let at_ := fun k => s.pc + BitVec.ofNat 64 k
    let aligned := s.pc.toNat % 4 = 0
    let mapped := ∀ k, k < 4 → s.mapped (at_ k) = true
    let executable := ∀ k, k < 4 → s.platformAllows s.p.el .execute (at_ k) = true
    (¬aligned → step s = .next (started.takeSync .pcAlignment)) ∧
    (aligned → ¬mapped → step s = .next (started.takeSync (.instructionAbort s.pc .translation))) ∧
    (aligned → mapped → ¬executable → step s = .next (started.takeSync (.instructionAbort s.pc .permission))) ∧
    (aligned → mapped → executable → s.p.il = true → step s = .next (started.takeSync .illegalState)) ∧
    (aligned → mapped → executable → s.p.il = false → (∀ i, decode (wordAt s) ≠ .ok i) →
      step s = .next (started.takeSync .undefined))

/-- A base instruction with a reserved or unallocated value in a field is Undefined when it runs (30 R150, R151); of the
general hint the numbers with a meaning of their own are no such values (30 R152). -/
def Obligations.ReservedOperandsAreUndefined : Prop :=
  ∀ (i : Instr) (s : State), i.core = i → i.wellFormed = false → (∀ crm op2, i ≠ .hint crm op2) → Traps i s .undefined

/-! ## The whole machine -/

/-- The state that 10 R80 and 70 R860 give for reset, for every configuration; what they leave unspecified is not said. -/
def Obligations.ResetState : Prop :=
  ∀ c : Config,
    let s := State.resetWith c
    s.pc = c.resetPC ∧ s.p.el = (if c.haveEL3 then .el3 else if c.haveEL2 then .el2 else .el1) ∧ s.p.sp = true ∧
    s.p.d = true ∧ s.p.a = true ∧ s.p.i = true ∧ s.p.f = true ∧ s.p.il = false ∧ s.p.ss = false ∧ s.p.pan = false ∧
    s.p.uao = false ∧ s.halted = false ∧ s.monitor = none ∧ (s.elRegs s.p.el).sctlr.getLsbD 1 = false ∧
    (c.bigEndianSupported = true → (s.elRegs s.p.el).sctlr.getLsbD 25 = c.resetEE)

/-- The state after reset is legal, for every configuration. The RES0 bits of SCTLR and VBAR of the levels that the spec leaves
unspecified at reset are the model's choice (log 3). -/
def Obligations.ResetIsLegal : Prop := State.reset.Legal ∧ ∀ c : Config, (State.resetWith c).Legal

/-- Every step keeps what the spec says of every state. -/
def Obligations.StepKeepsLegal : Prop := ∀ s t : State, s.Legal → step s = .next t → t.Legal

/-- No step at EL0 writes a vector base, a system control register, HCR_EL2 or SCR_EL3 (10 R61, R62; 60 R805). -/
def Obligations.UserCodeKeepsSystemControl : Prop :=
  ∀ s t : State, s.p.el = .el0 → step s = .next t →
    t.hcr = s.hcr ∧ t.scr = s.scr ∧
    ∀ level, (t.elRegs level).vbar = (s.elRegs level).vbar ∧ (t.elRegs level).sctlr = (s.elRegs level).sctlr

/-- A step raises the level only by an exception: it masks D, A, I and F, selects the level's stack pointer, opens the monitor,
saves the level it came from, and goes to one of the four vectors for a lower level (60 R830, R833). -/
def Obligations.RaisingLevelIsExceptionEntry : Prop :=
  ∀ s t : State, step s = .next t → s.p.el.toNat < t.p.el.toNat →
    t.p.d = true ∧ t.p.a = true ∧ t.p.i = true ∧ t.p.f = true ∧ t.p.sp = true ∧ t.p.il = false ∧ t.monitor = none ∧
    (t.elRegs t.p.el).spsr.extractLsb' 2 2 = s.p.el.bits ∧
    ∃ offset, (offset = 0x400#11 ∨ offset = 0x480#11 ∨ offset = 0x500#11 ∨ offset = 0x580#11) ∧
      t.pc = (t.elRegs t.p.el).vbar.extractLsb' 11 53 ++ offset

/-! ## Registers, flags, conditions -/

/-- Register 31 reads as 0 at either width and discards writes; a write of a narrower value to another register
zero-extends it and changes no other register (10 R42, R43). -/
def Obligations.ZeroRegister : Prop :=
  ∀ (s : State) (w : Nat) (v : BitVec w),
    s.readXW 64 31#5 = 0#64 ∧ s.readXW 32 31#5 = 0#32 ∧ s.writeX 31#5 v = s ∧
    ∀ r, r ≠ 31#5 → (s.writeX r v).readX r = v.setWidth 64 ∧ ∀ q, q ≠ r → (s.writeX r v).readX q = s.readX q

/-- The carry and the overflow of an addition tell whether the exact unsigned and signed sums fit (00 R13); of a subtraction,
C is 1 when there is no borrow. -/
def Obligations.AddWithCarryExact : Prop :=
  ∀ (n : Nat) (x y : BitVec n) (c : Bool),
    let r := addWithCarry x y c
    r.1.toNat = (x.toNat + y.toNat + c.toNat) % 2 ^ n ∧
    r.2.n = r.1.getMsbD 0 ∧
    (r.2.z = true ↔ r.1 = 0#n) ∧
    (r.2.c = false ↔ r.1.toNat = x.toNat + y.toNat + c.toNat) ∧
    (r.2.v = false ↔ r.1.toInt = x.toInt + y.toInt + c.toNat) ∧
    ((addWithCarry x (~~~y) true).1 = x - y) ∧
    ((addWithCarry x (~~~y) true).2.c = true ↔ y.toNat ≤ x.toNat)

/-- The 16 conditions (00 R17). -/
def Obligations.ConditionTable : Prop :=
  ∀ f : Flags,
    (conditionHolds f 0#4 = f.z ∧ conditionHolds f 1#4 = !f.z) ∧
    (conditionHolds f 2#4 = f.c ∧ conditionHolds f 3#4 = !f.c) ∧
    (conditionHolds f 4#4 = f.n ∧ conditionHolds f 5#4 = !f.n) ∧
    (conditionHolds f 6#4 = f.v ∧ conditionHolds f 7#4 = !f.v) ∧
    (conditionHolds f 8#4 = (f.c && !f.z) ∧ conditionHolds f 9#4 = !(f.c && !f.z)) ∧
    (conditionHolds f 10#4 = (f.n == f.v) ∧ conditionHolds f 11#4 = !(f.n == f.v)) ∧
    (conditionHolds f 12#4 = (f.n == f.v && !f.z) ∧ conditionHolds f 13#4 = !(f.n == f.v && !f.z)) ∧
    (conditionHolds f 14#4 = true ∧ conditionHolds f 15#4 = true)

/-! ## Addition and subtraction -/

/-- ADC, ADCS, SBC, SBCS, NGC, NGCS (40 R201, R202, R219 to R222). -/
def Obligations.AddSubCarry : Prop :=
  ∀ (s : State) (sf : BitVec 1) (rm rn rd : Reg),
    let n := datasize sf
    let x := s.readXW n rn
    let y := s.readXW n rm
    let sum := x + y + carryIn s.p.c
    let difference := fun v : BitVec n => v - y - carryIn (!s.p.c)
    let flags := fun (v : BitVec n) =>
      (Writes.toReg rd (difference v)).flags s (difference v) (decide (y.toNat + (!s.p.c).toNat ≤ v.toNat))
        (decide ((difference v).toInt ≠ v.toInt - y.toInt - (!s.p.c).toNat))
    Completes (.adc sf rm rn rd) s (.toReg rd sum) ∧
    Completes (.adcs sf rm rn rd) s ((Writes.toReg rd sum).flags s sum
      (decide (2 ^ n ≤ x.toNat + y.toNat + s.p.c.toNat))
      (decide (sum.toInt ≠ x.toInt + y.toInt + s.p.c.toNat))) ∧
    Completes (.sbc sf rm rn rd) s (.toReg rd (difference x)) ∧
    Completes (.sbcs sf rm rn rd) s (flags x) ∧
    Completes (.ngc sf rm rd) s (.toReg rd (difference 0#n)) ∧
    Completes (.ngcs sf rm rd) s (flags 0#n)

/-- ADD, ADDS, SUB, SUBS, CMN, CMP with an immediate, and MOV (to/from SP): `Rn` 31 is the stack pointer, and so is `Rd` 31 of
the forms that set no flags (40 R204, R207, R212, R215, R224, R227; 41 R260). -/
def Obligations.AddSubImmediate : Prop :=
  ∀ (s : State) (sf : BitVec 1) (shift : BitVec 2) (imm12 : BitVec 12) (rn rd : Reg), shift = 0#2 ∨ shift = 1#2 →
    let n := datasize sf
    let x := s.readXspW n rn
    let y : BitVec n := BitVec.ofNat n (if shift = 1#2 then imm12.toNat * 4096 else imm12.toNat)
    Completes (.addImmediate sf shift imm12 rn rd) s (.toXsp rd (x + y)) ∧
    Completes (.addsImmediate sf shift imm12 rn rd) s (sumFlags (.toReg rd (x + y)) s x y) ∧
    Completes (.subImmediate sf shift imm12 rn rd) s (.toXsp rd (x - y)) ∧
    Completes (.subsImmediate sf shift imm12 rn rd) s (diffFlags (.toReg rd (x - y)) s x y) ∧
    Completes (.cmnImmediate sf shift imm12 rn) s (sumFlags .nothing s x y) ∧
    Completes (.cmpImmediate sf shift imm12 rn) s (diffFlags .nothing s x y) ∧
    Completes (.movToFromSP sf rn rd) s (.toXsp rd x)

/-- ADD, ADDS, SUB, SUBS, CMN, CMP, NEG, NEGS of a shifted register: register 31 is the zero register (40 R205, R208, R213,
R216 to R218, R225, R228). -/
def Obligations.AddSubShifted : Prop :=
  ∀ (s : State) (sf : BitVec 1) (shift : BitVec 2) (rm : Reg) (imm6 : BitVec 6) (rn rd : Reg),
    shift ≠ 3#2 → imm6.toNat < datasize sf →
    let n := datasize sf
    let x := s.readXW n rn
    let y := shifted (s.readXW n rm) shift imm6.toNat
    Completes (.addShiftedRegister sf shift rm imm6 rn rd) s (.toReg rd (x + y)) ∧
    Completes (.addsShiftedRegister sf shift rm imm6 rn rd) s (sumFlags (.toReg rd (x + y)) s x y) ∧
    Completes (.subShiftedRegister sf shift rm imm6 rn rd) s (.toReg rd (x - y)) ∧
    Completes (.subsShiftedRegister sf shift rm imm6 rn rd) s (diffFlags (.toReg rd (x - y)) s x y) ∧
    Completes (.cmnShiftedRegister sf shift rm imm6 rn) s (sumFlags .nothing s x y) ∧
    Completes (.cmpShiftedRegister sf shift rm imm6 rn) s (diffFlags .nothing s x y) ∧
    Completes (.negShiftedRegister sf shift rm imm6 rd) s (.toReg rd (0#n - y)) ∧
    Completes (.negs sf shift rm imm6 rd) s (diffFlags (.toReg rd (0#n - y)) s (0#n) y)

/-- ADD, ADDS, SUB, SUBS, CMN, CMP of an extended register (40 R203, R206, R211, R214, R223, R226; 00 R15). -/
def Obligations.AddSubExtended : Prop :=
  ∀ (s : State) (sf : BitVec 1) (rm : Reg) (option imm3 : BitVec 3) (rn rd : Reg), imm3.toNat ≤ 4 →
    let n := datasize sf
    let x := s.readXspW n rn
    let y := extended (s.readXW n rm) option imm3.toNat
    Completes (.addExtendedRegister sf rm option imm3 rn rd) s (.toXsp rd (x + y)) ∧
    Completes (.addsExtendedRegister sf rm option imm3 rn rd) s (sumFlags (.toReg rd (x + y)) s x y) ∧
    Completes (.subExtendedRegister sf rm option imm3 rn rd) s (.toXsp rd (x - y)) ∧
    Completes (.subsExtendedRegister sf rm option imm3 rn rd) s (diffFlags (.toReg rd (x - y)) s x y) ∧
    Completes (.cmnExtendedRegister sf rm option imm3 rn) s (sumFlags .nothing s x y) ∧
    Completes (.cmpExtendedRegister sf rm option imm3 rn) s (diffFlags .nothing s x y)

/-- ADR and ADRP: the pc, or the start of its 4 KB page, and a signed 21-bit count of bytes or pages (40 R209, R210). -/
def Obligations.AddressFormation : Prop :=
  ∀ (s : State) (immlo : BitVec 2) (immhi : BitVec 19) (rd : Reg),
    Completes (.adr immlo immhi rd) s (.toReg rd (s.pc + BitVec.ofInt 64 (immhi ++ immlo).toInt)) ∧
    Completes (.adrp immlo immhi rd) s
      (.toReg rd (BitVec.ofNat 64 (s.pc.toNat / 4096 * 4096) + BitVec.ofInt 64 ((immhi ++ immlo).toInt * 4096)))

/-! ## Logical operations and moves -/

/-- AND, ANDS, BIC, BICS, ORR, ORN, EOR, EON, TST, MVN of a shifted register, and MOV (register) (41 R252 to R273). -/
def Obligations.LogicalShifted : Prop :=
  ∀ (s : State) (sf : BitVec 1) (shift : BitVec 2) (rm : Reg) (imm6 : BitVec 6) (rn rd : Reg), imm6.toNat < datasize sf →
    let n := datasize sf
    let x := s.readXW n rn
    let y := shifted (s.readXW n rm) shift imm6.toNat
    Completes (.andShiftedRegister sf shift rm imm6 rn rd) s (.toReg rd (x &&& y)) ∧
    Completes (.andsShiftedRegister sf shift rm imm6 rn rd) s (logicalWrites rd s (x &&& y)) ∧
    Completes (.bicShiftedRegister sf shift rm imm6 rn rd) s (.toReg rd (x &&& ~~~y)) ∧
    Completes (.bicsShiftedRegister sf shift rm imm6 rn rd) s (logicalWrites rd s (x &&& ~~~y)) ∧
    Completes (.orrShiftedRegister sf shift rm imm6 rn rd) s (.toReg rd (x ||| y)) ∧
    Completes (.ornShiftedRegister sf shift rm imm6 rn rd) s (.toReg rd (x ||| ~~~y)) ∧
    Completes (.eorShiftedRegister sf shift rm imm6 rn rd) s (.toReg rd (x ^^^ y)) ∧
    Completes (.eonShiftedRegister sf shift rm imm6 rn rd) s (.toReg rd (x ^^^ ~~~y)) ∧
    Completes (.tstShiftedRegister sf shift rm imm6 rn) s (logicalWrites 31#5 s (x &&& y)) ∧
    Completes (.mvn sf shift rm imm6 rd) s (.toReg rd (~~~y)) ∧
    Completes (.movRegister sf rm rd) s (.toReg rd (s.readXW n rm))

/-- AND, ORR, EOR, ANDS, TST and MOV with a bit mask, which `BitMaskShape` describes: `Rd` 31 is the stack pointer in the
forms that set no flags (41 R251, R253, R258, R263, R270, R272). -/
def Obligations.LogicalImmediate : Prop :=
  ∀ (s : State) (sf n : BitVec 1) (immr imms : BitVec 6) (rn rd : Reg) (y : BitVec (datasize sf)),
    logicalImmediate sf n imms immr = some y →
    let x := s.readXW (datasize sf) rn
    Completes (.andImmediate sf n immr imms rn rd) s (.toXsp rd (x &&& y)) ∧
    Completes (.orrImmediate sf n immr imms rn rd) s (.toXsp rd (x ||| y)) ∧
    Completes (.eorImmediate sf n immr imms rn rd) s (.toXsp rd (x ^^^ y)) ∧
    Completes (.movBitmaskImmediate sf n immr imms rd) s (.toXsp rd y) ∧
    Completes (.andsImmediate sf n immr imms rn rd) s (logicalWrites rd s (x &&& y)) ∧
    Completes (.tstImmediate sf n immr imms rn) s (logicalWrites 31#5 s (x &&& y))

/-- The bit mask immediates: an element of 2 to 64 bits holds a run of ones, rotated, and repeats over the operand; a run that
fills the element is reserved (00 R16; 30 R150). -/
def Obligations.BitMaskShape : Prop :=
  ∀ (sf n : BitVec 1) (imms immr : BitVec 6),
    let e := 2 ^ (n ++ ~~~imms).toNat.log2
    let ones := imms.toNat % e + 1
    ((logicalImmediate sf n imms immr).isSome = true ↔ (sf = 0#1 → n = 0#1) ∧ 2 ≤ e ∧ ones < e) ∧
    ∀ y, logicalImmediate sf n imms immr = some y → ∀ i, i < datasize sf →
      y.getLsbD i = ((BitVec.ofNat e (2 ^ ones - 1)).rotateRight (immr.toNat % e)).getLsbD (i % e)

/-- MOVZ, MOVN, MOVK and the MOV aliases of the first two (41 R261, R262, R265 to R267). -/
def Obligations.MoveWide : Prop :=
  ∀ (s : State) (sf : BitVec 1) (hw : BitVec 2) (imm16 : BitVec 16) (rd : Reg), 16 * hw.toNat < datasize sf →
    let n := datasize sf
    let v : BitVec n := imm16.setWidth n <<< (16 * hw.toNat)
    Completes (.movz sf hw imm16 rd) s (.toReg rd v) ∧
    Completes (.movWideImmediate sf hw imm16 rd) s (.toReg rd v) ∧
    Completes (.movn sf hw imm16 rd) s (.toReg rd (~~~v)) ∧
    Completes (.movInvertedWideImmediate sf hw imm16 rd) s (.toReg rd (~~~v)) ∧
    ∃ k : BitVec n, Completes (.movk sf hw imm16 rd) s (.toReg rd k) ∧ ∀ i, i < n →
      k.getLsbD i = if i / 16 = hw.toNat then imm16.getLsbD (i % 16) else (s.readXW n rd).getLsbD i

/-! ## Shifts, bitfields, counting -/

/-- LSLV, LSRV, ASRV, RORV and their aliases shift by the register modulo the operand size; EXTR takes a field of two
registers, and ROR (immediate) is its form with one (42 R301, R303, R310 to R324). -/
def Obligations.ShiftsAndExtracts : Prop :=
  ∀ (s : State) (sf : BitVec 1) (rm rn rd : Reg) (imms : BitVec 6),
    let n := datasize sf
    let x := s.readXW n rn
    let y := s.readXW n rm
    let k := y.toNat % n
    Completes (.lslv sf rm rn rd) s (.toReg rd (x <<< k)) ∧
    Completes (.lslRegister sf rm rn rd) s (.toReg rd (x <<< k)) ∧
    Completes (.lsrv sf rm rn rd) s (.toReg rd (x >>> k)) ∧
    Completes (.lsrRegister sf rm rn rd) s (.toReg rd (x >>> k)) ∧
    Completes (.asrv sf rm rn rd) s (.toReg rd (x.sshiftRight k)) ∧
    Completes (.asrRegister sf rm rn rd) s (.toReg rd (x.sshiftRight k)) ∧
    Completes (.rorv sf rm rn rd) s (.toReg rd (x.rotateRight k)) ∧
    Completes (.rorRegister sf rm rn rd) s (.toReg rd (x.rotateRight k)) ∧
    (imms.toNat < n →
      Completes (.extr sf sf rm imms rn rd) s (.toReg rd (((x ++ y) >>> imms.toNat).setWidth n)) ∧
      Completes (.rorImmediate sf sf rn imms rn rd) s (.toReg rd (x.rotateRight imms.toNat)))

/-- UBFM and its aliases UBFX, UBFIZ, LSL, LSR (immediate), UXTB, UXTH (42 R312, R315, R331 to R335). -/
def Obligations.UnsignedBitfield : Prop :=
  ∀ (s : State) (sf : BitVec 1) (immr imms : BitVec 6) (rn rd : Reg), immr.toNat < datasize sf → imms.toNat < datasize sf →
    let n := datasize sf
    let x := s.readXW n rn
    let v := unsignedField x immr.toNat imms.toNat
    Completes (.ubfm sf sf immr imms rn rd) s (.toReg rd v) ∧
    Completes (.ubfx sf sf immr imms rn rd) s (.toReg rd v) ∧
    Completes (.ubfiz sf sf immr imms rn rd) s (.toReg rd v) ∧
    (imms.toNat + 1 = immr.toNat →
      Completes (.lslImmediate sf sf immr imms rn rd) s (.toReg rd (x <<< (n - immr.toNat)))) ∧
    Completes (.lsrImmediate sf sf immr sf rn rd) s (.toReg rd (x >>> immr.toNat)) ∧
    Completes (.uxtb rn rd) s (.toReg rd ((s.readX rn).setWidth 8)) ∧
    Completes (.uxth rn rd) s (.toReg rd ((s.readX rn).setWidth 16))

/-- SBFM and its aliases SBFX, SBFIZ, ASR (immediate), SXTB, SXTH, SXTW (42 R302, R325 to R330). -/
def Obligations.SignedBitfield : Prop :=
  ∀ (s : State) (sf : BitVec 1) (immr imms : BitVec 6) (rn rd : Reg), immr.toNat < datasize sf → imms.toNat < datasize sf →
    let n := datasize sf
    let x := s.readXW n rn
    let v := signedField x immr.toNat imms.toNat
    Completes (.sbfm sf sf immr imms rn rd) s (.toReg rd v) ∧
    Completes (.sbfx sf sf immr imms rn rd) s (.toReg rd v) ∧
    Completes (.sbfiz sf sf immr imms rn rd) s (.toReg rd v) ∧
    Completes (.asrImmediate sf sf immr sf rn rd) s (.toReg rd (x.sshiftRight immr.toNat)) ∧
    Completes (.sxtb sf sf rn rd) s (.toReg rd ((x.setWidth 8).signExtend n)) ∧
    Completes (.sxth sf sf rn rd) s (.toReg rd ((x.setWidth 16).signExtend n)) ∧
    Completes (.sxtw rn rd) s (.toReg rd (((s.readX rn).setWidth 32).signExtend 64))

/-- BFM and its aliases BFI, BFXIL, BFC keep the bits of `Rd` outside the field (42 R304 to R307). -/
def Obligations.BitfieldInsert : Prop :=
  ∀ (s : State) (sf : BitVec 1) (immr imms : BitVec 6) (rn rd : Reg), immr.toNat < datasize sf → imms.toNat < datasize sf →
    let n := datasize sf
    let old := s.readXW n rd
    let v := insertedField old (s.readXW n rn) immr.toNat imms.toNat
    Completes (.bfm sf sf immr imms rn rd) s (.toReg rd v) ∧
    Completes (.bfi sf sf immr imms rn rd) s (.toReg rd v) ∧
    Completes (.bfxil sf sf immr imms rn rd) s (.toReg rd v) ∧
    Completes (.bfc sf sf immr imms rd) s (.toReg rd (insertedField old (0#n) immr.toNat imms.toNat))

/-- CLZ, CLS, RBIT and the reversals of bytes (42 R308, R309, R317 to R321; 00 R19). -/
def Obligations.CountAndReverse : Prop :=
  ∀ (s : State) (sf : BitVec 1) (rn rd : Reg),
    let n := datasize sf
    let x := s.readXW n rn
    (∃ k, k ≤ n ∧ Completes (.clz sf rn rd) s (.toReg rd (BitVec.ofNat n k)) ∧
      (∀ i, n - k ≤ i → i < n → x.getLsbD i = false) ∧ (k < n → x.getLsbD (n - 1 - k) = true)) ∧
    (∃ k, k < n ∧ Completes (.cls sf rn rd) s (.toReg rd (BitVec.ofNat n k)) ∧
      (∀ i, n - 1 - k ≤ i → i < n → x.getLsbD i = x.msb) ∧ (k < n - 1 → x.getLsbD (n - 2 - k) = !x.msb)) ∧
    (∃ v : BitVec n, Completes (.rbit sf rn rd) s (.toReg rd v) ∧
      ∀ i, i < n → v.getLsbD i = x.getLsbD (n - 1 - i)) ∧
    Reverses (.rev16 sf rn rd) s n 1 rn rd ∧ Reverses (.rev32 rn rd) s 64 3 rn rd ∧
    Reverses (.rev32Bit rn rd) s 32 3 rn rd ∧ Reverses (.rev64Bit rn rd) s 64 7 rn rd ∧
    Reverses (.rev64 rn rd) s 64 7 rn rd

/-! ## Conditional instructions -/

/-- CCMP and CCMN: the flags of the comparison if the condition holds, else the given flags (43 R361 to R364). -/
def Obligations.ConditionalCompare : Prop :=
  ∀ (s : State) (sf : BitVec 1) (rm rn : Reg) (imm5 : BitVec 5) (cond nzcv : BitVec 4),
    let n := datasize sf
    let x := s.readXW n rn
    let y := s.readXW n rm
    let z : BitVec n := BitVec.ofNat n imm5.toNat
    let choose := fun w => if conditionHolds s.p.flags cond then w else givenFlags s nzcv
    Completes (.ccmnRegister sf rm cond rn nzcv) s (choose (sumFlags .nothing s x y)) ∧
    Completes (.ccmpRegister sf rm cond rn nzcv) s (choose (diffFlags .nothing s x y)) ∧
    Completes (.ccmnImmediate sf imm5 cond rn nzcv) s (choose (sumFlags .nothing s x z)) ∧
    Completes (.ccmpImmediate sf imm5 cond rn nzcv) s (choose (diffFlags .nothing s x z))

/-- CSEL, CSINC, CSINV, CSNEG and their aliases; the condition of an alias is that of its base instruction (43 R365 to
R373). -/
def Obligations.ConditionalSelect : Prop :=
  ∀ (s : State) (sf : BitVec 1) (rm : Reg) (cond : BitVec 4) (rn rd : Reg),
    let n := datasize sf
    let x := s.readXW n rn
    let y := s.readXW n rm
    let select := fun a b : BitVec n => Writes.toReg rd (if conditionHolds s.p.flags cond then a else b)
    Completes (.csel sf rm cond rn rd) s (select x y) ∧
    Completes (.csinc sf rm cond rn rd) s (select x (y + 1)) ∧
    Completes (.csinv sf rm cond rn rd) s (select x (~~~y)) ∧
    Completes (.csneg sf rm cond rn rd) s (select x (-y)) ∧
    Completes (.cinc sf rm cond rn rd) s (select x (y + 1)) ∧
    Completes (.cinv sf rm cond rn rd) s (select x (~~~y)) ∧
    Completes (.cneg sf rm cond rn rd) s (select x (-y)) ∧
    Completes (.cset sf cond rd) s (select 0 1) ∧
    Completes (.csetm sf cond rd) s (select 0 (BitVec.allOnes n))

/-! ## Multiplication, division, CRC32 -/

/-- The multiplications, and the divisions: towards zero, and 0 for a divisor of 0 (44 R393 to R408). -/
def Obligations.MultiplyDivide : Prop :=
  ∀ (s : State) (sf : BitVec 1) (rm ra rn rd : Reg),
    let n := datasize sf
    let x := s.readXW n rn
    let y := s.readXW n rm
    let a := s.readXW n ra
    let long := s.readX ra
    let signed := (s.readXW 32 rn).signExtend 64 * (s.readXW 32 rm).signExtend 64
    let unsigned := (s.readXW 32 rn).setWidth 64 * (s.readXW 32 rm).setWidth 64
    let high := fun p : Int => BitVec.ofInt 64 (p / 2 ^ 64)
    Completes (.madd sf rm ra rn rd) s (.toReg rd (a + x * y)) ∧
    Completes (.msub sf rm ra rn rd) s (.toReg rd (a - x * y)) ∧
    Completes (.mul sf rm rn rd) s (.toReg rd (x * y)) ∧
    Completes (.mneg sf rm rn rd) s (.toReg rd (-(x * y))) ∧
    Completes (.smaddl rm ra rn rd) s (.toReg rd (long + signed)) ∧
    Completes (.smsubl rm ra rn rd) s (.toReg rd (long - signed)) ∧
    Completes (.smull rm rn rd) s (.toReg rd signed) ∧
    Completes (.smnegl rm rn rd) s (.toReg rd (-signed)) ∧
    Completes (.umaddl rm ra rn rd) s (.toReg rd (long + unsigned)) ∧
    Completes (.umsubl rm ra rn rd) s (.toReg rd (long - unsigned)) ∧
    Completes (.umull rm rn rd) s (.toReg rd unsigned) ∧
    Completes (.umnegl rm rn rd) s (.toReg rd (-unsigned)) ∧
    Completes (.smulh rm rn rd) s (.toReg rd (high ((s.readX rn).toInt * (s.readX rm).toInt))) ∧
    Completes (.umulh rm rn rd) s (.toReg rd (high ((s.readX rn).toNat * (s.readX rm).toNat))) ∧
    Completes (.udiv sf rm rn rd) s (.toReg rd (BitVec.ofNat n (x.toNat / y.toNat))) ∧
    Completes (.sdiv sf rm rn rd) s (.toReg rd (BitVec.ofInt n (x.toInt.tdiv y.toInt)))

/-- CRC32 and CRC32C of 8, 16, 32 or 64 bits onto a 32-bit accumulator, with the feature: the accumulator and the value, each
with its bits in reverse order, make a polynomial whose remainder is the result, its bits reversed again. Without the feature,
Undefined (44 R391, R392; 00 R19). -/
def Obligations.Crc32Results : Prop :=
  ∀ (s : State) (sf : BitVec 1) (rm : Reg) (sz : BitVec 2) (rn rd : Reg), (sf = 1#1 ↔ sz = 3#2) →
    let size := 8 * 2 ^ sz.toNat
    let data := ((s.readXW 32 rn).reverse ++ 0#size) ^^^ ((s.readXW size rm).reverse ++ 0#32).setWidth (32 + size)
    (s.cfg.haveCRC = true →
      (∃ r, IsRemainder data 0x04C11DB7#32 r ∧ Completes (.crc32 sf rm sz rn rd) s (.toReg rd r.reverse)) ∧
      (∃ r, IsRemainder data 0x1EDC6F41#32 r ∧ Completes (.crc32c sf rm sz rn rd) s (.toReg rd r.reverse))) ∧
    (s.cfg.haveCRC = false →
      Traps (.crc32 sf rm sz rn rd) s .undefined ∧ Traps (.crc32c sf rm sz rn rd) s .undefined)

/-! ## Branches -/

/-- The branches: where they go, and what BL and BLR leave in X30 (45 R431 to R440). -/
def Obligations.Branches : Prop :=
  ∀ (s : State) (sf : BitVec 1) (imm26 : BitVec 26) (imm19 : BitVec 19) (imm14 : BitVec 14) (cond : BitVec 4)
    (b40 : BitVec 5) (rn rt : Reg),
    let n := datasize sf
    let branchIf := fun (taken : Bool) (offset : Addr) =>
      if taken then Writes.jump (s.pc + offset) else Writes.nothing
    let isZero := decide (s.readXW n rt = 0#n)
    let bit := (s.readX rt).getLsbD (32 * sf.toNat + b40.toNat)
    Completes (.b imm26) s (.jump (s.pc + words imm26)) ∧
    Completes (.bl imm26) s { Writes.toReg 30#5 (s.pc + 4#64) with pc := some (s.pc + words imm26) } ∧
    Completes (.bCond imm19 cond) s (branchIf (conditionHolds s.p.flags cond) (words imm19)) ∧
    Completes (.br rn) s (.jump (s.readX rn)) ∧
    Completes (.ret rn) s (.jump (s.readX rn)) ∧
    Completes (.blr rn) s { Writes.toReg 30#5 (s.pc + 4#64) with pc := some (s.readX rn) } ∧
    Completes (.cbz sf imm19 rt) s (branchIf isZero (words imm19)) ∧
    Completes (.cbnz sf imm19 rt) s (branchIf (!isZero) (words imm19)) ∧
    Completes (.tbz sf b40 imm14 rt) s (branchIf (!bit) (words imm14)) ∧
    Completes (.tbnz sf b40 imm14 rt) s (branchIf bit (words imm14))

/-! ## Loads and stores -/

/-- The loads at a base and an offset: unsigned scaled, unscaled, unprivileged (46 R462, R464 to R468, R511 to R516, R520 to
R525). -/
def Obligations.OffsetLoads : Prop :=
  ∀ (s : State) (size0 opc0 : BitVec 1) (imm12 : BitVec 12) (imm9 : BitVec 9) (rn rt : Reg),
    let scaled := fun n : Nat => BitVec.ofNat 64 (imm12.toNat * n)
    let offset := BitVec.ofInt 64 imm9.toInt
    let n := wordBytes size0
    Loads (.ldrImmediateUnsignedOffset size0 imm12 rn rt) s rn rt (scaled n) n .normal zx ∧
    Loads (.ldrbImmediateUnsignedOffset imm12 rn rt) s rn rt (scaled 1) 1 .normal zx ∧
    Loads (.ldrhImmediateUnsignedOffset imm12 rn rt) s rn rt (scaled 2) 2 .normal zx ∧
    Loads (.ldrsbImmediateUnsignedOffset opc0 imm12 rn rt) s rn rt (scaled 1) 1 .normal (sx opc0) ∧
    Loads (.ldrshImmediateUnsignedOffset opc0 imm12 rn rt) s rn rt (scaled 2) 2 .normal (sx opc0) ∧
    Loads (.ldrswImmediateUnsignedOffset imm12 rn rt) s rn rt (scaled 4) 4 .normal (sx 0#1) ∧
    Loads (.ldur size0 imm9 rn rt) s rn rt offset n .normal zx ∧
    Loads (.ldurb imm9 rn rt) s rn rt offset 1 .normal zx ∧
    Loads (.ldurh imm9 rn rt) s rn rt offset 2 .normal zx ∧
    Loads (.ldursb opc0 imm9 rn rt) s rn rt offset 1 .normal (sx opc0) ∧
    Loads (.ldursh opc0 imm9 rn rt) s rn rt offset 2 .normal (sx opc0) ∧
    Loads (.ldursw imm9 rn rt) s rn rt offset 4 .normal (sx 0#1) ∧
    Loads (.ldtr size0 imm9 rn rt) s rn rt offset n .unpriv zx ∧
    Loads (.ldtrb imm9 rn rt) s rn rt offset 1 .unpriv zx ∧
    Loads (.ldtrh imm9 rn rt) s rn rt offset 2 .unpriv zx ∧
    Loads (.ldtrsb opc0 imm9 rn rt) s rn rt offset 1 .unpriv (sx opc0) ∧
    Loads (.ldtrsh opc0 imm9 rn rt) s rn rt offset 2 .unpriv (sx opc0) ∧
    Loads (.ldtrsw imm9 rn rt) s rn rt offset 4 .unpriv (sx 0#1)

/-- The stores at a base and an offset (46 R472 to R474, R517 to R519, R527 to R529). -/
def Obligations.OffsetStores : Prop :=
  ∀ (s : State) (size0 : BitVec 1) (imm12 : BitVec 12) (imm9 : BitVec 9) (rn rt : Reg),
    let scaled := fun n : Nat => BitVec.ofNat 64 (imm12.toNat * n)
    let offset := BitVec.ofInt 64 imm9.toInt
    let n := wordBytes size0
    Stores (.strImmediateUnsignedOffset size0 imm12 rn rt) s rn rt (scaled n) n .normal ∧
    Stores (.strbImmediateUnsignedOffset imm12 rn rt) s rn rt (scaled 1) 1 .normal ∧
    Stores (.strhImmediateUnsignedOffset imm12 rn rt) s rn rt (scaled 2) 2 .normal ∧
    Stores (.stur size0 imm9 rn rt) s rn rt offset n .normal ∧
    Stores (.sturb imm9 rn rt) s rn rt offset 1 .normal ∧
    Stores (.sturh imm9 rn rt) s rn rt offset 2 .normal ∧
    Stores (.sttr size0 imm9 rn rt) s rn rt offset n .unpriv ∧
    Stores (.sttrb imm9 rn rt) s rn rt offset 1 .unpriv ∧
    Stores (.sttrh imm9 rn rt) s rn rt offset 2 .unpriv

/-- The pre-index and post-index loads and stores: the base register gets the sum (46 R461, R462, R464 to R468, R472 to
R474). -/
def Obligations.WritebackAccesses : Prop :=
  ∀ (s : State) (size0 opc0 : BitVec 1) (imm9 : BitVec 9) (rn rt : Reg),
    let offset := BitVec.ofInt 64 imm9.toInt
    let n := wordBytes size0
    LoadsAndWritesBase (.ldrImmediatePreIndex size0 imm9 rn rt) s true rn rt offset n zx ∧
    LoadsAndWritesBase (.ldrbImmediatePreIndex imm9 rn rt) s true rn rt offset 1 zx ∧
    LoadsAndWritesBase (.ldrhImmediatePreIndex imm9 rn rt) s true rn rt offset 2 zx ∧
    LoadsAndWritesBase (.ldrsbImmediatePreIndex opc0 imm9 rn rt) s true rn rt offset 1 (sx opc0) ∧
    LoadsAndWritesBase (.ldrshImmediatePreIndex opc0 imm9 rn rt) s true rn rt offset 2 (sx opc0) ∧
    LoadsAndWritesBase (.ldrswImmediatePreIndex imm9 rn rt) s true rn rt offset 4 (sx 0#1) ∧
    LoadsAndWritesBase (.ldrImmediatePostIndex size0 imm9 rn rt) s false rn rt offset n zx ∧
    LoadsAndWritesBase (.ldrbImmediatePostIndex imm9 rn rt) s false rn rt offset 1 zx ∧
    LoadsAndWritesBase (.ldrhImmediatePostIndex imm9 rn rt) s false rn rt offset 2 zx ∧
    LoadsAndWritesBase (.ldrsbImmediatePostIndex opc0 imm9 rn rt) s false rn rt offset 1 (sx opc0) ∧
    LoadsAndWritesBase (.ldrshImmediatePostIndex opc0 imm9 rn rt) s false rn rt offset 2 (sx opc0) ∧
    LoadsAndWritesBase (.ldrswImmediatePostIndex imm9 rn rt) s false rn rt offset 4 (sx 0#1) ∧
    StoresAndWritesBase (.strImmediatePreIndex size0 imm9 rn rt) s true rn rt offset n ∧
    StoresAndWritesBase (.strbImmediatePreIndex imm9 rn rt) s true rn rt offset 1 ∧
    StoresAndWritesBase (.strhImmediatePreIndex imm9 rn rt) s true rn rt offset 2 ∧
    StoresAndWritesBase (.strImmediatePostIndex size0 imm9 rn rt) s false rn rt offset n ∧
    StoresAndWritesBase (.strbImmediatePostIndex imm9 rn rt) s false rn rt offset 1 ∧
    StoresAndWritesBase (.strhImmediatePostIndex imm9 rn rt) s false rn rt offset 2

/-- Every form with writeback whose base is also a register that it loads or stores, for each choice of the implementation:
Undefined, no effect, of a load no writeback or an UNKNOWN base, of a store the value from before the writeback or an UNKNOWN
one; the accesses that are made abort as others do (46 R461; 47 R540; 00 R11; 60 R803, R811, R812). That one parameter holds the choice for all sites of a kind is the model's choice (log 8). -/
def Obligations.WritebackOverlaps : Prop :=
  ∀ (s : State) (size0 opc0 : BitVec 1) (imm9 : BitVec 9) (imm7 : BitVec 7) (r rt rt2 : Reg), r ≠ 31#5 →
    let offset := BitVec.ofInt 64 imm9.toInt
    let n := wordBytes size0
    let pairOffset := fun bytes : Nat => BitVec.ofInt 64 (imm7.toInt * bytes)
    (LoadsOverBase (.ldrImmediatePreIndex size0 imm9 r r) s true r offset n zx ∧
      LoadsOverBase (.ldrbImmediatePreIndex imm9 r r) s true r offset 1 zx ∧
      LoadsOverBase (.ldrhImmediatePreIndex imm9 r r) s true r offset 2 zx ∧
      LoadsOverBase (.ldrsbImmediatePreIndex opc0 imm9 r r) s true r offset 1 (sx opc0) ∧
      LoadsOverBase (.ldrshImmediatePreIndex opc0 imm9 r r) s true r offset 2 (sx opc0) ∧
      LoadsOverBase (.ldrswImmediatePreIndex imm9 r r) s true r offset 4 (sx 0#1)) ∧
    (LoadsOverBase (.ldrImmediatePostIndex size0 imm9 r r) s false r offset n zx ∧
      LoadsOverBase (.ldrbImmediatePostIndex imm9 r r) s false r offset 1 zx ∧
      LoadsOverBase (.ldrhImmediatePostIndex imm9 r r) s false r offset 2 zx ∧
      LoadsOverBase (.ldrsbImmediatePostIndex opc0 imm9 r r) s false r offset 1 (sx opc0) ∧
      LoadsOverBase (.ldrshImmediatePostIndex opc0 imm9 r r) s false r offset 2 (sx opc0) ∧
      LoadsOverBase (.ldrswImmediatePostIndex imm9 r r) s false r offset 4 (sx 0#1)) ∧
    (StoresOverBase (.strImmediatePreIndex size0 imm9 r r) s true r offset n ∧
      StoresOverBase (.strbImmediatePreIndex imm9 r r) s true r offset 1 ∧
      StoresOverBase (.strhImmediatePreIndex imm9 r r) s true r offset 2 ∧
      StoresOverBase (.strImmediatePostIndex size0 imm9 r r) s false r offset n ∧
      StoresOverBase (.strbImmediatePostIndex imm9 r r) s false r offset 1 ∧
      StoresOverBase (.strhImmediatePostIndex imm9 r r) s false r offset 2) ∧
    (LoadsPairOverBase (.ldpPreIndex size0 imm7 rt2 r rt) s .pre r rt rt2 (pairOffset n) n zx ∧
      LoadsPairOverBase (.ldpPostIndex size0 imm7 rt2 r rt) s .post r rt rt2 (pairOffset n) n zx ∧
      LoadsPairOverBase (.ldpswPreIndex imm7 rt2 r rt) s .pre r rt rt2 (pairOffset 4) 4 (sx 0#1) ∧
      LoadsPairOverBase (.ldpswPostIndex imm7 rt2 r rt) s .post r rt rt2 (pairOffset 4) 4 (sx 0#1)) ∧
    (StoresPairOverBase (.stpPreIndex size0 imm7 rt2 r rt) s .pre r rt rt2 (pairOffset n) n ∧
      StoresPairOverBase (.stpPostIndex size0 imm7 rt2 r rt) s .post r rt rt2 (pairOffset n) n)

/-- The loads and stores at a register offset, extended from a word or doubleword and scaled by the access size if `S` is 1
(46 R500 to R510). -/
def Obligations.RegisterOffset : Prop :=
  ∀ (s : State) (size0 opc0 s1 : BitVec 1) (rm rn rt : Reg) (option : BitVec 3), option.getLsbD 1 = true →
    let offset := fun scale : Nat => extended (s.readX rm) option (if s1 = 1#1 then scale else 0)
    let scale := if size0 = 1#1 then 3 else 2
    let n := wordBytes size0
    Loads (.ldrRegister size0 rm option s1 rn rt) s rn rt (offset scale) n .normal zx ∧
    Loads (.ldrbRegister rm option s1 rn rt) s rn rt (offset 0) 1 .normal zx ∧
    Loads (.ldrhRegister rm option s1 rn rt) s rn rt (offset 1) 2 .normal zx ∧
    Loads (.ldrsbRegister opc0 rm option s1 rn rt) s rn rt (offset 0) 1 .normal (sx opc0) ∧
    Loads (.ldrshRegister opc0 rm option s1 rn rt) s rn rt (offset 1) 2 .normal (sx opc0) ∧
    Loads (.ldrswRegister rm option s1 rn rt) s rn rt (offset 2) 4 .normal (sx 0#1) ∧
    Stores (.strRegister size0 rm option s1 rn rt) s rn rt (offset scale) n .normal ∧
    Stores (.strbRegister rm option s1 rn rt) s rn rt (offset 0) 1 .normal ∧
    Stores (.strhRegister rm option s1 rn rt) s rn rt (offset 1) 2 .normal

/-- The loads from a label, and the prefetches, which change nothing and abort nowhere (46 R463, R469 to R471, R507, R526;
20 R135). -/
def Obligations.LiteralLoadsAndPrefetches : Prop :=
  ∀ (s : State) (opc0 s1 : BitVec 1) (imm12 : BitVec 12) (imm9 : BitVec 9) (imm19 : BitVec 19) (option : BitVec 3)
    (rm rn rt : Reg),
    let a := s.pc + words imm19
    (s.Allowed a (wordBytes opc0) .normal .read →
      Completes (.ldrLiteral opc0 imm19 rt) s (.toReg rt (s.loadBytes a (wordBytes opc0)))) ∧
    (s.Allowed a 4 .normal .read →
      Completes (.ldrswLiteral imm19 rt) s (.toReg rt ((s.loadBytes a 4).signExtend 64))) ∧
    Completes (.prfmImmediate imm12 rn rt) s .nothing ∧
    Completes (.prfmLiteral imm19 rt) s .nothing ∧
    (option.getLsbD 1 = true → Completes (.prfmRegister rm option s1 rn rt) s .nothing) ∧
    Completes (.prfum imm9 rn rt) s .nothing

/-- LDP, LDNP, LDPSW, STP, STNP: two adjacent elements, the first register at the lower address; and a load pair of one
register twice, for each choice of the implementation, one parameter for all such sites (47 R540 to R545; 20 R96; log 8). -/
def Obligations.PairAccesses : Prop :=
  ∀ (s : State) (opc1 : BitVec 1) (imm7 : BitVec 7) (rt2 rn rt : Reg),
    let n := wordBytes opc1
    let offset := fun bytes : Nat => BitVec.ofInt 64 (imm7.toInt * bytes)
    LoadsPair (.ldpSignedOffset opc1 imm7 rt2 rn rt) s .offset rn rt rt2 (offset n) n .normal zx ∧
    LoadsPair (.ldpPreIndex opc1 imm7 rt2 rn rt) s .pre rn rt rt2 (offset n) n .normal zx ∧
    LoadsPair (.ldpPostIndex opc1 imm7 rt2 rn rt) s .post rn rt rt2 (offset n) n .normal zx ∧
    LoadsPair (.ldnp opc1 imm7 rt2 rn rt) s .offset rn rt rt2 (offset n) n .stream zx ∧
    LoadsPair (.ldpswSignedOffset imm7 rt2 rn rt) s .offset rn rt rt2 (offset 4) 4 .normal (sx 0#1) ∧
    LoadsPair (.ldpswPreIndex imm7 rt2 rn rt) s .pre rn rt rt2 (offset 4) 4 .normal (sx 0#1) ∧
    LoadsPair (.ldpswPostIndex imm7 rt2 rn rt) s .post rn rt rt2 (offset 4) 4 .normal (sx 0#1) ∧
    StoresPair (.stpSignedOffset opc1 imm7 rt2 rn rt) s .offset rn rt rt2 (offset n) n .normal ∧
    StoresPair (.stpPreIndex opc1 imm7 rt2 rn rt) s .pre rn rt rt2 (offset n) n .normal ∧
    StoresPair (.stpPostIndex opc1 imm7 rt2 rn rt) s .post rn rt rt2 (offset n) n .normal ∧
    StoresPair (.stnp opc1 imm7 rt2 rn rt) s .offset rn rt rt2 (offset n) n .stream

/-! ## Ordered, exclusive and atomic accesses -/

/-- The acquire loads and release stores; the limited ones need their feature, and are Undefined without it (47 R561 to R563,
R568 to R570, R575 to R580; 30 R147). -/
def Obligations.OrderedAccesses : Prop :=
  ∀ (s : State) (size0 : BitVec 1) (rn rt : Reg),
    let n := wordBytes size0
    Loads (.ldar size0 rn rt) s rn rt 0#64 n .ordered zx ∧
    Loads (.ldarb rn rt) s rn rt 0#64 1 .ordered zx ∧
    Loads (.ldarh rn rt) s rn rt 0#64 2 .ordered zx ∧
    Stores (.stlr size0 rn rt) s rn rt 0#64 n .ordered ∧
    Stores (.stlrb rn rt) s rn rt 0#64 1 .ordered ∧
    Stores (.stlrh rn rt) s rn rt 0#64 2 .ordered ∧
    (s.cfg.haveLOR = true →
      Loads (.ldlar size0 rn rt) s rn rt 0#64 n .limitedOrdered zx ∧
      Loads (.ldlarb rn rt) s rn rt 0#64 1 .limitedOrdered zx ∧
      Loads (.ldlarh rn rt) s rn rt 0#64 2 .limitedOrdered zx ∧
      Stores (.stllr size0 rn rt) s rn rt 0#64 n .limitedOrdered ∧
      Stores (.stllrb rn rt) s rn rt 0#64 1 .limitedOrdered ∧
      Stores (.stllrh rn rt) s rn rt 0#64 2 .limitedOrdered) ∧
    (s.cfg.haveLOR = false →
      Traps (.ldlar size0 rn rt) s .undefined ∧ Traps (.ldlarb rn rt) s .undefined ∧
      Traps (.ldlarh rn rt) s .undefined ∧ Traps (.stllr size0 rn rt) s .undefined ∧
      Traps (.stllrb rn rt) s .undefined ∧ Traps (.stllrh rn rt) s .undefined)

/-- The load-exclusives: the value, and the mark of the monitor; their aborts; and a pair of one register twice, for each choice
of the implementation (47 R560, R564 to R567, R571 to R574; 20 R125, R129; log 8). The order of the aborts of a pair of words,
which 20 R91 calls one access, is the model's choice (log 38). -/
def Obligations.ExclusiveLoads : Prop :=
  ∀ (s : State) (size0 : BitVec 1) (rt2 rn rt : Reg),
    let n := wordBytes size0
    LoadsExclusive (.ldxr size0 rn rt) s rn rt n .atomic ∧
    LoadsExclusive (.ldxrb rn rt) s rn rt 1 .atomic ∧
    LoadsExclusive (.ldxrh rn rt) s rn rt 2 .atomic ∧
    LoadsExclusive (.ldaxr size0 rn rt) s rn rt n .ordered ∧
    LoadsExclusive (.ldaxrb rn rt) s rn rt 1 .ordered ∧
    LoadsExclusive (.ldaxrh rn rt) s rn rt 2 .ordered ∧
    LoadsExclusivePair (.ldxp size0 rt2 rn rt) s rn rt rt2 n .atomic ∧
    LoadsExclusivePair (.ldaxp size0 rt2 rn rt) s rn rt rt2 n .ordered

/-- The store-exclusives, with and without the monitor, their aborts, and the overlaps of their status register (47 R560,
R581 to R588; 20 R101, R126, R129). The choices of an overlap, one parameter for each of the two kinds, are the model's
(log 8, 19), and so is the order of the aborts of a pair, which 20 R91 calls one access (log 38). -/
def Obligations.ExclusiveStores : Prop :=
  ∀ (s : State) (size0 : BitVec 1) (rs rt2 rn rt : Reg),
    let n := wordBytes size0
    let one := fun (bytes : Nat) (a : Addr) => Writes.nothing.store s a bytes (s.readX rt)
    let two := fun a : Addr => (one n a).store s (a + BitVec.ofNat 64 n) n (s.readX rt2)
    let single := fun (i : Instr) (bytes : Nat) (acc : AccType) =>
      StoresExclusive i s rs rn (rs = rt) bytes acc (fun a => AccessAbort s a bytes acc .write True) (one bytes)
    let pair := fun (i : Instr) (acc : AccType) =>
      StoresExclusive i s rs rn (rs = rt ∨ rs = rt2) (2 * n) acc (fun a => PairAbort s a n acc .write True) two
    single (.stxr size0 rs rn rt) n .atomic ∧ single (.stxrb rs rn rt) 1 .atomic ∧ single (.stxrh rs rn rt) 2 .atomic ∧
    single (.stlxr size0 rs rn rt) n .ordered ∧ single (.stlxrb rs rn rt) 1 .ordered ∧
    single (.stlxrh rs rn rt) 2 .ordered ∧
    pair (.stxp size0 rs rt2 rn rt) .atomic ∧ pair (.stlxp size0 rs rt2 rn rt) .ordered

/-- CAS of a byte, halfword, word, doubleword and of a pair in even registers, their aborts, and Undefined for a pair in odd
registers or without the feature (48 R610 to R614; 20 R130; 30 R147). That a CAS whose compare fails is checked for writing
too, and the order of the checks of a pair, are the model's choices (log 14, 38). -/
def Obligations.CompareAndSwap : Prop :=
  ∀ (s : State) (size0 l o0 : BitVec 1) (rs rn rt : Reg),
    let n := wordBytes size0
    let a := s.readXsp rn
    let a2 := a + BitVec.ofNat 64 n
    let old := s.loadBytes a n
    let old2 := s.loadBytes a2 n
    let loaded := Writes.toRegs rs (rs + 1#5) old old2
    Compares (.casb l rs o0 rn rt) s rs rn rt 1 ∧
    Compares (.cash l rs o0 rn rt) s rs rn rt 2 ∧
    Compares (.cas size0 l rs o0 rn rt) s rs rn rt n ∧
    NeedsAtomics (.casp size0 l rs o0 rn rt) s
      ((rs.getLsbD 0 = true ∨ rt.getLsbD 0 = true → Traps (.casp size0 l rs o0 rn rt) s .undefined) ∧
        (rs.getLsbD 0 = false → rt.getLsbD 0 = false →
          (s.mem.wf → s.BaseReady rn → s.Allowed a (2 * n) .atomicRW .read → s.Allowed a (2 * n) .atomicRW .write →
            Completes (.casp size0 l rs o0 rn rt) s
              (if old = s.readXW (8 * n) rs ∧ old2 = s.readXW (8 * n) (rs + 1#5)
                then (loaded.store s a n (s.readX rt)).store s a2 n (s.readX (rt + 1#5)) else loaded)) ∧
          Aborts (.casp size0 l rs o0 rn rt) s rn fun e =>
            (¬s.Aligned a (2 * n) .atomicRW ∧ e = .dataAbort a .alignment false false) ∨
            (s.Aligned a (2 * n) .atomicRW ∧ TwoAborts (AtomicAbort s a n) (AtomicAbort s a2 n)
              (s.Allowed a n .atomicRW .read ∧ s.Allowed a n .atomicRW .write) e)))

/-- The atomic loads and the atomic stores, which are the loads whose `Rt` is the zero register, their aborts, and Undefined
without the feature (48 R610, R615 to R665; 20 R130; 30 R147; of WnR: log 14). -/
def Obligations.AtomicReadModifyWrite : Prop :=
  ∀ (s : State) (size0 a r : BitVec 1) (rs rn rt : Reg),
    let n := wordBytes size0
    let z := 31#5
    let smax := fun (w : Nat) (x y : BitVec w) => if x.toInt < y.toInt then y else x
    let smin := fun (w : Nat) (x y : BitVec w) => if x.toInt < y.toInt then x else y
    let umax := fun (w : Nat) (x y : BitVec w) => if x.toNat < y.toNat then y else x
    let umin := fun (w : Nat) (x y : BitVec w) => if x.toNat < y.toNat then x else y
    (Atomically (.ldaddb a r rs rn rt) s rs rn rt 1 (· + ·) ∧ Atomically (.ldaddh a r rs rn rt) s rs rn rt 2 (· + ·) ∧
      Atomically (.ldadd size0 a r rs rn rt) s rs rn rt n (· + ·)) ∧
    (Atomically (.ldclrb a r rs rn rt) s rs rn rt 1 (· &&& ~~~·) ∧
      Atomically (.ldclrh a r rs rn rt) s rs rn rt 2 (· &&& ~~~·) ∧
      Atomically (.ldclr size0 a r rs rn rt) s rs rn rt n (· &&& ~~~·)) ∧
    (Atomically (.ldeorb a r rs rn rt) s rs rn rt 1 (· ^^^ ·) ∧ Atomically (.ldeorh a r rs rn rt) s rs rn rt 2 (· ^^^ ·) ∧
      Atomically (.ldeor size0 a r rs rn rt) s rs rn rt n (· ^^^ ·)) ∧
    (Atomically (.ldsetb a r rs rn rt) s rs rn rt 1 (· ||| ·) ∧ Atomically (.ldseth a r rs rn rt) s rs rn rt 2 (· ||| ·) ∧
      Atomically (.ldset size0 a r rs rn rt) s rs rn rt n (· ||| ·)) ∧
    (Atomically (.ldsmaxb a r rs rn rt) s rs rn rt 1 (smax _) ∧ Atomically (.ldsmaxh a r rs rn rt) s rs rn rt 2 (smax _) ∧
      Atomically (.ldsmax size0 a r rs rn rt) s rs rn rt n (smax _)) ∧
    (Atomically (.ldsminb a r rs rn rt) s rs rn rt 1 (smin _) ∧ Atomically (.ldsminh a r rs rn rt) s rs rn rt 2 (smin _) ∧
      Atomically (.ldsmin size0 a r rs rn rt) s rs rn rt n (smin _)) ∧
    (Atomically (.ldumaxb a r rs rn rt) s rs rn rt 1 (umax _) ∧ Atomically (.ldumaxh a r rs rn rt) s rs rn rt 2 (umax _) ∧
      Atomically (.ldumax size0 a r rs rn rt) s rs rn rt n (umax _)) ∧
    (Atomically (.lduminb a r rs rn rt) s rs rn rt 1 (umin _) ∧ Atomically (.lduminh a r rs rn rt) s rs rn rt 2 (umin _) ∧
      Atomically (.ldumin size0 a r rs rn rt) s rs rn rt n (umin _)) ∧
    (Atomically (.swpb a r rs rn rt) s rs rn rt 1 (fun _ x => x) ∧
      Atomically (.swph a r rs rn rt) s rs rn rt 2 (fun _ x => x) ∧
      Atomically (.swp size0 a r rs rn rt) s rs rn rt n (fun _ x => x)) ∧
    (Atomically (.staddb r rs rn) s rs rn z 1 (· + ·) ∧ Atomically (.staddh r rs rn) s rs rn z 2 (· + ·) ∧
      Atomically (.stadd size0 r rs rn) s rs rn z n (· + ·)) ∧
    (Atomically (.stclrb r rs rn) s rs rn z 1 (· &&& ~~~·) ∧ Atomically (.stclrh r rs rn) s rs rn z 2 (· &&& ~~~·) ∧
      Atomically (.stclr size0 r rs rn) s rs rn z n (· &&& ~~~·)) ∧
    (Atomically (.steorb r rs rn) s rs rn z 1 (· ^^^ ·) ∧ Atomically (.steorh r rs rn) s rs rn z 2 (· ^^^ ·) ∧
      Atomically (.steor size0 r rs rn) s rs rn z n (· ^^^ ·)) ∧
    (Atomically (.stsetb r rs rn) s rs rn z 1 (· ||| ·) ∧ Atomically (.stseth r rs rn) s rs rn z 2 (· ||| ·) ∧
      Atomically (.stset size0 r rs rn) s rs rn z n (· ||| ·)) ∧
    (Atomically (.stsmaxb r rs rn) s rs rn z 1 (smax _) ∧ Atomically (.stsmaxh r rs rn) s rs rn z 2 (smax _) ∧
      Atomically (.stsmax size0 r rs rn) s rs rn z n (smax _)) ∧
    (Atomically (.stsminb r rs rn) s rs rn z 1 (smin _) ∧ Atomically (.stsminh r rs rn) s rs rn z 2 (smin _) ∧
      Atomically (.stsmin size0 r rs rn) s rs rn z n (smin _)) ∧
    (Atomically (.stumaxb r rs rn) s rs rn z 1 (umax _) ∧ Atomically (.stumaxh r rs rn) s rs rn z 2 (umax _) ∧
      Atomically (.stumax size0 r rs rn) s rs rn z n (umax _)) ∧
    (Atomically (.stuminb r rs rn) s rs rn z 1 (umin _) ∧ Atomically (.stuminh r rs rn) s rs rn z 2 (umin _) ∧
      Atomically (.stumin size0 r rs rn) s rs rn z n (umin _))

/-! ## Memory -/

/-- What a load and a store that are allowed read and write: in little-endian order byte `i` of the value is at `a + i`, in
big-endian order at `a + (n - 1 - i)`; the other bytes stay. An access that is not allowed gives no value and no state
(20 R92, R93, R95). The byte order, the alignment check and the rights of the access are in the words of the rules
(20 R95, R100, R113, R114; `State.BigEndianData`, `State.Aligned`, `State.Permitted`), but for the SCTLR that governs EL0 and
the kind of access that PAN looks at, which are the model's choices (log 16, 28). -/
def Obligations.MemoryBytes : Prop :=
  ∀ (s : State) (a : Addr) (n : Nat) (v : DWord) (acc : AccType), s.mem.wf → n ≤ 8 →
    let place := fun i => if s.BigEndianData then a + BitVec.ofNat 64 (n - 1 - i) else a + BitVec.ofNat 64 i
    (s.Allowed a n acc .read → ∃ x, s.memRead a n acc = .ok x ∧ ∀ i, i < n → byteOf x i = s.mem.byte (place i)) ∧
    (¬s.Allowed a n acc .read → ∃ e, s.memRead a n acc = .error e) ∧
    (s.Allowed a n acc .write → ∃ m, s.memWrite a n v acc = .ok { s with mem := m } ∧
      (∀ i, i < n → m.byte (place i) = byteOf v i) ∧ ∀ b, (∀ i, i < n → b ≠ place i) → m.byte b = s.mem.byte b) ∧
    (¬s.Allowed a n acc .write → ∃ e, s.memWrite a n v acc = .error e)

/-- A load of what has just been stored gives the value, in both byte orders (20 R98). -/
def Obligations.LoadAfterStore : Prop :=
  ∀ (s : State) (a : Addr) (n : Nat) (v : BitVec (8 * n)), s.mem.wf → n ≤ 16 → (s.storeBytes a n v).loadBytes a n = v

/-- The aborts of every load and store of one register and of a pair, and of the ordered ones, in the order of the checks: SP
alignment, then of each access alignment, translation, permission (60 R803, R811, R812; 20 R100 to R114; 47 R540(g)). Those of
the exclusive and atomic forms are in their own statements. -/
def Obligations.AccessFaults : Prop :=
  ∀ (s : State) (size0 opc0 s1 : BitVec 1) (imm12 : BitVec 12) (imm9 : BitVec 9) (imm7 : BitVec 7) (imm19 : BitVec 19)
    (option : BitVec 3) (rm rt2 rn rt : Reg),
    let n := wordBytes size0
    let base := s.readXsp rn
    let load := fun (i : Instr) (a : Addr) (n : Nat) (acc : AccType) => Aborts i s rn (AccessAbort s a n acc .read False)
    let store := fun (i : Instr) (a : Addr) (n : Nat) (acc : AccType) => Aborts i s rn (AccessAbort s a n acc .write False)
    let two := fun (i : Instr) (a : Addr) (n : Nat) (acc : AccType) (kind : AccessKind) =>
      Aborts i s rn (PairAborts s a n acc kind)
    let scaled := fun n : Nat => base + BitVec.ofNat 64 (imm12.toNat * n)
    let near := base + BitVec.ofInt 64 imm9.toInt
    let indexed := fun scale : Nat => base + extended (s.readX rm) option (if s1 = 1#1 then scale else 0)
    let pair := fun n : Nat => base + BitVec.ofInt 64 (imm7.toInt * n)
    let literal := s.pc + words imm19
    (load (.ldrImmediateUnsignedOffset size0 imm12 rn rt) (scaled n) n .normal ∧
      load (.ldrbImmediateUnsignedOffset imm12 rn rt) (scaled 1) 1 .normal ∧
      load (.ldrhImmediateUnsignedOffset imm12 rn rt) (scaled 2) 2 .normal ∧
      load (.ldrsbImmediateUnsignedOffset opc0 imm12 rn rt) (scaled 1) 1 .normal ∧
      load (.ldrshImmediateUnsignedOffset opc0 imm12 rn rt) (scaled 2) 2 .normal ∧
      load (.ldrswImmediateUnsignedOffset imm12 rn rt) (scaled 4) 4 .normal ∧
      store (.strImmediateUnsignedOffset size0 imm12 rn rt) (scaled n) n .normal ∧
      store (.strbImmediateUnsignedOffset imm12 rn rt) (scaled 1) 1 .normal ∧
      store (.strhImmediateUnsignedOffset imm12 rn rt) (scaled 2) 2 .normal) ∧
    (load (.ldur size0 imm9 rn rt) near n .normal ∧ load (.ldurb imm9 rn rt) near 1 .normal ∧
      load (.ldurh imm9 rn rt) near 2 .normal ∧ load (.ldursb opc0 imm9 rn rt) near 1 .normal ∧
      load (.ldursh opc0 imm9 rn rt) near 2 .normal ∧ load (.ldursw imm9 rn rt) near 4 .normal ∧
      store (.stur size0 imm9 rn rt) near n .normal ∧ store (.sturb imm9 rn rt) near 1 .normal ∧
      store (.sturh imm9 rn rt) near 2 .normal) ∧
    (load (.ldtr size0 imm9 rn rt) near n .unpriv ∧ load (.ldtrb imm9 rn rt) near 1 .unpriv ∧
      load (.ldtrh imm9 rn rt) near 2 .unpriv ∧ load (.ldtrsb opc0 imm9 rn rt) near 1 .unpriv ∧
      load (.ldtrsh opc0 imm9 rn rt) near 2 .unpriv ∧ load (.ldtrsw imm9 rn rt) near 4 .unpriv ∧
      store (.sttr size0 imm9 rn rt) near n .unpriv ∧ store (.sttrb imm9 rn rt) near 1 .unpriv ∧
      store (.sttrh imm9 rn rt) near 2 .unpriv) ∧
    (rn = 31#5 ∨ rn ≠ rt →
      (load (.ldrImmediatePreIndex size0 imm9 rn rt) near n .normal ∧
        load (.ldrbImmediatePreIndex imm9 rn rt) near 1 .normal ∧ load (.ldrhImmediatePreIndex imm9 rn rt) near 2 .normal ∧
        load (.ldrsbImmediatePreIndex opc0 imm9 rn rt) near 1 .normal ∧
        load (.ldrshImmediatePreIndex opc0 imm9 rn rt) near 2 .normal ∧
        load (.ldrswImmediatePreIndex imm9 rn rt) near 4 .normal ∧
        store (.strImmediatePreIndex size0 imm9 rn rt) near n .normal ∧
        store (.strbImmediatePreIndex imm9 rn rt) near 1 .normal ∧
        store (.strhImmediatePreIndex imm9 rn rt) near 2 .normal) ∧
      (load (.ldrImmediatePostIndex size0 imm9 rn rt) base n .normal ∧
        load (.ldrbImmediatePostIndex imm9 rn rt) base 1 .normal ∧
        load (.ldrhImmediatePostIndex imm9 rn rt) base 2 .normal ∧
        load (.ldrsbImmediatePostIndex opc0 imm9 rn rt) base 1 .normal ∧
        load (.ldrshImmediatePostIndex opc0 imm9 rn rt) base 2 .normal ∧
        load (.ldrswImmediatePostIndex imm9 rn rt) base 4 .normal ∧
        store (.strImmediatePostIndex size0 imm9 rn rt) base n .normal ∧
        store (.strbImmediatePostIndex imm9 rn rt) base 1 .normal ∧
        store (.strhImmediatePostIndex imm9 rn rt) base 2 .normal)) ∧
    (option.getLsbD 1 = true →
      load (.ldrRegister size0 rm option s1 rn rt) (indexed (if size0 = 1#1 then 3 else 2)) n .normal ∧
      load (.ldrbRegister rm option s1 rn rt) (indexed 0) 1 .normal ∧
      load (.ldrhRegister rm option s1 rn rt) (indexed 1) 2 .normal ∧
      load (.ldrsbRegister opc0 rm option s1 rn rt) (indexed 0) 1 .normal ∧
      load (.ldrshRegister opc0 rm option s1 rn rt) (indexed 1) 2 .normal ∧
      load (.ldrswRegister rm option s1 rn rt) (indexed 2) 4 .normal ∧
      store (.strRegister size0 rm option s1 rn rt) (indexed (if size0 = 1#1 then 3 else 2)) n .normal ∧
      store (.strbRegister rm option s1 rn rt) (indexed 0) 1 .normal ∧
      store (.strhRegister rm option s1 rn rt) (indexed 1) 2 .normal) ∧
    ((∀ e, AccessAbort s literal n .normal .read False e → Traps (.ldrLiteral size0 imm19 rt) s e) ∧
      (∀ e, AccessAbort s literal 4 .normal .read False e → Traps (.ldrswLiteral imm19 rt) s e)) ∧
    (rt ≠ rt2 →
      two (.ldpSignedOffset size0 imm7 rt2 rn rt) (pair n) n .normal .read ∧
      two (.ldnp size0 imm7 rt2 rn rt) (pair n) n .stream .read ∧
      two (.ldpswSignedOffset imm7 rt2 rn rt) (pair 4) 4 .normal .read ∧
      (rn = 31#5 ∨ (rn ≠ rt ∧ rn ≠ rt2) →
        two (.ldpPreIndex size0 imm7 rt2 rn rt) (pair n) n .normal .read ∧
        two (.ldpPostIndex size0 imm7 rt2 rn rt) base n .normal .read ∧
        two (.ldpswPreIndex imm7 rt2 rn rt) (pair 4) 4 .normal .read ∧
        two (.ldpswPostIndex imm7 rt2 rn rt) base 4 .normal .read)) ∧
    (two (.stpSignedOffset size0 imm7 rt2 rn rt) (pair n) n .normal .write ∧
      two (.stnp size0 imm7 rt2 rn rt) (pair n) n .stream .write ∧
      (rn = 31#5 ∨ (rn ≠ rt ∧ rn ≠ rt2) →
        two (.stpPreIndex size0 imm7 rt2 rn rt) (pair n) n .normal .write ∧
        two (.stpPostIndex size0 imm7 rt2 rn rt) base n .normal .write)) ∧
    (load (.ldar size0 rn rt) base n .ordered ∧ load (.ldarb rn rt) base 1 .ordered ∧
      load (.ldarh rn rt) base 2 .ordered ∧ store (.stlr size0 rn rt) base n .ordered ∧
      store (.stlrb rn rt) base 1 .ordered ∧ store (.stlrh rn rt) base 2 .ordered) ∧
    (s.cfg.haveLOR = true →
      load (.ldlar size0 rn rt) base n .limitedOrdered ∧ load (.ldlarb rn rt) base 1 .limitedOrdered ∧
      load (.ldlarh rn rt) base 2 .limitedOrdered ∧ store (.stllr size0 rn rt) base n .limitedOrdered ∧
      store (.stllrb rn rt) base 1 .limitedOrdered ∧ store (.stllrh rn rt) base 2 .limitedOrdered)

/-! ## Exceptions -/

/-- Taking an exception to EL1, EL2 or EL3 (60 R830, R833). An interrupt that is then due comes before the first instruction,
even a WFI, which the model keeps in a field of its own (60 R822; log 37; `InterruptsAndEnvironment`). -/
def Obligations.TakingAnException : Prop :=
  ∀ (s : State) (target : EL) (esr : Option DWord) (far : FarEffect) (ret : Addr) (vect : BitVec 11), target ≠ .el0 →
    s.Enters target esr far ret vect (s.takeException target esr far ret vect)

/-- The class, the syndrome, FAR and the return address of every synchronous exception (60 R802, R810 to R814, R832); the
target of those that name one is not EL0. -/
def Obligations.SynchronousExceptions : Prop :=
  ∀ (s : State) (imm : BitVec 16) (level : EL) (isWfe wnr cm : Bool) (op0 : BitVec 2) (op2 op1 : BitVec 3)
    (crn crm : BitVec 4) (rt : BitVec 5) (dir : BitVec 1) (a : Addr), level ≠ .el0 →
    let lower := s.p.el.toNat < (generalLevel s).toNat
    let code := fun kind : AbortKind => match kind with
      | .alignment => 0b100001#6 | .translation => 0b000100#6 | .permission => 0b001111#6
    EntersWith .undefined s 0x00#6 0#25 .unknown s.pc ∧
    EntersWith (.wfxTrap level isWfe) s 0x01#6 (0x1E00000#25 ||| (BitVec.ofBool isWfe).setWidth 25) .unknown s.pc ∧
    EntersWith .illegalState s 0x0E#6 0#25 .unknown s.pc ∧
    EntersWith (.supervisorCall imm) s 0x15#6 (imm.setWidth 25) .unknown (s.pc + 4#64) ∧
    EntersWith (.hypervisorCall imm) s 0x16#6 (imm.setWidth 25) .unknown (s.pc + 4#64) ∧
    EntersWith (.secureMonitorCall imm) s 0x17#6 (imm.setWidth 25) .unknown (s.pc + 4#64) ∧
    EntersWith (.smcTrap imm) s 0x17#6 (imm.setWidth 25) .unknown s.pc ∧
    EntersWith (.systemRegisterTrap level op0 op2 op1 crn rt crm dir) s 0x18#6
      (op0.setWidth 25 <<< 20 ||| op2.setWidth 25 <<< 17 ||| op1.setWidth 25 <<< 14 ||| crn.setWidth 25 <<< 10
        ||| rt.setWidth 25 <<< 5 ||| crm.setWidth 25 <<< 1 ||| dir.setWidth 25) .unknown s.pc ∧
    (∀ kind, EntersWith (.instructionAbort a kind) s (if lower then 0x20#6 else 0x21#6) ((code kind).setWidth 25)
      (.address a) s.pc) ∧
    EntersWith .pcAlignment s 0x22#6 0#25 (.address s.pc) s.pc ∧
    (∀ kind, EntersWith (.dataAbort a kind wnr cm) s (if lower then 0x24#6 else 0x25#6)
      ((BitVec.ofBool cm).setWidth 25 <<< 8 ||| (BitVec.ofBool wnr).setWidth 25 <<< 6 ||| (code kind).setWidth 25)
      (.address a) s.pc) ∧
    EntersWith .spAlignment s 0x26#6 0#25 .unknown s.pc ∧
    EntersWith (.softwareBreakpoint imm) s 0x3C#6 (imm.setWidth 25) .unknown s.pc

/-- The level that takes each synchronous exception (60 R807 to R809, R831). That a breakpoint of EL1 is rerouted too is the
model's reading of two rules (log 33). -/
def Obligations.ExceptionTargets : Prop :=
  ∀ (s : State) (imm : BitVec 16) (a : Addr) (kind : AbortKind) (wnr cm isWfe : Bool) (level : EL) (op0 : BitVec 2)
    (op2 op1 : BitVec 3) (crn crm : BitVec 4) (rt : BitVec 5) (dir : BitVec 1),
    let general := generalLevel s
    Exc.undefined.target s = general ∧ Exc.illegalState.target s = general ∧
    (Exc.supervisorCall imm).target s = general ∧ Exc.pcAlignment.target s = general ∧
    Exc.spAlignment.target s = general ∧ (Exc.instructionAbort a kind).target s = general ∧
    (Exc.dataAbort a kind wnr cm).target s = general ∧
    (Exc.softwareBreakpoint imm).target s = (if s.p.el = .el1 ∧ Rerouted s then .el2 else general) ∧
    (Exc.hypervisorCall imm).target s = (if s.p.el = .el3 then .el3 else .el2) ∧
    (Exc.secureMonitorCall imm).target s = .el3 ∧ (Exc.smcTrap imm).target s = .el2 ∧
    (Exc.wfxTrap level isWfe).target s = (if level = .el1 ∧ Rerouted s then .el2 else level) ∧
    (Exc.systemRegisterTrap level op0 op2 op1 crn rt crm dir).target s =
      (if level = .el1 ∧ Rerouted s then .el2 else level)

/-- SVC, HVC, SMC and BRK: when they take their exception, and when they are Undefined or trapped instead (49 R701 to R704;
60 R848). -/
def Obligations.ExceptionGeneratingInstructions : Prop :=
  ∀ (s : State) (imm : BitVec 16),
    let hvc := s.cfg.haveEL2 = true ∧ s.p.el ≠ .el0 ∧ ¬(s.p.el = .el1 ∧ s.isSecure = true) ∧
      (if s.cfg.haveEL3 = true then s.scr.getLsbD 8 = true else s.hcr.getLsbD 29 = false)
    let smc := s.cfg.haveEL3 = true ∧ s.p.el ≠ .el0
    let trapped := s.p.el = .el1 ∧ s.cfg.haveEL2 = true ∧ s.isSecure = false ∧ s.hcr.getLsbD 19 = true
    Traps (.svc imm) s (.supervisorCall imm) ∧
    Traps (.brk imm) s (.softwareBreakpoint imm) ∧
    (hvc → Traps (.hvc imm) s (.hypervisorCall imm)) ∧
    (¬hvc → Traps (.hvc imm) s .undefined) ∧
    (smc → ¬trapped → s.scr.getLsbD 7 = false → Traps (.smc imm) s (.secureMonitorCall imm)) ∧
    (smc → trapped → Traps (.smc imm) s (.smcTrap imm)) ∧
    (¬smc ∨ (¬trapped ∧ s.scr.getLsbD 7 = true) → Traps (.smc imm) s .undefined)

/-- ERET above EL0: PSTATE from SPSR, the pc from ELR, the monitor Open, the event register set; an illegal return keeps the
level and the stack pointer and sets IL (60 R840, R841; 49 R710). That an interrupt which is then due comes before the first
instruction, even a WFI, the model keeps in a field of its own (60 R840; log 37; `InterruptsAndEnvironment`). -/
def Obligations.ExceptionReturn : Prop :=
  ∀ s : State, s.p.el ≠ .el0 →
    let spsr := (s.elRegs s.p.el).spsr
    let illegal := s.ReturnIsIllegal spsr
    let p : PState :=
      { n := spsr.getLsbD 31, z := spsr.getLsbD 30, c := spsr.getLsbD 29, v := spsr.getLsbD 28
        d := spsr.getLsbD 9, a := spsr.getLsbD 8, i := spsr.getLsbD 7, f := spsr.getLsbD 6
        pan := if s.cfg.havePAN then spsr.getLsbD 22 else s.p.pan
        uao := if s.cfg.haveUAO then spsr.getLsbD 23 else s.p.uao
        sp := if illegal then s.p.sp else spsr.getLsbD 0
        el := if illegal then s.p.el else EL.ofBits (spsr.extractLsb' 2 2)
        il := if illegal then true else spsr.getLsbD 20
        ss := false }
    exec .eret s = .next
      { s with p := p, pc := (s.elRegs s.p.el).elr, monitor := none, event := true, interruptFirst := true }

/-- What comes before the instruction of a step. The environment acts first, one action after the other: a store by another
observer writes its byte and, in the granule that the monitor marks, opens the monitor, which is an event; a spurious clear
opens the monitor and does nothing else; the inputs, and what the external debugger sets, take their values (10 R69; 20 R127; 60 R820, R846,
R850; log 10). Then an interrupt
that is due is taken, to the level of its routing and whatever the mask if that is EL2 or EL3 from below, SError before FIQ
before IRQ (60 R803(1), R821, R822; of the routing bits: log 20), with the pc as its return address; one that is not due is not
taken. But a WFI at the pc completes first, and the interrupt is taken at the address after it (49 R715), unless the last step was
an exception entry or an ERET (60 R822, R840) or such a WFI (log 37). That an interrupt keeps FAR, where the table of R802 says UNKNOWN, is the model's
choice (log 15). -/
def Obligations.InterruptsAndEnvironment : Prop :=
  ∀ s : State,
    (s.env = [] → s.environment = s) ∧
    (∀ rest, s.env = [] :: rest → s.environment = { s with env := rest }) ∧
    (∀ action actions rest, s.env = (action :: actions) :: rest →
      s.environment = (State.act { s with env := actions :: rest } action).environment) ∧
    (∀ (a : Addr) (b : Byte), s.mem.wf → ∃ m, s.act (.store a b) = { s with
        mem := m, monitor := if MonitorHolds s a then none else s.monitor
        event := s.event || decide (MonitorHolds s a) } ∧ m.wf ∧
      ∀ c, m.byte c = if c = a then b else s.mem.byte c) ∧
    s.act .spuriousClear = { s with monitor := none } ∧
    s.act .clearMonitor = { s with monitor := none, event := s.event || decide (s.monitor ≠ none) } ∧
    s.act .sendEvent = { s with event := true } ∧
    (∀ allowed edscr, s.act (.debug allowed edscr) = { s with haltingAllowed := allowed, edscr := edscr }) ∧
    (∀ p, s.act (.setIrq p) = { s with irqPending := p } ∧ s.act (.setFiq p) = { s with fiqPending := p } ∧
      ∀ iss, s.act (.setSError p iss) = { s with serrorPending := p, serrorIss := iss } ∧
        s.act (.setVSError p iss) = { s with vserrorPending := p, vserrorIss := iss }) ∧
    (s.halted = false → s.env = [] →
      let fiqLevel := interruptLevel s 2 3
      let irqLevel := interruptLevel s 1 4
      let fiq := Due s s.fiqPending s.p.f fiqLevel
      let irq := Due s s.irqPending s.p.i irqLevel
      let waits := FetchesWord s ∧ wordAt s = 0xD503207F#32 ∧ s.interruptFirst = false
      (SErrorDue s ∨ fiq ∨ irq → waits → step s = .next { s with pc := s.pc + 4#64, interruptFirst := true }) ∧
      (SErrorDue s → ¬waits → ∃ t, step s = .next t ∧
        s.Enters (interruptLevel s 3 5) (some (0xBE000000#64 ||| s.serrorIss.setWidth 64)) .keep s.pc 0x180#11 t) ∧
      (¬SErrorDue s → fiq → ¬waits → ∃ t, step s = .next t ∧ s.Enters fiqLevel none .keep s.pc 0x100#11 t) ∧
      (¬SErrorDue s → ¬fiq → irq → ¬waits → ∃ t, step s = .next t ∧ s.Enters irqLevel none .keep s.pc 0x080#11 t) ∧
      (¬SErrorDue s → ¬fiq → ¬irq → step s = ({ s with interruptFirst := false } : State).runInstruction))

/-! ## System instructions -/

/-- The hints and barriers, which only advance the pc, CLREX, and the events (49 R711 to R723). WFE consumes a set event and
WFI does not wait for a pending interrupt; else they wait, and that a wait ends at once is the model's choice (log 11). Without
the RAS extension ESB is a NOP; with it, an SError that is not due is recorded in DISR_EL1 and stops being pending, below EL2 in
Non-secure state a masked virtual one likewise in VDISR_EL2, and one that is due is taken, with the next instruction as its
return address (49 R718; 60 R849). Where the two registers hold it is a parameter (log 22), a virtual SError that is not masked
stays pending (log 21), and FAR is kept (log 15). -/
def Obligations.HintsBarriersEvents : Prop :=
  ∀ (s : State) (crm : BitVec 4) (op2 : BitVec 3),
    let deferred := s.serrorPending = true ∧ (s.halted = true ∨ ¬SErrorDue s)
    let virtual := s.cfg.haveEL2 = true ∧ s.isSecure = false ∧ s.p.el.toNat < 2 ∧ s.vserrorPending = true ∧
      (s.halted = true ∨ s.p.a = true)
    let physicalDone := if deferred then
      { s with disr := recorded s.cfg.disrLayout s.serrorIss, serrorPending := false } else s
    let done := if virtual then
      { physicalDone with vdisr := recorded s.cfg.vdisrLayout s.vserrorIss, vserrorPending := false } else physicalDone
    Completes (.hint crm op2) s .nothing ∧ Completes .nop s .nothing ∧ Completes .yield s .nothing ∧
    Completes .psbCsync s .nothing ∧ Completes (.dmb crm) s .nothing ∧ Completes (.dsb crm) s .nothing ∧
    Completes (.isb crm) s .nothing ∧ Completes (.clrex crm) s (Writes.nothing.mark none) ∧
    exec .sev s = .next { s with event := true, pc := s.pc + 4#64 } ∧
    exec .sevl s = .next { s with event := true, pc := s.pc + 4#64 } ∧
    (s.event = true → exec .wfe s = .next { s with event := false, pc := s.pc + 4#64 }) ∧
    (s.event = false → Waits .wfe s true 18 14 13) ∧
    ((s.irqPending || s.fiqPending || s.serrorPending) = true → Completes .wfi s .nothing) ∧
    ((s.irqPending || s.fiqPending || s.serrorPending) = false → Waits .wfi s false 16 13 12) ∧
    (s.cfg.haveRAS = false → Completes .esb s .nothing) ∧
    (s.cfg.haveRAS = true → ¬(s.halted = false ∧ SErrorDue s) →
      exec .esb s = .next { done with pc := s.pc + 4#64 }) ∧
    (s.cfg.haveRAS = true → s.halted = false → SErrorDue s → ∃ t, exec .esb s = .next t ∧
      done.Enters (interruptLevel s 3 5) (some (0xBE000000#64 ||| s.serrorIss.setWidth 64)) .keep (s.pc + 4#64) 0x180#11 t)

/-- HLT enters Debug state if halting is enabled and allowed, and is Undefined else; DCPS1 to DCPS3 and DRPS have their effect in
Debug state, under the conditions of each, and are Undefined outside it and under any other conditions: DCPS1 at EL0 when TGE
reroutes, DCPS2 without EL2 and at Secure EL0 and EL1, DCPS3 without EL3 and with EDSCR.SDD = 1, DRPS at EL0. A step of the
machine in Debug state stops, the only stop there is (49 R705 to R709; 60 R842 to R844; log 12). That the pc stays, what DRPS makes of it, and that an Undefined in Debug state changes nothing are the
model's reading (log 23). -/
def Obligations.DebugInstructions : Prop :=
  ∀ (s : State) (imm : BitVec 16),
    let halts := s.edscr.getLsbD 14 = true ∧ s.haltingAllowed = true
    let atLeast := fun level : EL => if s.p.el.toNat < level.toNat then level else s.p.el
    (halts → exec (.hlt imm) s = .next { s with halted := true, dlr := s.pc, dspsr := s.p.image }) ∧
    (s.halted = true → step s = .fault .halted) ∧ (s.halted = false → ∃ t, step s = .next t) ∧
    (¬halts → Traps (.hlt imm) s .undefined) ∧
    (s.halted = true → ¬(s.p.el = .el0 ∧ Rerouted s) → ChangesLevel (.dcps1 imm) s (atLeast .el1)) ∧
    (s.halted = true → s.cfg.haveEL2 = true → (s.isSecure = false ∨ 2 ≤ s.p.el.toNat) →
      ChangesLevel (.dcps2 imm) s (atLeast .el2)) ∧
    (s.halted = true → s.cfg.haveEL3 = true → s.edscr.getLsbD 16 = false → ChangesLevel (.dcps3 imm) s .el3) ∧
    (s.halted = true → s.p.el ≠ .el0 → ∃ dlr dspsr draws, exec .drps s = .next { s with
      p := s.returnPState (s.elRegs s.p.el).spsr, dlr := dlr, dspsr := dspsr, draws := draws }) ∧
    (s.halted = false → Traps (.dcps1 imm) s .undefined ∧ Traps (.dcps2 imm) s .undefined ∧
      Traps (.dcps3 imm) s .undefined ∧ Traps .drps s .undefined) ∧
    (s.p.el = .el0 ∧ Rerouted s → Traps (.dcps1 imm) s .undefined) ∧
    (s.cfg.haveEL2 = false ∨ (s.isSecure = true ∧ s.p.el.toNat < 2) → Traps (.dcps2 imm) s .undefined) ∧
    (s.cfg.haveEL3 = false ∨ s.edscr.getLsbD 16 = true → Traps (.dcps3 imm) s .undefined) ∧
    (s.p.el = .el0 → Traps .drps s .undefined)

/-- MRS and MSR (register). By default the registers are those of 10 R62 at their addresses; of any map: at an address without
a register, at too low a level, in the direction it does not have or where it does not exist, Undefined; then the trap of DAIF at
EL0; else MRS reads the register, each view of PSTATE in its own bits, and MSR writes its writable bits, while every register at
another address and all other state (general registers, SP_EL3, memory, monitor, event register, inputs, debug state, the
model's own fields) keep their values (10 R45, R61, R62, R67, R68, R76; 49 R730, R731). The model's choices: the bits that a write changes (log 18), the registers of a level
that is not implemented (log 17), the trap in host mode (log 36), registers that the user adds (log 39). -/
def Obligations.SystemRegisterMoves : Prop :=
  ∀ (s : State) (o0 : BitVec 1) (op1 : BitVec 3) (crn crm : BitVec 4) (op2 : BitVec 3) (rt : Reg),
    let a := sysAddress (1#1 ++ o0) op1 crn crm op2
    let mrs := Instr.mrs o0 op1 crn crm op2 rt
    let msr := Instr.msrRegister o0 op1 crn crm op2 rt
    (s.cfg.sysRegs = Config.default.sysRegs → ∀ b reg, s.sysRegAt b = some reg ↔ (b, reg) ∈ registerTable) ∧
    (s.sysRegAt a = none → Traps mrs s .undefined ∧ Traps msr s .undefined) ∧
    ∀ reg, s.sysRegAt a = some reg →
      let usable := LevelAllows s op1 ∧ Exists s reg
      let trapped := reg = .daif ∧ MasksTrapped s
      (¬(usable ∧ MayRead reg) → Traps mrs s .undefined) ∧
      (¬(usable ∧ MayWrite reg) → Traps msr s .undefined) ∧
      (usable → trapped → Traps mrs s (.systemRegisterTrap .el1 (1#1 ++ o0) op2 op1 crn rt crm 1#1) ∧
        Traps msr s (.systemRegisterTrap .el1 (1#1 ++ o0) op2 op1 crn rt crm 0#1)) ∧
      (usable → MayRead reg → ¬trapped → Completes mrs s (.toReg rt (registerValue s reg))) ∧
      (usable → MayWrite reg → ¬trapped → ∃ t, exec msr s = .next t ∧
        registerValue t reg = (registerValue s reg &&& ~~~writable s reg) ||| (s.readX rt &&& writable s reg) ∧
        (∀ other, other.address ≠ a → registerValue t other = registerValue s other) ∧
        t.p.il = s.p.il ∧ t.p.ss = s.p.ss ∧
        t = { s with
          p := t.p, spEL0 := t.spEL0, spEL1 := t.spEL1, spEL2 := t.spEL2, el1 := t.el1, el2 := t.el2, el3 := t.el3
          hcr := t.hcr, scr := t.scr, dlr := t.dlr, dspsr := t.dspsr, disr := t.disr, vdisr := t.vdisr, par := t.par
          tpidr := t.tpidr, extra := t.extra, pc := s.pc + 4#64 })

/-- MSR (immediate): SPSel, PAN and UAO above EL0, the latter two with their features and Undefined without them; DAIFSet and DAIFClr, trapped at EL0 if
the mask bits are not EL0's to write (49 R732). -/
def Obligations.PStateMoves : Prop :=
  ∀ (s : State) (m : BitVec 4),
    let p := s.p
    let trap := fun op2 : BitVec 3 =>
      Traps (.msrImmediate 3#3 m op2) s (.systemRegisterTrap .el1 0#2 op2 3#3 4#4 31#5 m 0#1)
    (p.el ≠ .el0 → WritesPState 0#3 5#3 m s { p with sp := m.getLsbD 0 }) ∧
    (p.el ≠ .el0 → s.cfg.havePAN = true → WritesPState 0#3 4#3 m s { p with pan := m.getLsbD 0 }) ∧
    (p.el ≠ .el0 → s.cfg.haveUAO = true → WritesPState 0#3 3#3 m s { p with uao := m.getLsbD 0 }) ∧
    (s.cfg.havePAN = false → Traps (.msrImmediate 0#3 m 4#3) s .undefined) ∧
    (s.cfg.haveUAO = false → Traps (.msrImmediate 0#3 m 3#3) s .undefined) ∧
    (¬MasksTrapped s → WritesPState 3#3 6#3 m s
      { p with d := p.d || m.getLsbD 3, a := p.a || m.getLsbD 2, i := p.i || m.getLsbD 1, f := p.f || m.getLsbD 0 }) ∧
    (¬MasksTrapped s → WritesPState 3#3 7#3 m s
      { p with d := p.d && !m.getLsbD 3, a := p.a && !m.getLsbD 2, i := p.i && !m.getLsbD 1, f := p.f && !m.getLsbD 0 }) ∧
    (MasksTrapped s → trap 6#3 ∧ trap 7#3)

/-- SYS and its aliases AT, DC, IC, TLBI: the operations are the 58 of the tables at their keys; Undefined for what is no
operation, where the level does not allow it, and where its level or feature is not there; then the trap of the cache operations at EL0; else the effect of the operation, or the abort of a DC or IC operation
by address. SYSL has no operation, so it is Undefined (49 R740 to R747; of PAR_EL1: log 27). -/
def Obligations.SystemInstructions : Prop :=
  ∀ (s : State) (op1 : BitVec 3) (crn crm : BitVec 4) (crm0 : BitVec 1) (op2 : BitVec 3) (rt : Reg),
    (∀ key op, sysOpAt key = some op ↔ (key, op) ∈ systemTable) ∧
    RunsSystem (.sys op1 crn crm op2 rt) s op1 crn crm op2 rt ∧
    RunsSystem (.sysAt op1 crm0 op2 rt) s op1 7#4 (8#4 ||| crm0.setWidth 4) op2 rt ∧
    RunsSystem (.sysDc op1 crm op2 rt) s op1 7#4 crm op2 rt ∧
    RunsSystem (.sysIc op1 crm op2 rt) s op1 7#4 crm op2 rt ∧
    RunsSystem (.sysTlbi op1 crm op2 rt) s op1 8#4 crm op2 rt ∧
    ((∀ op, (op1 ++ crn ++ crm ++ op2, op) ∉ systemTable) → Traps (.sys op1 crn crm op2 rt) s .undefined) ∧
    Traps (.sysl op1 crn crm op2 rt) s .undefined

/-- What EL0 may not do is Undefined (60 R805; 10 R61; 49 R732): return from an exception, call a higher level, write SPSel,
PAN or UAO, and use a system register or instruction of another level. -/
def Obligations.PrivilegedAtEL0AreUndefined : Prop :=
  ∀ (s : State) (imm : BitVec 16) (m : BitVec 4) (o0 : BitVec 1) (op1 : BitVec 3) (crn crm : BitVec 4) (op2 : BitVec 3)
    (rt : Reg), s.p.el = .el0 →
    Traps .eret s .undefined ∧ Traps .drps s .undefined ∧ Traps (.hvc imm) s .undefined ∧
    Traps (.smc imm) s .undefined ∧ Traps (.msrImmediate 0#3 m op2) s .undefined ∧
    (op1 ≠ 3#3 → Traps (.mrs o0 op1 crn crm op2 rt) s .undefined ∧
      Traps (.msrRegister o0 op1 crn crm op2 rt) s .undefined ∧ Traps (.sys op1 crn crm op2 rt) s .undefined)
end

