-- ==== Sys2Proof/Laws/Decode.lean ====
section
/-! SUPPORT. The decoder: no word matches two rows (30 R145), so a row that a word matches is the row of that word. -/

namespace Sys2Proof.Laws

/-- No word matches both rows: they fix one bit differently. -/
def disjoint (r q : Row) : Bool := decide (r.mask &&& q.mask &&& (r.mat ^^^ q.mat) ≠ 0#32)

/-- Rows that are disjoint in the list's order. -/
def allDisjoint : List Row → Bool
  | [] => true
  | r :: rest => rest.all (disjoint r) && allDisjoint rest

theorem pairwise_of_allDisjoint : ∀ l : List Row, allDisjoint l = true → l.Pairwise (fun r q => disjoint r q = true)
  | [], _ => .nil
  | r :: rest, h => by
    simp only [allDisjoint, Bool.and_eq_true, List.all_eq_true] at h
    exact .cons h.1 (pairwise_of_allDisjoint rest h.2)

/-- The rows of the table are pairwise disjoint. -/
theorem decodeTable_disjoint : decodeTable.Pairwise (fun r q => disjoint r q = true) :=
  pairwise_of_allDisjoint _ (by decide +kernel)

/-- Every row's pattern lies in its mask, so a row has a word. -/
theorem decodeTable_mat_in_mask : ∀ r ∈ decodeTable, r.mat &&& r.mask = r.mat := by decide +kernel

theorem disjoint_symm (r q : Row) (h : disjoint r q = true) : disjoint q r = true := by
  rw [disjoint, BitVec.and_comm q.mask, BitVec.xor_comm]; exact h

/-- Disjoint rows match no common word. -/
theorem not_both_hit (r q : Row) (w : Word) (h : disjoint r q = true) (hr : r.hits w = true) (hq : q.hits w = true) :
    False := by
  simp only [disjoint, Row.hits, decide_eq_true_eq] at h hr hq
  apply h
  rw [← hr, ← hq]
  ext i hi
  simp only [BitVec.getElem_and, BitVec.getElem_xor, BitVec.getElem_zero]
  cases w[i] <;> cases r.mask[i] <;> cases q.mask[i] <;> rfl

/-- A word matches at most one row of the table. -/
theorem hits_unique (r q : Row) (w : Word) (hr : r ∈ decodeTable) (hq : q ∈ decodeTable) (hwr : r.hits w = true)
    (hwq : q.hits w = true) : r = q := by
  by_contra hne
  have symm : Std.Symm (fun a b : Row => disjoint a b = true) := ⟨disjoint_symm⟩
  exact not_both_hit r q w (decodeTable_disjoint.forall hr hq hne) hwr hwq

/-- A row of the table that a word matches is the row of the word. -/
theorem rowOf_of_hits (r : Row) (w : Word) (hr : r ∈ decodeTable) (hw : r.hits w = true) : rowOf w = some r := by
  have hsome : (decodeTable.find? (fun q => q.hits w)).isSome = true := List.find?_isSome.mpr ⟨r, hr, hw⟩
  obtain ⟨q, hq⟩ := Option.isSome_iff_exists.mp hsome
  have : q = r := hits_unique q r w (List.mem_of_find?_eq_some hq) hr
    (by simpa using List.find?_some hq) hw
  simp only [rowOf, hq, this]

/-- All that `rowOf` can answer: a row of the table that the word matches, or the row of the general hint. -/
theorem rowOf_cases (w : Word) (r : Row) (h : rowOf w = some r) :
    (r ∈ decodeTable ∧ r.hits w = true) ∨ (r = hintRow ∧ hintRow.hits w = true) := by
  unfold rowOf at h
  split at h
  · rename_i q hq
    cases h
    exact .inl ⟨List.mem_of_find?_eq_some hq, by simpa using List.find?_some hq⟩
  · split at h
    · cases h; exact .inr ⟨rfl, ‹_›⟩
    · cases h

/-- All that `decode` can answer with an instruction: what the row of the word builds, if it is well formed. -/
theorem decode_eq_ok (w : Word) (i : Instr) :
    decode w = .ok i ↔ ∃ r, rowOf w = some r ∧ r.build w = i ∧ i.wellFormed = true := by
  unfold decode
  split
  · simp [*]
  · rename_i r hr
    by_cases hw : (r.build w).wellFormed = true
    · simp only [hw, if_true, Except.ok.injEq, hr, Option.some.injEq, exists_eq_left']
      exact ⟨fun h => ⟨h, h ▸ hw⟩, fun h => h.1⟩
    · simp only [hw, hr, Option.some.injEq, exists_eq_left']
      constructor
      · intro h; cases h
      · rintro ⟨rfl, h⟩; exact absurd h hw

end Sys2Proof.Laws
end

