-- ==== Sys2Proof/Laws/Memory.lean ====
section
/-! SUPPORT. The laws of memory: what each operation reads back, and that it keeps the canonical form. -/

namespace Sys2Proof.Machine

/-! ## One byte -/

theorem Memory.read_cons (a : Nat) (b : Byte) (m : Memory) (k : Nat) (h : m.read a = Memory.unlisted ∨ k ≠ a) :
    (Memory.cons a b m).read k = if k = a then b else m.read k := by
  unfold Memory.cons
  by_cases hb : b = Memory.unlisted
  · simp only [hb, if_true]
    split
    · rename_i e; subst e; simpa using h
    · rfl
  · simp only [hb, if_false, Memory.read, eq_comm]

/-- No entry below the least address. -/
theorem Memory.read_below (m : Memory) (a : Nat) (h : ∀ c ∈ m, a < c.1) : m.read a = Memory.unlisted := by
  induction m with
  | nil => rfl
  | cons c rest ih =>
    obtain ⟨k, b⟩ := c
    have hk : a < k := h (k, b) (by simp)
    rw [Memory.read, if_neg (by omega)]
    exact ih fun c hc => h c (by simp [hc])

/-- What an address reads as after a write. -/
theorem Memory.read_write (m : Memory) (hm : m.Pairwise (fun p q => p.1 < q.1)) (a k : Nat) (b : Byte) :
    (m.write a b).read k = if k = a then b else m.read k := by
  induction m with
  | nil => exact Memory.read_cons a b [] k (.inl rfl)
  | cons c rest ih =>
    obtain ⟨j, c⟩ := c
    obtain ⟨hj, hrest⟩ := List.pairwise_cons.mp hm
    simp only [Memory.write]
    split
    · rename_i hlt
      refine Memory.read_cons a b _ k (.inl (Memory.read_below _ _ ?_))
      intro d hd
      rcases List.mem_cons.mp hd with rfl | hd
      · exact hlt
      · exact Nat.lt_trans hlt (hj d hd)
    · split
      · rename_i e
        subst e
        rw [Memory.read_cons a b rest k (.inl (Memory.read_below _ _ fun d hd => hj d hd))]
        simp only [Memory.read]
        split
        · rfl
        · rename_i hk; rw [if_neg (fun h => hk h.symm)]
      · simp only [Memory.read, ih hrest]
        by_cases e : j = k
        · subst e; simp [show j ≠ a by omega]
        · simp [e]

theorem Memory.mem_write {m : Memory} {a : Nat} {b : Byte} {c : Host.Cell} (h : c ∈ m.write a b) :
    c ∈ m ∨ (c = (a, b) ∧ b ≠ Memory.unlisted) := by
  induction m with
  | nil =>
    simp only [Memory.write, Memory.cons] at h
    split at h <;> simp_all
  | cons d rest ih =>
    obtain ⟨j, d⟩ := d
    simp only [Memory.write, Memory.cons] at h
    split at h
    · split at h <;> simp_all
      rcases h with h | h | h <;> simp [h]
    · split at h
      · split at h <;> simp_all
        rcases h with h | h <;> simp [h]
      · rcases List.mem_cons.mp h with h | h
        · exact .inl (by simp [h])
        · rcases ih h with h | h
          · exact .inl (by simp [h])
          · exact .inr h

/-- A write keeps the canonical form. -/
theorem Memory.wf_write {m : Memory} (hm : m.wf) {a : Nat} (ha : a < 2 ^ 64) (b : Byte) : (m.write a b).wf := by
  refine ⟨?_, fun c hc => ?_⟩
  · obtain ⟨hs, -⟩ := hm
    induction m with
    | nil => simp only [Memory.write, Memory.cons]; split <;> simp
    | cons d rest ih =>
      obtain ⟨j, d⟩ := d
      obtain ⟨hj, hrest⟩ := List.pairwise_cons.mp hs
      simp only [Memory.write, Memory.cons]
      split
      · split
        · exact hs
        · refine List.pairwise_cons.mpr ⟨fun c hc => ?_, hs⟩
          rcases List.mem_cons.mp hc with rfl | hc
          · assumption
          · exact Nat.lt_trans (by assumption) (hj c hc)
      · split
        · rename_i e
          subst e
          split
          · exact hrest
          · exact List.pairwise_cons.mpr ⟨hj, hrest⟩
        · refine List.pairwise_cons.mpr ⟨fun c hc => ?_, ih hrest⟩
          rcases Memory.mem_write hc with hc | ⟨rfl, -⟩
          · exact hj c hc
          · simp only; omega
  · rcases Memory.mem_write hc with hc | ⟨rfl, hb⟩
    · exact hm.2 c hc
    · exact ⟨ha, hb⟩

theorem Memory.wf_nil : Memory.wf [] := by decide

/-- What a byte reads as after a write of a byte. -/
theorem Memory.byte_setByte {m : Memory} (hm : m.wf) (a k : Addr) (b : Byte) :
    (m.setByte a b).byte k = if k = a then b else m.byte k := by
  simp only [Memory.byte, Memory.setByte, Memory.read_write m hm.1, BitVec.toNat_inj]

theorem Memory.wf_setByte {m : Memory} (hm : m.wf) (a : Addr) (b : Byte) : (m.setByte a b).wf :=
  Memory.wf_write hm a.isLt b

/-! ## Several bytes -/

/-- The bytes below `a + k` of a store. -/
theorem Memory.wf_storeGo {w : Nat} {m : Memory} (hm : m.wf) (big : Bool) (a : Addr) (v : BitVec w) (n k : Nat) :
    (Memory.store.go m big a v n k).wf := by
  induction k with
  | zero => exact hm
  | succ k ih => exact Memory.wf_setByte ih _ _

theorem Memory.wf_store {w : Nat} {m : Memory} (hm : m.wf) (big : Bool) (a : Addr) (v : BitVec w) (n : Nat) :
    (m.store big a v n).wf :=
  Memory.wf_storeGo hm big a v n n

theorem Memory.byte_storeGo {w : Nat} {m : Memory} (hm : m.wf) (big : Bool) (a : Addr) (v : BitVec w) (n : Nat) (b : Addr) :
    ∀ k, k ≤ 2 ^ 64 → (Memory.store.go m big a v n k).byte b =
      if (b - a).toNat < k then byteOf v (if big then n - 1 - (b - a).toNat else (b - a).toNat) else m.byte b := by
  intro k hk
  induction k with
  | zero => simp [Memory.store.go]
  | succ k ih =>
    rw [Memory.store.go, Memory.byte_setByte (Memory.wf_storeGo hm big a v n k), ih (by omega)]
    by_cases e : b = a + BitVec.ofNat 64 k
    · have h : (b - a).toNat = k := by
        subst e
        rw [BitVec.add_comm, BitVec.add_sub_cancel]
        exact Nat.mod_eq_of_lt (by omega)
      simp only [if_pos e, h, Nat.lt_succ_self, if_true]
    · have h : (b - a).toNat ≠ k := by
        intro h
        apply e
        rw [← h, BitVec.ofNat_toNat, BitVec.setWidth_eq, BitVec.add_comm, BitVec.sub_add_cancel]
      rw [if_neg e]
      by_cases hlt : (b - a).toNat < k
      · simp only [hlt, show (b - a).toNat < k + 1 by omega, if_true]
      · simp only [hlt, show ¬(b - a).toNat < k + 1 by omega, if_false]

/-- What a byte reads as after a store of `n` bytes (20 R93). -/
theorem Memory.byte_store {w : Nat} {m : Memory} (hm : m.wf) (big : Bool) (a : Addr) (v : BitVec w) (n : Nat)
    (hn : n ≤ 2 ^ 64) (b : Addr) :
    (m.store big a v n).byte b =
      if (b - a).toNat < n then byteOf v (if big then n - 1 - (b - a).toNat else (b - a).toNat) else m.byte b :=
  Memory.byte_storeGo hm big a v n b n hn

theorem Memory.wf_zero {m : Memory} (hm : m.wf) (a : Addr) : ∀ n, (m.zero a n).wf
  | 0 => hm
  | n + 1 => Memory.wf_setByte (Memory.wf_zero hm a n) _ _

/-- What a byte reads as after `n` bytes are zeroed (20 R136). -/
theorem Memory.byte_zero {m : Memory} (hm : m.wf) (a b : Addr) :
    ∀ n, n ≤ 2 ^ 64 → (m.zero a n).byte b = if (b - a).toNat < n then 0#8 else m.byte b := by
  intro n hn
  induction n with
  | zero => simp [Memory.zero]
  | succ n ih =>
    rw [Memory.zero, Memory.byte_setByte (Memory.wf_zero hm a n), ih (by omega)]
    by_cases e : b = a + BitVec.ofNat 64 n
    · have h : (b - a).toNat = n := by
        subst e
        rw [BitVec.add_comm, BitVec.add_sub_cancel]
        exact Nat.mod_eq_of_lt (by omega)
      rw [if_pos e, if_pos (by omega)]
    · have h : (b - a).toNat ≠ n := by
        intro h
        apply e
        rw [← h, BitVec.ofNat_toNat, BitVec.setWidth_eq, BitVec.add_comm, BitVec.sub_add_cancel]
      rw [if_neg e]
      by_cases hlt : (b - a).toNat < n
      · rw [if_pos hlt, if_pos (by omega)]
      · rw [if_neg hlt, if_neg (by omega)]

theorem Memory.wf_setBytes {m : Memory} (hm : m.wf) (a : Addr) (bytes : List Byte) : (m.setBytes a bytes).wf := by
  induction bytes generalizing m a with
  | nil => exact hm
  | cons b rest ih => exact ih (Memory.wf_setByte hm a b) _

end Sys2Proof.Machine
end

