-- ==== Sys2Proof/Laws/State.lean ====
section
/-! SUPPORT. What each named update of the state leaves in each field, so that no proof unfolds a record update. -/

namespace Sys2Proof.Machine

/-! ## writeX -/

@[simp] theorem State.writeX_cfg {w : Nat} (s : State) (r : Reg) (v : BitVec w) : (s.writeX r v).cfg = s.cfg :=
  by unfold State.writeX; split <;> rfl
@[simp] theorem State.writeX_spEL0 {w : Nat} (s : State) (r : Reg) (v : BitVec w) : (s.writeX r v).spEL0 = s.spEL0 :=
  by unfold State.writeX; split <;> rfl
@[simp] theorem State.writeX_spEL1 {w : Nat} (s : State) (r : Reg) (v : BitVec w) : (s.writeX r v).spEL1 = s.spEL1 :=
  by unfold State.writeX; split <;> rfl
@[simp] theorem State.writeX_spEL2 {w : Nat} (s : State) (r : Reg) (v : BitVec w) : (s.writeX r v).spEL2 = s.spEL2 :=
  by unfold State.writeX; split <;> rfl
@[simp] theorem State.writeX_spEL3 {w : Nat} (s : State) (r : Reg) (v : BitVec w) : (s.writeX r v).spEL3 = s.spEL3 :=
  by unfold State.writeX; split <;> rfl
@[simp] theorem State.writeX_pc {w : Nat} (s : State) (r : Reg) (v : BitVec w) : (s.writeX r v).pc = s.pc :=
  by unfold State.writeX; split <;> rfl
@[simp] theorem State.writeX_p {w : Nat} (s : State) (r : Reg) (v : BitVec w) : (s.writeX r v).p = s.p :=
  by unfold State.writeX; split <;> rfl
@[simp] theorem State.writeX_monitor {w : Nat} (s : State) (r : Reg) (v : BitVec w) : (s.writeX r v).monitor = s.monitor :=
  by unfold State.writeX; split <;> rfl
@[simp] theorem State.writeX_event {w : Nat} (s : State) (r : Reg) (v : BitVec w) : (s.writeX r v).event = s.event :=
  by unfold State.writeX; split <;> rfl
@[simp] theorem State.writeX_irqPending {w : Nat} (s : State) (r : Reg) (v : BitVec w) : (s.writeX r v).irqPending = s.irqPending :=
  by unfold State.writeX; split <;> rfl
@[simp] theorem State.writeX_fiqPending {w : Nat} (s : State) (r : Reg) (v : BitVec w) : (s.writeX r v).fiqPending = s.fiqPending :=
  by unfold State.writeX; split <;> rfl
@[simp] theorem State.writeX_serrorPending {w : Nat} (s : State) (r : Reg) (v : BitVec w) : (s.writeX r v).serrorPending = s.serrorPending :=
  by unfold State.writeX; split <;> rfl
@[simp] theorem State.writeX_serrorIss {w : Nat} (s : State) (r : Reg) (v : BitVec w) : (s.writeX r v).serrorIss = s.serrorIss :=
  by unfold State.writeX; split <;> rfl
@[simp] theorem State.writeX_vserrorPending {w : Nat} (s : State) (r : Reg) (v : BitVec w) : (s.writeX r v).vserrorPending = s.vserrorPending :=
  by unfold State.writeX; split <;> rfl
@[simp] theorem State.writeX_vserrorIss {w : Nat} (s : State) (r : Reg) (v : BitVec w) : (s.writeX r v).vserrorIss = s.vserrorIss :=
  by unfold State.writeX; split <;> rfl
@[simp] theorem State.writeX_halted {w : Nat} (s : State) (r : Reg) (v : BitVec w) : (s.writeX r v).halted = s.halted :=
  by unfold State.writeX; split <;> rfl
@[simp] theorem State.writeX_edscr {w : Nat} (s : State) (r : Reg) (v : BitVec w) : (s.writeX r v).edscr = s.edscr :=
  by unfold State.writeX; split <;> rfl
@[simp] theorem State.writeX_haltingAllowed {w : Nat} (s : State) (r : Reg) (v : BitVec w) : (s.writeX r v).haltingAllowed = s.haltingAllowed :=
  by unfold State.writeX; split <;> rfl
@[simp] theorem State.writeX_el1 {w : Nat} (s : State) (r : Reg) (v : BitVec w) : (s.writeX r v).el1 = s.el1 :=
  by unfold State.writeX; split <;> rfl
@[simp] theorem State.writeX_el2 {w : Nat} (s : State) (r : Reg) (v : BitVec w) : (s.writeX r v).el2 = s.el2 :=
  by unfold State.writeX; split <;> rfl
@[simp] theorem State.writeX_el3 {w : Nat} (s : State) (r : Reg) (v : BitVec w) : (s.writeX r v).el3 = s.el3 :=
  by unfold State.writeX; split <;> rfl
@[simp] theorem State.writeX_hcr {w : Nat} (s : State) (r : Reg) (v : BitVec w) : (s.writeX r v).hcr = s.hcr :=
  by unfold State.writeX; split <;> rfl
@[simp] theorem State.writeX_scr {w : Nat} (s : State) (r : Reg) (v : BitVec w) : (s.writeX r v).scr = s.scr :=
  by unfold State.writeX; split <;> rfl
@[simp] theorem State.writeX_dlr {w : Nat} (s : State) (r : Reg) (v : BitVec w) : (s.writeX r v).dlr = s.dlr :=
  by unfold State.writeX; split <;> rfl
@[simp] theorem State.writeX_dspsr {w : Nat} (s : State) (r : Reg) (v : BitVec w) : (s.writeX r v).dspsr = s.dspsr :=
  by unfold State.writeX; split <;> rfl
@[simp] theorem State.writeX_disr {w : Nat} (s : State) (r : Reg) (v : BitVec w) : (s.writeX r v).disr = s.disr :=
  by unfold State.writeX; split <;> rfl
@[simp] theorem State.writeX_vdisr {w : Nat} (s : State) (r : Reg) (v : BitVec w) : (s.writeX r v).vdisr = s.vdisr :=
  by unfold State.writeX; split <;> rfl
@[simp] theorem State.writeX_par {w : Nat} (s : State) (r : Reg) (v : BitVec w) : (s.writeX r v).par = s.par :=
  by unfold State.writeX; split <;> rfl
@[simp] theorem State.writeX_tpidr {w : Nat} (s : State) (r : Reg) (v : BitVec w) : (s.writeX r v).tpidr = s.tpidr :=
  by unfold State.writeX; split <;> rfl
@[simp] theorem State.writeX_extra {w : Nat} (s : State) (r : Reg) (v : BitVec w) : (s.writeX r v).extra = s.extra :=
  by unfold State.writeX; split <;> rfl
@[simp] theorem State.writeX_mem {w : Nat} (s : State) (r : Reg) (v : BitVec w) : (s.writeX r v).mem = s.mem :=
  by unfold State.writeX; split <;> rfl
@[simp] theorem State.writeX_draws {w : Nat} (s : State) (r : Reg) (v : BitVec w) : (s.writeX r v).draws = s.draws :=
  by unfold State.writeX; split <;> rfl
@[simp] theorem State.writeX_env {w : Nat} (s : State) (r : Reg) (v : BitVec w) : (s.writeX r v).env = s.env :=
  by unfold State.writeX; split <;> rfl
@[simp] theorem State.writeX_interruptFirst {w : Nat} (s : State) (r : Reg) (v : BitVec w) : (s.writeX r v).interruptFirst = s.interruptFirst :=
  by unfold State.writeX; split <;> rfl

/-! ## setSpOf -/

@[simp] theorem State.setSpOf_cfg (s : State) (l : EL) (v : DWord) : (s.setSpOf l v).cfg = s.cfg := by cases l <;> rfl
@[simp] theorem State.setSpOf_x (s : State) (l : EL) (v : DWord) : (s.setSpOf l v).x = s.x := by cases l <;> rfl
@[simp] theorem State.setSpOf_pc (s : State) (l : EL) (v : DWord) : (s.setSpOf l v).pc = s.pc := by cases l <;> rfl
@[simp] theorem State.setSpOf_p (s : State) (l : EL) (v : DWord) : (s.setSpOf l v).p = s.p := by cases l <;> rfl
@[simp] theorem State.setSpOf_monitor (s : State) (l : EL) (v : DWord) : (s.setSpOf l v).monitor = s.monitor :=
  by cases l <;> rfl
@[simp] theorem State.setSpOf_event (s : State) (l : EL) (v : DWord) : (s.setSpOf l v).event = s.event :=
  by cases l <;> rfl
@[simp] theorem State.setSpOf_irqPending (s : State) (l : EL) (v : DWord) : (s.setSpOf l v).irqPending = s.irqPending :=
  by cases l <;> rfl
@[simp] theorem State.setSpOf_fiqPending (s : State) (l : EL) (v : DWord) : (s.setSpOf l v).fiqPending = s.fiqPending :=
  by cases l <;> rfl
@[simp] theorem State.setSpOf_serrorPending (s : State) (l : EL) (v : DWord) : (s.setSpOf l v).serrorPending = s.serrorPending :=
  by cases l <;> rfl
@[simp] theorem State.setSpOf_serrorIss (s : State) (l : EL) (v : DWord) : (s.setSpOf l v).serrorIss = s.serrorIss :=
  by cases l <;> rfl
@[simp] theorem State.setSpOf_vserrorPending (s : State) (l : EL) (v : DWord) : (s.setSpOf l v).vserrorPending = s.vserrorPending :=
  by cases l <;> rfl
@[simp] theorem State.setSpOf_vserrorIss (s : State) (l : EL) (v : DWord) : (s.setSpOf l v).vserrorIss = s.vserrorIss :=
  by cases l <;> rfl
@[simp] theorem State.setSpOf_halted (s : State) (l : EL) (v : DWord) : (s.setSpOf l v).halted = s.halted :=
  by cases l <;> rfl
@[simp] theorem State.setSpOf_edscr (s : State) (l : EL) (v : DWord) : (s.setSpOf l v).edscr = s.edscr :=
  by cases l <;> rfl
@[simp] theorem State.setSpOf_haltingAllowed (s : State) (l : EL) (v : DWord) : (s.setSpOf l v).haltingAllowed = s.haltingAllowed :=
  by cases l <;> rfl
@[simp] theorem State.setSpOf_el1 (s : State) (l : EL) (v : DWord) : (s.setSpOf l v).el1 = s.el1 := by cases l <;> rfl
@[simp] theorem State.setSpOf_el2 (s : State) (l : EL) (v : DWord) : (s.setSpOf l v).el2 = s.el2 := by cases l <;> rfl
@[simp] theorem State.setSpOf_el3 (s : State) (l : EL) (v : DWord) : (s.setSpOf l v).el3 = s.el3 := by cases l <;> rfl
@[simp] theorem State.setSpOf_hcr (s : State) (l : EL) (v : DWord) : (s.setSpOf l v).hcr = s.hcr := by cases l <;> rfl
@[simp] theorem State.setSpOf_scr (s : State) (l : EL) (v : DWord) : (s.setSpOf l v).scr = s.scr := by cases l <;> rfl
@[simp] theorem State.setSpOf_dlr (s : State) (l : EL) (v : DWord) : (s.setSpOf l v).dlr = s.dlr := by cases l <;> rfl
@[simp] theorem State.setSpOf_dspsr (s : State) (l : EL) (v : DWord) : (s.setSpOf l v).dspsr = s.dspsr :=
  by cases l <;> rfl
@[simp] theorem State.setSpOf_disr (s : State) (l : EL) (v : DWord) : (s.setSpOf l v).disr = s.disr :=
  by cases l <;> rfl
@[simp] theorem State.setSpOf_vdisr (s : State) (l : EL) (v : DWord) : (s.setSpOf l v).vdisr = s.vdisr :=
  by cases l <;> rfl
@[simp] theorem State.setSpOf_par (s : State) (l : EL) (v : DWord) : (s.setSpOf l v).par = s.par := by cases l <;> rfl
@[simp] theorem State.setSpOf_tpidr (s : State) (l : EL) (v : DWord) : (s.setSpOf l v).tpidr = s.tpidr :=
  by cases l <;> rfl
@[simp] theorem State.setSpOf_extra (s : State) (l : EL) (v : DWord) : (s.setSpOf l v).extra = s.extra :=
  by cases l <;> rfl
@[simp] theorem State.setSpOf_mem (s : State) (l : EL) (v : DWord) : (s.setSpOf l v).mem = s.mem := by cases l <;> rfl
@[simp] theorem State.setSpOf_draws (s : State) (l : EL) (v : DWord) : (s.setSpOf l v).draws = s.draws :=
  by cases l <;> rfl
@[simp] theorem State.setSpOf_env (s : State) (l : EL) (v : DWord) : (s.setSpOf l v).env = s.env := by cases l <;> rfl
@[simp] theorem State.setSpOf_interruptFirst (s : State) (l : EL) (v : DWord) : (s.setSpOf l v).interruptFirst = s.interruptFirst := by cases l <;> rfl

/-! ## writeSp -/

@[simp] theorem State.writeSp_cfg {w : Nat} (s : State) (v : BitVec w) : (s.writeSp v).cfg = s.cfg :=
  State.setSpOf_cfg _ _ _
@[simp] theorem State.writeSp_x {w : Nat} (s : State) (v : BitVec w) : (s.writeSp v).x = s.x := State.setSpOf_x _ _ _
@[simp] theorem State.writeSp_pc {w : Nat} (s : State) (v : BitVec w) : (s.writeSp v).pc = s.pc :=
  State.setSpOf_pc _ _ _
@[simp] theorem State.writeSp_p {w : Nat} (s : State) (v : BitVec w) : (s.writeSp v).p = s.p := State.setSpOf_p _ _ _
@[simp] theorem State.writeSp_monitor {w : Nat} (s : State) (v : BitVec w) : (s.writeSp v).monitor = s.monitor :=
  State.setSpOf_monitor _ _ _
@[simp] theorem State.writeSp_event {w : Nat} (s : State) (v : BitVec w) : (s.writeSp v).event = s.event :=
  State.setSpOf_event _ _ _
@[simp] theorem State.writeSp_irqPending {w : Nat} (s : State) (v : BitVec w) : (s.writeSp v).irqPending = s.irqPending :=
  State.setSpOf_irqPending _ _ _
@[simp] theorem State.writeSp_fiqPending {w : Nat} (s : State) (v : BitVec w) : (s.writeSp v).fiqPending = s.fiqPending :=
  State.setSpOf_fiqPending _ _ _
@[simp] theorem State.writeSp_serrorPending {w : Nat} (s : State) (v : BitVec w) : (s.writeSp v).serrorPending = s.serrorPending :=
  State.setSpOf_serrorPending _ _ _
@[simp] theorem State.writeSp_serrorIss {w : Nat} (s : State) (v : BitVec w) : (s.writeSp v).serrorIss = s.serrorIss :=
  State.setSpOf_serrorIss _ _ _
@[simp] theorem State.writeSp_vserrorPending {w : Nat} (s : State) (v : BitVec w) : (s.writeSp v).vserrorPending = s.vserrorPending :=
  State.setSpOf_vserrorPending _ _ _
@[simp] theorem State.writeSp_vserrorIss {w : Nat} (s : State) (v : BitVec w) : (s.writeSp v).vserrorIss = s.vserrorIss :=
  State.setSpOf_vserrorIss _ _ _
@[simp] theorem State.writeSp_halted {w : Nat} (s : State) (v : BitVec w) : (s.writeSp v).halted = s.halted :=
  State.setSpOf_halted _ _ _
@[simp] theorem State.writeSp_edscr {w : Nat} (s : State) (v : BitVec w) : (s.writeSp v).edscr = s.edscr :=
  State.setSpOf_edscr _ _ _
@[simp] theorem State.writeSp_haltingAllowed {w : Nat} (s : State) (v : BitVec w) : (s.writeSp v).haltingAllowed = s.haltingAllowed :=
  State.setSpOf_haltingAllowed _ _ _
@[simp] theorem State.writeSp_el1 {w : Nat} (s : State) (v : BitVec w) : (s.writeSp v).el1 = s.el1 :=
  State.setSpOf_el1 _ _ _
@[simp] theorem State.writeSp_el2 {w : Nat} (s : State) (v : BitVec w) : (s.writeSp v).el2 = s.el2 :=
  State.setSpOf_el2 _ _ _
@[simp] theorem State.writeSp_el3 {w : Nat} (s : State) (v : BitVec w) : (s.writeSp v).el3 = s.el3 :=
  State.setSpOf_el3 _ _ _
@[simp] theorem State.writeSp_hcr {w : Nat} (s : State) (v : BitVec w) : (s.writeSp v).hcr = s.hcr :=
  State.setSpOf_hcr _ _ _
@[simp] theorem State.writeSp_scr {w : Nat} (s : State) (v : BitVec w) : (s.writeSp v).scr = s.scr :=
  State.setSpOf_scr _ _ _
@[simp] theorem State.writeSp_dlr {w : Nat} (s : State) (v : BitVec w) : (s.writeSp v).dlr = s.dlr :=
  State.setSpOf_dlr _ _ _
@[simp] theorem State.writeSp_dspsr {w : Nat} (s : State) (v : BitVec w) : (s.writeSp v).dspsr = s.dspsr :=
  State.setSpOf_dspsr _ _ _
@[simp] theorem State.writeSp_disr {w : Nat} (s : State) (v : BitVec w) : (s.writeSp v).disr = s.disr :=
  State.setSpOf_disr _ _ _
@[simp] theorem State.writeSp_vdisr {w : Nat} (s : State) (v : BitVec w) : (s.writeSp v).vdisr = s.vdisr :=
  State.setSpOf_vdisr _ _ _
@[simp] theorem State.writeSp_par {w : Nat} (s : State) (v : BitVec w) : (s.writeSp v).par = s.par :=
  State.setSpOf_par _ _ _
@[simp] theorem State.writeSp_tpidr {w : Nat} (s : State) (v : BitVec w) : (s.writeSp v).tpidr = s.tpidr :=
  State.setSpOf_tpidr _ _ _
@[simp] theorem State.writeSp_extra {w : Nat} (s : State) (v : BitVec w) : (s.writeSp v).extra = s.extra :=
  State.setSpOf_extra _ _ _
@[simp] theorem State.writeSp_mem {w : Nat} (s : State) (v : BitVec w) : (s.writeSp v).mem = s.mem :=
  State.setSpOf_mem _ _ _
@[simp] theorem State.writeSp_draws {w : Nat} (s : State) (v : BitVec w) : (s.writeSp v).draws = s.draws :=
  State.setSpOf_draws _ _ _
@[simp] theorem State.writeSp_env {w : Nat} (s : State) (v : BitVec w) : (s.writeSp v).env = s.env :=
  State.setSpOf_env _ _ _
@[simp] theorem State.writeSp_interruptFirst {w : Nat} (s : State) (v : BitVec w) : (s.writeSp v).interruptFirst = s.interruptFirst :=
  State.setSpOf_interruptFirst _ _ _

/-! ## writeXsp -/

@[simp] theorem State.writeXsp_cfg {w : Nat} (s : State) (r : Reg) (v : BitVec w) : (s.writeXsp r v).cfg = s.cfg :=
  by unfold State.writeXsp; split <;> simp
@[simp] theorem State.writeXsp_pc {w : Nat} (s : State) (r : Reg) (v : BitVec w) : (s.writeXsp r v).pc = s.pc :=
  by unfold State.writeXsp; split <;> simp
@[simp] theorem State.writeXsp_p {w : Nat} (s : State) (r : Reg) (v : BitVec w) : (s.writeXsp r v).p = s.p :=
  by unfold State.writeXsp; split <;> simp
@[simp] theorem State.writeXsp_monitor {w : Nat} (s : State) (r : Reg) (v : BitVec w) : (s.writeXsp r v).monitor = s.monitor :=
  by unfold State.writeXsp; split <;> simp
@[simp] theorem State.writeXsp_event {w : Nat} (s : State) (r : Reg) (v : BitVec w) : (s.writeXsp r v).event = s.event :=
  by unfold State.writeXsp; split <;> simp
@[simp] theorem State.writeXsp_irqPending {w : Nat} (s : State) (r : Reg) (v : BitVec w) : (s.writeXsp r v).irqPending = s.irqPending :=
  by unfold State.writeXsp; split <;> simp
@[simp] theorem State.writeXsp_fiqPending {w : Nat} (s : State) (r : Reg) (v : BitVec w) : (s.writeXsp r v).fiqPending = s.fiqPending :=
  by unfold State.writeXsp; split <;> simp
@[simp] theorem State.writeXsp_serrorPending {w : Nat} (s : State) (r : Reg) (v : BitVec w) : (s.writeXsp r v).serrorPending = s.serrorPending :=
  by unfold State.writeXsp; split <;> simp
@[simp] theorem State.writeXsp_serrorIss {w : Nat} (s : State) (r : Reg) (v : BitVec w) : (s.writeXsp r v).serrorIss = s.serrorIss :=
  by unfold State.writeXsp; split <;> simp
@[simp] theorem State.writeXsp_vserrorPending {w : Nat} (s : State) (r : Reg) (v : BitVec w) : (s.writeXsp r v).vserrorPending = s.vserrorPending :=
  by unfold State.writeXsp; split <;> simp
@[simp] theorem State.writeXsp_vserrorIss {w : Nat} (s : State) (r : Reg) (v : BitVec w) : (s.writeXsp r v).vserrorIss = s.vserrorIss :=
  by unfold State.writeXsp; split <;> simp
@[simp] theorem State.writeXsp_halted {w : Nat} (s : State) (r : Reg) (v : BitVec w) : (s.writeXsp r v).halted = s.halted :=
  by unfold State.writeXsp; split <;> simp
@[simp] theorem State.writeXsp_edscr {w : Nat} (s : State) (r : Reg) (v : BitVec w) : (s.writeXsp r v).edscr = s.edscr :=
  by unfold State.writeXsp; split <;> simp
@[simp] theorem State.writeXsp_haltingAllowed {w : Nat} (s : State) (r : Reg) (v : BitVec w) : (s.writeXsp r v).haltingAllowed = s.haltingAllowed :=
  by unfold State.writeXsp; split <;> simp
@[simp] theorem State.writeXsp_el1 {w : Nat} (s : State) (r : Reg) (v : BitVec w) : (s.writeXsp r v).el1 = s.el1 :=
  by unfold State.writeXsp; split <;> simp
@[simp] theorem State.writeXsp_el2 {w : Nat} (s : State) (r : Reg) (v : BitVec w) : (s.writeXsp r v).el2 = s.el2 :=
  by unfold State.writeXsp; split <;> simp
@[simp] theorem State.writeXsp_el3 {w : Nat} (s : State) (r : Reg) (v : BitVec w) : (s.writeXsp r v).el3 = s.el3 :=
  by unfold State.writeXsp; split <;> simp
@[simp] theorem State.writeXsp_hcr {w : Nat} (s : State) (r : Reg) (v : BitVec w) : (s.writeXsp r v).hcr = s.hcr :=
  by unfold State.writeXsp; split <;> simp
@[simp] theorem State.writeXsp_scr {w : Nat} (s : State) (r : Reg) (v : BitVec w) : (s.writeXsp r v).scr = s.scr :=
  by unfold State.writeXsp; split <;> simp
@[simp] theorem State.writeXsp_dlr {w : Nat} (s : State) (r : Reg) (v : BitVec w) : (s.writeXsp r v).dlr = s.dlr :=
  by unfold State.writeXsp; split <;> simp
@[simp] theorem State.writeXsp_dspsr {w : Nat} (s : State) (r : Reg) (v : BitVec w) : (s.writeXsp r v).dspsr = s.dspsr :=
  by unfold State.writeXsp; split <;> simp
@[simp] theorem State.writeXsp_disr {w : Nat} (s : State) (r : Reg) (v : BitVec w) : (s.writeXsp r v).disr = s.disr :=
  by unfold State.writeXsp; split <;> simp
@[simp] theorem State.writeXsp_vdisr {w : Nat} (s : State) (r : Reg) (v : BitVec w) : (s.writeXsp r v).vdisr = s.vdisr :=
  by unfold State.writeXsp; split <;> simp
@[simp] theorem State.writeXsp_par {w : Nat} (s : State) (r : Reg) (v : BitVec w) : (s.writeXsp r v).par = s.par :=
  by unfold State.writeXsp; split <;> simp
@[simp] theorem State.writeXsp_tpidr {w : Nat} (s : State) (r : Reg) (v : BitVec w) : (s.writeXsp r v).tpidr = s.tpidr :=
  by unfold State.writeXsp; split <;> simp
@[simp] theorem State.writeXsp_extra {w : Nat} (s : State) (r : Reg) (v : BitVec w) : (s.writeXsp r v).extra = s.extra :=
  by unfold State.writeXsp; split <;> simp
@[simp] theorem State.writeXsp_mem {w : Nat} (s : State) (r : Reg) (v : BitVec w) : (s.writeXsp r v).mem = s.mem :=
  by unfold State.writeXsp; split <;> simp
@[simp] theorem State.writeXsp_draws {w : Nat} (s : State) (r : Reg) (v : BitVec w) : (s.writeXsp r v).draws = s.draws :=
  by unfold State.writeXsp; split <;> simp
@[simp] theorem State.writeXsp_env {w : Nat} (s : State) (r : Reg) (v : BitVec w) : (s.writeXsp r v).env = s.env :=
  by unfold State.writeXsp; split <;> simp
@[simp] theorem State.writeXsp_interruptFirst {w : Nat} (s : State) (r : Reg) (v : BitVec w) : (s.writeXsp r v).interruptFirst = s.interruptFirst :=
  by unfold State.writeXsp; split <;> simp

/-! ## writeFlags -/

@[simp] theorem State.writeFlags_cfg (s : State) (f : Flags) : (s.writeFlags f).cfg = s.cfg := rfl
@[simp] theorem State.writeFlags_x (s : State) (f : Flags) : (s.writeFlags f).x = s.x := rfl
@[simp] theorem State.writeFlags_spEL0 (s : State) (f : Flags) : (s.writeFlags f).spEL0 = s.spEL0 := rfl
@[simp] theorem State.writeFlags_spEL1 (s : State) (f : Flags) : (s.writeFlags f).spEL1 = s.spEL1 := rfl
@[simp] theorem State.writeFlags_spEL2 (s : State) (f : Flags) : (s.writeFlags f).spEL2 = s.spEL2 := rfl
@[simp] theorem State.writeFlags_spEL3 (s : State) (f : Flags) : (s.writeFlags f).spEL3 = s.spEL3 := rfl
@[simp] theorem State.writeFlags_pc (s : State) (f : Flags) : (s.writeFlags f).pc = s.pc := rfl
@[simp] theorem State.writeFlags_p (s : State) (f : Flags) : (s.writeFlags f).p = s.p.withFlags f := rfl
@[simp] theorem State.writeFlags_monitor (s : State) (f : Flags) : (s.writeFlags f).monitor = s.monitor := rfl
@[simp] theorem State.writeFlags_event (s : State) (f : Flags) : (s.writeFlags f).event = s.event := rfl
@[simp] theorem State.writeFlags_irqPending (s : State) (f : Flags) : (s.writeFlags f).irqPending = s.irqPending := rfl
@[simp] theorem State.writeFlags_fiqPending (s : State) (f : Flags) : (s.writeFlags f).fiqPending = s.fiqPending := rfl
@[simp] theorem State.writeFlags_serrorPending (s : State) (f : Flags) : (s.writeFlags f).serrorPending = s.serrorPending :=
  rfl
@[simp] theorem State.writeFlags_serrorIss (s : State) (f : Flags) : (s.writeFlags f).serrorIss = s.serrorIss := rfl
@[simp] theorem State.writeFlags_vserrorPending (s : State) (f : Flags) : (s.writeFlags f).vserrorPending = s.vserrorPending :=
  rfl
@[simp] theorem State.writeFlags_vserrorIss (s : State) (f : Flags) : (s.writeFlags f).vserrorIss = s.vserrorIss := rfl
@[simp] theorem State.writeFlags_halted (s : State) (f : Flags) : (s.writeFlags f).halted = s.halted := rfl
@[simp] theorem State.writeFlags_edscr (s : State) (f : Flags) : (s.writeFlags f).edscr = s.edscr := rfl
@[simp] theorem State.writeFlags_haltingAllowed (s : State) (f : Flags) : (s.writeFlags f).haltingAllowed = s.haltingAllowed :=
  rfl
@[simp] theorem State.writeFlags_el1 (s : State) (f : Flags) : (s.writeFlags f).el1 = s.el1 := rfl
@[simp] theorem State.writeFlags_el2 (s : State) (f : Flags) : (s.writeFlags f).el2 = s.el2 := rfl
@[simp] theorem State.writeFlags_el3 (s : State) (f : Flags) : (s.writeFlags f).el3 = s.el3 := rfl
@[simp] theorem State.writeFlags_hcr (s : State) (f : Flags) : (s.writeFlags f).hcr = s.hcr := rfl
@[simp] theorem State.writeFlags_scr (s : State) (f : Flags) : (s.writeFlags f).scr = s.scr := rfl
@[simp] theorem State.writeFlags_dlr (s : State) (f : Flags) : (s.writeFlags f).dlr = s.dlr := rfl
@[simp] theorem State.writeFlags_dspsr (s : State) (f : Flags) : (s.writeFlags f).dspsr = s.dspsr := rfl
@[simp] theorem State.writeFlags_disr (s : State) (f : Flags) : (s.writeFlags f).disr = s.disr := rfl
@[simp] theorem State.writeFlags_vdisr (s : State) (f : Flags) : (s.writeFlags f).vdisr = s.vdisr := rfl
@[simp] theorem State.writeFlags_par (s : State) (f : Flags) : (s.writeFlags f).par = s.par := rfl
@[simp] theorem State.writeFlags_tpidr (s : State) (f : Flags) : (s.writeFlags f).tpidr = s.tpidr := rfl
@[simp] theorem State.writeFlags_extra (s : State) (f : Flags) : (s.writeFlags f).extra = s.extra := rfl
@[simp] theorem State.writeFlags_mem (s : State) (f : Flags) : (s.writeFlags f).mem = s.mem := rfl
@[simp] theorem State.writeFlags_draws (s : State) (f : Flags) : (s.writeFlags f).draws = s.draws := rfl
@[simp] theorem State.writeFlags_env (s : State) (f : Flags) : (s.writeFlags f).env = s.env := rfl
@[simp] theorem State.writeFlags_interruptFirst (s : State) (f : Flags) : (s.writeFlags f).interruptFirst = s.interruptFirst := rfl

/-! ## branch -/

@[simp] theorem State.branch_cfg (s : State) (a : Addr) : (s.branch a).cfg = s.cfg := rfl
@[simp] theorem State.branch_x (s : State) (a : Addr) : (s.branch a).x = s.x := rfl
@[simp] theorem State.branch_spEL0 (s : State) (a : Addr) : (s.branch a).spEL0 = s.spEL0 := rfl
@[simp] theorem State.branch_spEL1 (s : State) (a : Addr) : (s.branch a).spEL1 = s.spEL1 := rfl
@[simp] theorem State.branch_spEL2 (s : State) (a : Addr) : (s.branch a).spEL2 = s.spEL2 := rfl
@[simp] theorem State.branch_spEL3 (s : State) (a : Addr) : (s.branch a).spEL3 = s.spEL3 := rfl
@[simp] theorem State.branch_pc (s : State) (a : Addr) : (s.branch a).pc = a := rfl
@[simp] theorem State.branch_p (s : State) (a : Addr) : (s.branch a).p = s.p := rfl
@[simp] theorem State.branch_monitor (s : State) (a : Addr) : (s.branch a).monitor = s.monitor := rfl
@[simp] theorem State.branch_event (s : State) (a : Addr) : (s.branch a).event = s.event := rfl
@[simp] theorem State.branch_irqPending (s : State) (a : Addr) : (s.branch a).irqPending = s.irqPending := rfl
@[simp] theorem State.branch_fiqPending (s : State) (a : Addr) : (s.branch a).fiqPending = s.fiqPending := rfl
@[simp] theorem State.branch_serrorPending (s : State) (a : Addr) : (s.branch a).serrorPending = s.serrorPending := rfl
@[simp] theorem State.branch_serrorIss (s : State) (a : Addr) : (s.branch a).serrorIss = s.serrorIss := rfl
@[simp] theorem State.branch_vserrorPending (s : State) (a : Addr) : (s.branch a).vserrorPending = s.vserrorPending :=
  rfl
@[simp] theorem State.branch_vserrorIss (s : State) (a : Addr) : (s.branch a).vserrorIss = s.vserrorIss := rfl
@[simp] theorem State.branch_halted (s : State) (a : Addr) : (s.branch a).halted = s.halted := rfl
@[simp] theorem State.branch_edscr (s : State) (a : Addr) : (s.branch a).edscr = s.edscr := rfl
@[simp] theorem State.branch_haltingAllowed (s : State) (a : Addr) : (s.branch a).haltingAllowed = s.haltingAllowed :=
  rfl
@[simp] theorem State.branch_el1 (s : State) (a : Addr) : (s.branch a).el1 = s.el1 := rfl
@[simp] theorem State.branch_el2 (s : State) (a : Addr) : (s.branch a).el2 = s.el2 := rfl
@[simp] theorem State.branch_el3 (s : State) (a : Addr) : (s.branch a).el3 = s.el3 := rfl
@[simp] theorem State.branch_hcr (s : State) (a : Addr) : (s.branch a).hcr = s.hcr := rfl
@[simp] theorem State.branch_scr (s : State) (a : Addr) : (s.branch a).scr = s.scr := rfl
@[simp] theorem State.branch_dlr (s : State) (a : Addr) : (s.branch a).dlr = s.dlr := rfl
@[simp] theorem State.branch_dspsr (s : State) (a : Addr) : (s.branch a).dspsr = s.dspsr := rfl
@[simp] theorem State.branch_disr (s : State) (a : Addr) : (s.branch a).disr = s.disr := rfl
@[simp] theorem State.branch_vdisr (s : State) (a : Addr) : (s.branch a).vdisr = s.vdisr := rfl
@[simp] theorem State.branch_par (s : State) (a : Addr) : (s.branch a).par = s.par := rfl
@[simp] theorem State.branch_tpidr (s : State) (a : Addr) : (s.branch a).tpidr = s.tpidr := rfl
@[simp] theorem State.branch_extra (s : State) (a : Addr) : (s.branch a).extra = s.extra := rfl
@[simp] theorem State.branch_mem (s : State) (a : Addr) : (s.branch a).mem = s.mem := rfl
@[simp] theorem State.branch_draws (s : State) (a : Addr) : (s.branch a).draws = s.draws := rfl
@[simp] theorem State.branch_env (s : State) (a : Addr) : (s.branch a).env = s.env := rfl
@[simp] theorem State.branch_interruptFirst (s : State) (a : Addr) : (s.branch a).interruptFirst = s.interruptFirst := rfl

/-! ## advance -/

@[simp] theorem State.advance_cfg (s : State) : (s.advance).cfg = s.cfg := rfl
@[simp] theorem State.advance_x (s : State) : (s.advance).x = s.x := rfl
@[simp] theorem State.advance_spEL0 (s : State) : (s.advance).spEL0 = s.spEL0 := rfl
@[simp] theorem State.advance_spEL1 (s : State) : (s.advance).spEL1 = s.spEL1 := rfl
@[simp] theorem State.advance_spEL2 (s : State) : (s.advance).spEL2 = s.spEL2 := rfl
@[simp] theorem State.advance_spEL3 (s : State) : (s.advance).spEL3 = s.spEL3 := rfl
@[simp] theorem State.advance_pc (s : State) : (s.advance).pc = s.pc + 4#64 := rfl
@[simp] theorem State.advance_p (s : State) : (s.advance).p = s.p := rfl
@[simp] theorem State.advance_monitor (s : State) : (s.advance).monitor = s.monitor := rfl
@[simp] theorem State.advance_event (s : State) : (s.advance).event = s.event := rfl
@[simp] theorem State.advance_irqPending (s : State) : (s.advance).irqPending = s.irqPending := rfl
@[simp] theorem State.advance_fiqPending (s : State) : (s.advance).fiqPending = s.fiqPending := rfl
@[simp] theorem State.advance_serrorPending (s : State) : (s.advance).serrorPending = s.serrorPending := rfl
@[simp] theorem State.advance_serrorIss (s : State) : (s.advance).serrorIss = s.serrorIss := rfl
@[simp] theorem State.advance_vserrorPending (s : State) : (s.advance).vserrorPending = s.vserrorPending := rfl
@[simp] theorem State.advance_vserrorIss (s : State) : (s.advance).vserrorIss = s.vserrorIss := rfl
@[simp] theorem State.advance_halted (s : State) : (s.advance).halted = s.halted := rfl
@[simp] theorem State.advance_edscr (s : State) : (s.advance).edscr = s.edscr := rfl
@[simp] theorem State.advance_haltingAllowed (s : State) : (s.advance).haltingAllowed = s.haltingAllowed := rfl
@[simp] theorem State.advance_el1 (s : State) : (s.advance).el1 = s.el1 := rfl
@[simp] theorem State.advance_el2 (s : State) : (s.advance).el2 = s.el2 := rfl
@[simp] theorem State.advance_el3 (s : State) : (s.advance).el3 = s.el3 := rfl
@[simp] theorem State.advance_hcr (s : State) : (s.advance).hcr = s.hcr := rfl
@[simp] theorem State.advance_scr (s : State) : (s.advance).scr = s.scr := rfl
@[simp] theorem State.advance_dlr (s : State) : (s.advance).dlr = s.dlr := rfl
@[simp] theorem State.advance_dspsr (s : State) : (s.advance).dspsr = s.dspsr := rfl
@[simp] theorem State.advance_disr (s : State) : (s.advance).disr = s.disr := rfl
@[simp] theorem State.advance_vdisr (s : State) : (s.advance).vdisr = s.vdisr := rfl
@[simp] theorem State.advance_par (s : State) : (s.advance).par = s.par := rfl
@[simp] theorem State.advance_tpidr (s : State) : (s.advance).tpidr = s.tpidr := rfl
@[simp] theorem State.advance_extra (s : State) : (s.advance).extra = s.extra := rfl
@[simp] theorem State.advance_mem (s : State) : (s.advance).mem = s.mem := rfl
@[simp] theorem State.advance_draws (s : State) : (s.advance).draws = s.draws := rfl
@[simp] theorem State.advance_env (s : State) : (s.advance).env = s.env := rfl
@[simp] theorem State.advance_interruptFirst (s : State) : (s.advance).interruptFirst = s.interruptFirst := rfl

/-! ## setElRegs -/

@[simp] theorem State.setElRegs_cfg (s : State) (l : EL) (r : ELRegs) : (s.setElRegs l r).cfg = s.cfg :=
  by cases l <;> rfl
@[simp] theorem State.setElRegs_x (s : State) (l : EL) (r : ELRegs) : (s.setElRegs l r).x = s.x := by cases l <;> rfl
@[simp] theorem State.setElRegs_spEL0 (s : State) (l : EL) (r : ELRegs) : (s.setElRegs l r).spEL0 = s.spEL0 :=
  by cases l <;> rfl
@[simp] theorem State.setElRegs_spEL1 (s : State) (l : EL) (r : ELRegs) : (s.setElRegs l r).spEL1 = s.spEL1 :=
  by cases l <;> rfl
@[simp] theorem State.setElRegs_spEL2 (s : State) (l : EL) (r : ELRegs) : (s.setElRegs l r).spEL2 = s.spEL2 :=
  by cases l <;> rfl
@[simp] theorem State.setElRegs_spEL3 (s : State) (l : EL) (r : ELRegs) : (s.setElRegs l r).spEL3 = s.spEL3 :=
  by cases l <;> rfl
@[simp] theorem State.setElRegs_pc (s : State) (l : EL) (r : ELRegs) : (s.setElRegs l r).pc = s.pc := by cases l <;> rfl
@[simp] theorem State.setElRegs_p (s : State) (l : EL) (r : ELRegs) : (s.setElRegs l r).p = s.p := by cases l <;> rfl
@[simp] theorem State.setElRegs_monitor (s : State) (l : EL) (r : ELRegs) : (s.setElRegs l r).monitor = s.monitor :=
  by cases l <;> rfl
@[simp] theorem State.setElRegs_event (s : State) (l : EL) (r : ELRegs) : (s.setElRegs l r).event = s.event :=
  by cases l <;> rfl
@[simp] theorem State.setElRegs_irqPending (s : State) (l : EL) (r : ELRegs) : (s.setElRegs l r).irqPending = s.irqPending :=
  by cases l <;> rfl
@[simp] theorem State.setElRegs_fiqPending (s : State) (l : EL) (r : ELRegs) : (s.setElRegs l r).fiqPending = s.fiqPending :=
  by cases l <;> rfl
@[simp] theorem State.setElRegs_serrorPending (s : State) (l : EL) (r : ELRegs) : (s.setElRegs l r).serrorPending = s.serrorPending :=
  by cases l <;> rfl
@[simp] theorem State.setElRegs_serrorIss (s : State) (l : EL) (r : ELRegs) : (s.setElRegs l r).serrorIss = s.serrorIss :=
  by cases l <;> rfl
@[simp] theorem State.setElRegs_vserrorPending (s : State) (l : EL) (r : ELRegs) : (s.setElRegs l r).vserrorPending = s.vserrorPending :=
  by cases l <;> rfl
@[simp] theorem State.setElRegs_vserrorIss (s : State) (l : EL) (r : ELRegs) : (s.setElRegs l r).vserrorIss = s.vserrorIss :=
  by cases l <;> rfl
@[simp] theorem State.setElRegs_halted (s : State) (l : EL) (r : ELRegs) : (s.setElRegs l r).halted = s.halted :=
  by cases l <;> rfl
@[simp] theorem State.setElRegs_edscr (s : State) (l : EL) (r : ELRegs) : (s.setElRegs l r).edscr = s.edscr :=
  by cases l <;> rfl
@[simp] theorem State.setElRegs_haltingAllowed (s : State) (l : EL) (r : ELRegs) : (s.setElRegs l r).haltingAllowed = s.haltingAllowed :=
  by cases l <;> rfl
@[simp] theorem State.setElRegs_hcr (s : State) (l : EL) (r : ELRegs) : (s.setElRegs l r).hcr = s.hcr :=
  by cases l <;> rfl
@[simp] theorem State.setElRegs_scr (s : State) (l : EL) (r : ELRegs) : (s.setElRegs l r).scr = s.scr :=
  by cases l <;> rfl
@[simp] theorem State.setElRegs_dlr (s : State) (l : EL) (r : ELRegs) : (s.setElRegs l r).dlr = s.dlr :=
  by cases l <;> rfl
@[simp] theorem State.setElRegs_dspsr (s : State) (l : EL) (r : ELRegs) : (s.setElRegs l r).dspsr = s.dspsr :=
  by cases l <;> rfl
@[simp] theorem State.setElRegs_disr (s : State) (l : EL) (r : ELRegs) : (s.setElRegs l r).disr = s.disr :=
  by cases l <;> rfl
@[simp] theorem State.setElRegs_vdisr (s : State) (l : EL) (r : ELRegs) : (s.setElRegs l r).vdisr = s.vdisr :=
  by cases l <;> rfl
@[simp] theorem State.setElRegs_par (s : State) (l : EL) (r : ELRegs) : (s.setElRegs l r).par = s.par :=
  by cases l <;> rfl
@[simp] theorem State.setElRegs_tpidr (s : State) (l : EL) (r : ELRegs) : (s.setElRegs l r).tpidr = s.tpidr :=
  by cases l <;> rfl
@[simp] theorem State.setElRegs_extra (s : State) (l : EL) (r : ELRegs) : (s.setElRegs l r).extra = s.extra :=
  by cases l <;> rfl
@[simp] theorem State.setElRegs_mem (s : State) (l : EL) (r : ELRegs) : (s.setElRegs l r).mem = s.mem :=
  by cases l <;> rfl
@[simp] theorem State.setElRegs_draws (s : State) (l : EL) (r : ELRegs) : (s.setElRegs l r).draws = s.draws :=
  by cases l <;> rfl
@[simp] theorem State.setElRegs_env (s : State) (l : EL) (r : ELRegs) : (s.setElRegs l r).env = s.env :=
  by cases l <;> rfl
@[simp] theorem State.setElRegs_interruptFirst (s : State) (l : EL) (r : ELRegs) : (s.setElRegs l r).interruptFirst = s.interruptFirst :=
  by cases l <;> rfl

/-! ## drawn -/

@[simp] theorem State.drawn_cfg (s : State) (n : Nat) : (s.drawn n).cfg = s.cfg := rfl
@[simp] theorem State.drawn_x (s : State) (n : Nat) : (s.drawn n).x = s.x := rfl
@[simp] theorem State.drawn_spEL0 (s : State) (n : Nat) : (s.drawn n).spEL0 = s.spEL0 := rfl
@[simp] theorem State.drawn_spEL1 (s : State) (n : Nat) : (s.drawn n).spEL1 = s.spEL1 := rfl
@[simp] theorem State.drawn_spEL2 (s : State) (n : Nat) : (s.drawn n).spEL2 = s.spEL2 := rfl
@[simp] theorem State.drawn_spEL3 (s : State) (n : Nat) : (s.drawn n).spEL3 = s.spEL3 := rfl
@[simp] theorem State.drawn_pc (s : State) (n : Nat) : (s.drawn n).pc = s.pc := rfl
@[simp] theorem State.drawn_p (s : State) (n : Nat) : (s.drawn n).p = s.p := rfl
@[simp] theorem State.drawn_monitor (s : State) (n : Nat) : (s.drawn n).monitor = s.monitor := rfl
@[simp] theorem State.drawn_event (s : State) (n : Nat) : (s.drawn n).event = s.event := rfl
@[simp] theorem State.drawn_irqPending (s : State) (n : Nat) : (s.drawn n).irqPending = s.irqPending := rfl
@[simp] theorem State.drawn_fiqPending (s : State) (n : Nat) : (s.drawn n).fiqPending = s.fiqPending := rfl
@[simp] theorem State.drawn_serrorPending (s : State) (n : Nat) : (s.drawn n).serrorPending = s.serrorPending := rfl
@[simp] theorem State.drawn_serrorIss (s : State) (n : Nat) : (s.drawn n).serrorIss = s.serrorIss := rfl
@[simp] theorem State.drawn_vserrorPending (s : State) (n : Nat) : (s.drawn n).vserrorPending = s.vserrorPending := rfl
@[simp] theorem State.drawn_vserrorIss (s : State) (n : Nat) : (s.drawn n).vserrorIss = s.vserrorIss := rfl
@[simp] theorem State.drawn_halted (s : State) (n : Nat) : (s.drawn n).halted = s.halted := rfl
@[simp] theorem State.drawn_edscr (s : State) (n : Nat) : (s.drawn n).edscr = s.edscr := rfl
@[simp] theorem State.drawn_haltingAllowed (s : State) (n : Nat) : (s.drawn n).haltingAllowed = s.haltingAllowed := rfl
@[simp] theorem State.drawn_el1 (s : State) (n : Nat) : (s.drawn n).el1 = s.el1 := rfl
@[simp] theorem State.drawn_el2 (s : State) (n : Nat) : (s.drawn n).el2 = s.el2 := rfl
@[simp] theorem State.drawn_el3 (s : State) (n : Nat) : (s.drawn n).el3 = s.el3 := rfl
@[simp] theorem State.drawn_hcr (s : State) (n : Nat) : (s.drawn n).hcr = s.hcr := rfl
@[simp] theorem State.drawn_scr (s : State) (n : Nat) : (s.drawn n).scr = s.scr := rfl
@[simp] theorem State.drawn_dlr (s : State) (n : Nat) : (s.drawn n).dlr = s.dlr := rfl
@[simp] theorem State.drawn_dspsr (s : State) (n : Nat) : (s.drawn n).dspsr = s.dspsr := rfl
@[simp] theorem State.drawn_disr (s : State) (n : Nat) : (s.drawn n).disr = s.disr := rfl
@[simp] theorem State.drawn_vdisr (s : State) (n : Nat) : (s.drawn n).vdisr = s.vdisr := rfl
@[simp] theorem State.drawn_par (s : State) (n : Nat) : (s.drawn n).par = s.par := rfl
@[simp] theorem State.drawn_tpidr (s : State) (n : Nat) : (s.drawn n).tpidr = s.tpidr := rfl
@[simp] theorem State.drawn_extra (s : State) (n : Nat) : (s.drawn n).extra = s.extra := rfl
@[simp] theorem State.drawn_mem (s : State) (n : Nat) : (s.drawn n).mem = s.mem := rfl
@[simp] theorem State.drawn_draws (s : State) (n : Nat) : (s.drawn n).draws = s.draws + n := rfl
@[simp] theorem State.drawn_env (s : State) (n : Nat) : (s.drawn n).env = s.env := rfl
@[simp] theorem State.drawn_interruptFirst (s : State) (n : Nat) : (s.drawn n).interruptFirst = s.interruptFirst := rfl

/-! ## storeBytes -/

@[simp] theorem State.storeBytes_cfg {w : Nat} (s : State) (a : Addr) (n : Nat) (v : BitVec w) : (s.storeBytes a n v).cfg = s.cfg :=
  rfl
@[simp] theorem State.storeBytes_x {w : Nat} (s : State) (a : Addr) (n : Nat) (v : BitVec w) : (s.storeBytes a n v).x = s.x :=
  rfl
@[simp] theorem State.storeBytes_spEL0 {w : Nat} (s : State) (a : Addr) (n : Nat) (v : BitVec w) : (s.storeBytes a n v).spEL0 = s.spEL0 :=
  rfl
@[simp] theorem State.storeBytes_spEL1 {w : Nat} (s : State) (a : Addr) (n : Nat) (v : BitVec w) : (s.storeBytes a n v).spEL1 = s.spEL1 :=
  rfl
@[simp] theorem State.storeBytes_spEL2 {w : Nat} (s : State) (a : Addr) (n : Nat) (v : BitVec w) : (s.storeBytes a n v).spEL2 = s.spEL2 :=
  rfl
@[simp] theorem State.storeBytes_spEL3 {w : Nat} (s : State) (a : Addr) (n : Nat) (v : BitVec w) : (s.storeBytes a n v).spEL3 = s.spEL3 :=
  rfl
@[simp] theorem State.storeBytes_pc {w : Nat} (s : State) (a : Addr) (n : Nat) (v : BitVec w) : (s.storeBytes a n v).pc = s.pc :=
  rfl
@[simp] theorem State.storeBytes_p {w : Nat} (s : State) (a : Addr) (n : Nat) (v : BitVec w) : (s.storeBytes a n v).p = s.p :=
  rfl
@[simp] theorem State.storeBytes_monitor {w : Nat} (s : State) (a : Addr) (n : Nat) (v : BitVec w) : (s.storeBytes a n v).monitor = s.monitor :=
  rfl
@[simp] theorem State.storeBytes_event {w : Nat} (s : State) (a : Addr) (n : Nat) (v : BitVec w) : (s.storeBytes a n v).event = s.event :=
  rfl
@[simp] theorem State.storeBytes_irqPending {w : Nat} (s : State) (a : Addr) (n : Nat) (v : BitVec w) : (s.storeBytes a n v).irqPending = s.irqPending :=
  rfl
@[simp] theorem State.storeBytes_fiqPending {w : Nat} (s : State) (a : Addr) (n : Nat) (v : BitVec w) : (s.storeBytes a n v).fiqPending = s.fiqPending :=
  rfl
@[simp] theorem State.storeBytes_serrorPending {w : Nat} (s : State) (a : Addr) (n : Nat) (v : BitVec w) : (s.storeBytes a n v).serrorPending = s.serrorPending :=
  rfl
@[simp] theorem State.storeBytes_serrorIss {w : Nat} (s : State) (a : Addr) (n : Nat) (v : BitVec w) : (s.storeBytes a n v).serrorIss = s.serrorIss :=
  rfl
@[simp] theorem State.storeBytes_vserrorPending {w : Nat} (s : State) (a : Addr) (n : Nat) (v : BitVec w) : (s.storeBytes a n v).vserrorPending = s.vserrorPending :=
  rfl
@[simp] theorem State.storeBytes_vserrorIss {w : Nat} (s : State) (a : Addr) (n : Nat) (v : BitVec w) : (s.storeBytes a n v).vserrorIss = s.vserrorIss :=
  rfl
@[simp] theorem State.storeBytes_halted {w : Nat} (s : State) (a : Addr) (n : Nat) (v : BitVec w) : (s.storeBytes a n v).halted = s.halted :=
  rfl
@[simp] theorem State.storeBytes_edscr {w : Nat} (s : State) (a : Addr) (n : Nat) (v : BitVec w) : (s.storeBytes a n v).edscr = s.edscr :=
  rfl
@[simp] theorem State.storeBytes_haltingAllowed {w : Nat} (s : State) (a : Addr) (n : Nat) (v : BitVec w) : (s.storeBytes a n v).haltingAllowed = s.haltingAllowed :=
  rfl
@[simp] theorem State.storeBytes_el1 {w : Nat} (s : State) (a : Addr) (n : Nat) (v : BitVec w) : (s.storeBytes a n v).el1 = s.el1 :=
  rfl
@[simp] theorem State.storeBytes_el2 {w : Nat} (s : State) (a : Addr) (n : Nat) (v : BitVec w) : (s.storeBytes a n v).el2 = s.el2 :=
  rfl
@[simp] theorem State.storeBytes_el3 {w : Nat} (s : State) (a : Addr) (n : Nat) (v : BitVec w) : (s.storeBytes a n v).el3 = s.el3 :=
  rfl
@[simp] theorem State.storeBytes_hcr {w : Nat} (s : State) (a : Addr) (n : Nat) (v : BitVec w) : (s.storeBytes a n v).hcr = s.hcr :=
  rfl
@[simp] theorem State.storeBytes_scr {w : Nat} (s : State) (a : Addr) (n : Nat) (v : BitVec w) : (s.storeBytes a n v).scr = s.scr :=
  rfl
@[simp] theorem State.storeBytes_dlr {w : Nat} (s : State) (a : Addr) (n : Nat) (v : BitVec w) : (s.storeBytes a n v).dlr = s.dlr :=
  rfl
@[simp] theorem State.storeBytes_dspsr {w : Nat} (s : State) (a : Addr) (n : Nat) (v : BitVec w) : (s.storeBytes a n v).dspsr = s.dspsr :=
  rfl
@[simp] theorem State.storeBytes_disr {w : Nat} (s : State) (a : Addr) (n : Nat) (v : BitVec w) : (s.storeBytes a n v).disr = s.disr :=
  rfl
@[simp] theorem State.storeBytes_vdisr {w : Nat} (s : State) (a : Addr) (n : Nat) (v : BitVec w) : (s.storeBytes a n v).vdisr = s.vdisr :=
  rfl
@[simp] theorem State.storeBytes_par {w : Nat} (s : State) (a : Addr) (n : Nat) (v : BitVec w) : (s.storeBytes a n v).par = s.par :=
  rfl
@[simp] theorem State.storeBytes_tpidr {w : Nat} (s : State) (a : Addr) (n : Nat) (v : BitVec w) : (s.storeBytes a n v).tpidr = s.tpidr :=
  rfl
@[simp] theorem State.storeBytes_extra {w : Nat} (s : State) (a : Addr) (n : Nat) (v : BitVec w) : (s.storeBytes a n v).extra = s.extra :=
  rfl
@[simp] theorem State.storeBytes_mem {w : Nat} (s : State) (a : Addr) (n : Nat) (v : BitVec w) : (s.storeBytes a n v).mem = s.mem.store s.bigEndian a v n := rfl
@[simp] theorem State.storeBytes_draws {w : Nat} (s : State) (a : Addr) (n : Nat) (v : BitVec w) : (s.storeBytes a n v).draws = s.draws :=
  rfl
@[simp] theorem State.storeBytes_env {w : Nat} (s : State) (a : Addr) (n : Nat) (v : BitVec w) : (s.storeBytes a n v).env = s.env :=
  rfl
@[simp] theorem State.storeBytes_interruptFirst {w : Nat} (s : State) (a : Addr) (n : Nat) (v : BitVec w) : (s.storeBytes a n v).interruptFirst = s.interruptFirst :=
  rfl

/-! ## setMonitor -/

@[simp] theorem State.setMonitor_cfg (s : State) (a : Addr) (n : Nat) : (s.setMonitor a n).cfg = s.cfg := rfl
@[simp] theorem State.setMonitor_x (s : State) (a : Addr) (n : Nat) : (s.setMonitor a n).x = s.x := rfl
@[simp] theorem State.setMonitor_spEL0 (s : State) (a : Addr) (n : Nat) : (s.setMonitor a n).spEL0 = s.spEL0 := rfl
@[simp] theorem State.setMonitor_spEL1 (s : State) (a : Addr) (n : Nat) : (s.setMonitor a n).spEL1 = s.spEL1 := rfl
@[simp] theorem State.setMonitor_spEL2 (s : State) (a : Addr) (n : Nat) : (s.setMonitor a n).spEL2 = s.spEL2 := rfl
@[simp] theorem State.setMonitor_spEL3 (s : State) (a : Addr) (n : Nat) : (s.setMonitor a n).spEL3 = s.spEL3 := rfl
@[simp] theorem State.setMonitor_pc (s : State) (a : Addr) (n : Nat) : (s.setMonitor a n).pc = s.pc := rfl
@[simp] theorem State.setMonitor_p (s : State) (a : Addr) (n : Nat) : (s.setMonitor a n).p = s.p := rfl
@[simp] theorem State.setMonitor_monitor (s : State) (a : Addr) (n : Nat) : (s.setMonitor a n).monitor = some ⟨a, n⟩ := rfl
@[simp] theorem State.setMonitor_event (s : State) (a : Addr) (n : Nat) : (s.setMonitor a n).event = s.event := rfl
@[simp] theorem State.setMonitor_irqPending (s : State) (a : Addr) (n : Nat) : (s.setMonitor a n).irqPending = s.irqPending :=
  rfl
@[simp] theorem State.setMonitor_fiqPending (s : State) (a : Addr) (n : Nat) : (s.setMonitor a n).fiqPending = s.fiqPending :=
  rfl
@[simp] theorem State.setMonitor_serrorPending (s : State) (a : Addr) (n : Nat) : (s.setMonitor a n).serrorPending = s.serrorPending :=
  rfl
@[simp] theorem State.setMonitor_serrorIss (s : State) (a : Addr) (n : Nat) : (s.setMonitor a n).serrorIss = s.serrorIss :=
  rfl
@[simp] theorem State.setMonitor_vserrorPending (s : State) (a : Addr) (n : Nat) : (s.setMonitor a n).vserrorPending = s.vserrorPending :=
  rfl
@[simp] theorem State.setMonitor_vserrorIss (s : State) (a : Addr) (n : Nat) : (s.setMonitor a n).vserrorIss = s.vserrorIss :=
  rfl
@[simp] theorem State.setMonitor_halted (s : State) (a : Addr) (n : Nat) : (s.setMonitor a n).halted = s.halted := rfl
@[simp] theorem State.setMonitor_edscr (s : State) (a : Addr) (n : Nat) : (s.setMonitor a n).edscr = s.edscr := rfl
@[simp] theorem State.setMonitor_haltingAllowed (s : State) (a : Addr) (n : Nat) : (s.setMonitor a n).haltingAllowed = s.haltingAllowed :=
  rfl
@[simp] theorem State.setMonitor_el1 (s : State) (a : Addr) (n : Nat) : (s.setMonitor a n).el1 = s.el1 := rfl
@[simp] theorem State.setMonitor_el2 (s : State) (a : Addr) (n : Nat) : (s.setMonitor a n).el2 = s.el2 := rfl
@[simp] theorem State.setMonitor_el3 (s : State) (a : Addr) (n : Nat) : (s.setMonitor a n).el3 = s.el3 := rfl
@[simp] theorem State.setMonitor_hcr (s : State) (a : Addr) (n : Nat) : (s.setMonitor a n).hcr = s.hcr := rfl
@[simp] theorem State.setMonitor_scr (s : State) (a : Addr) (n : Nat) : (s.setMonitor a n).scr = s.scr := rfl
@[simp] theorem State.setMonitor_dlr (s : State) (a : Addr) (n : Nat) : (s.setMonitor a n).dlr = s.dlr := rfl
@[simp] theorem State.setMonitor_dspsr (s : State) (a : Addr) (n : Nat) : (s.setMonitor a n).dspsr = s.dspsr := rfl
@[simp] theorem State.setMonitor_disr (s : State) (a : Addr) (n : Nat) : (s.setMonitor a n).disr = s.disr := rfl
@[simp] theorem State.setMonitor_vdisr (s : State) (a : Addr) (n : Nat) : (s.setMonitor a n).vdisr = s.vdisr := rfl
@[simp] theorem State.setMonitor_par (s : State) (a : Addr) (n : Nat) : (s.setMonitor a n).par = s.par := rfl
@[simp] theorem State.setMonitor_tpidr (s : State) (a : Addr) (n : Nat) : (s.setMonitor a n).tpidr = s.tpidr := rfl
@[simp] theorem State.setMonitor_extra (s : State) (a : Addr) (n : Nat) : (s.setMonitor a n).extra = s.extra := rfl
@[simp] theorem State.setMonitor_mem (s : State) (a : Addr) (n : Nat) : (s.setMonitor a n).mem = s.mem := rfl
@[simp] theorem State.setMonitor_draws (s : State) (a : Addr) (n : Nat) : (s.setMonitor a n).draws = s.draws := rfl
@[simp] theorem State.setMonitor_env (s : State) (a : Addr) (n : Nat) : (s.setMonitor a n).env = s.env := rfl
@[simp] theorem State.setMonitor_interruptFirst (s : State) (a : Addr) (n : Nat) : (s.setMonitor a n).interruptFirst = s.interruptFirst := rfl

/-! ## clearMonitor -/

@[simp] theorem State.clearMonitor_cfg (s : State) : (s.clearMonitor).cfg = s.cfg := rfl
@[simp] theorem State.clearMonitor_x (s : State) : (s.clearMonitor).x = s.x := rfl
@[simp] theorem State.clearMonitor_spEL0 (s : State) : (s.clearMonitor).spEL0 = s.spEL0 := rfl
@[simp] theorem State.clearMonitor_spEL1 (s : State) : (s.clearMonitor).spEL1 = s.spEL1 := rfl
@[simp] theorem State.clearMonitor_spEL2 (s : State) : (s.clearMonitor).spEL2 = s.spEL2 := rfl
@[simp] theorem State.clearMonitor_spEL3 (s : State) : (s.clearMonitor).spEL3 = s.spEL3 := rfl
@[simp] theorem State.clearMonitor_pc (s : State) : (s.clearMonitor).pc = s.pc := rfl
@[simp] theorem State.clearMonitor_p (s : State) : (s.clearMonitor).p = s.p := rfl
@[simp] theorem State.clearMonitor_monitor (s : State) : (s.clearMonitor).monitor = none := rfl
@[simp] theorem State.clearMonitor_event (s : State) : (s.clearMonitor).event = s.event := rfl
@[simp] theorem State.clearMonitor_irqPending (s : State) : (s.clearMonitor).irqPending = s.irqPending := rfl
@[simp] theorem State.clearMonitor_fiqPending (s : State) : (s.clearMonitor).fiqPending = s.fiqPending := rfl
@[simp] theorem State.clearMonitor_serrorPending (s : State) : (s.clearMonitor).serrorPending = s.serrorPending := rfl
@[simp] theorem State.clearMonitor_serrorIss (s : State) : (s.clearMonitor).serrorIss = s.serrorIss := rfl
@[simp] theorem State.clearMonitor_vserrorPending (s : State) : (s.clearMonitor).vserrorPending = s.vserrorPending :=
  rfl
@[simp] theorem State.clearMonitor_vserrorIss (s : State) : (s.clearMonitor).vserrorIss = s.vserrorIss := rfl
@[simp] theorem State.clearMonitor_halted (s : State) : (s.clearMonitor).halted = s.halted := rfl
@[simp] theorem State.clearMonitor_edscr (s : State) : (s.clearMonitor).edscr = s.edscr := rfl
@[simp] theorem State.clearMonitor_haltingAllowed (s : State) : (s.clearMonitor).haltingAllowed = s.haltingAllowed :=
  rfl
@[simp] theorem State.clearMonitor_el1 (s : State) : (s.clearMonitor).el1 = s.el1 := rfl
@[simp] theorem State.clearMonitor_el2 (s : State) : (s.clearMonitor).el2 = s.el2 := rfl
@[simp] theorem State.clearMonitor_el3 (s : State) : (s.clearMonitor).el3 = s.el3 := rfl
@[simp] theorem State.clearMonitor_hcr (s : State) : (s.clearMonitor).hcr = s.hcr := rfl
@[simp] theorem State.clearMonitor_scr (s : State) : (s.clearMonitor).scr = s.scr := rfl
@[simp] theorem State.clearMonitor_dlr (s : State) : (s.clearMonitor).dlr = s.dlr := rfl
@[simp] theorem State.clearMonitor_dspsr (s : State) : (s.clearMonitor).dspsr = s.dspsr := rfl
@[simp] theorem State.clearMonitor_disr (s : State) : (s.clearMonitor).disr = s.disr := rfl
@[simp] theorem State.clearMonitor_vdisr (s : State) : (s.clearMonitor).vdisr = s.vdisr := rfl
@[simp] theorem State.clearMonitor_par (s : State) : (s.clearMonitor).par = s.par := rfl
@[simp] theorem State.clearMonitor_tpidr (s : State) : (s.clearMonitor).tpidr = s.tpidr := rfl
@[simp] theorem State.clearMonitor_extra (s : State) : (s.clearMonitor).extra = s.extra := rfl
@[simp] theorem State.clearMonitor_mem (s : State) : (s.clearMonitor).mem = s.mem := rfl
@[simp] theorem State.clearMonitor_draws (s : State) : (s.clearMonitor).draws = s.draws := rfl
@[simp] theorem State.clearMonitor_env (s : State) : (s.clearMonitor).env = s.env := rfl
@[simp] theorem State.clearMonitor_interruptFirst (s : State) : (s.clearMonitor).interruptFirst = s.interruptFirst := rfl

/-! ## startStep -/

@[simp] theorem State.startStep_cfg (s : State) : (s.startStep).cfg = s.cfg := rfl
@[simp] theorem State.startStep_x (s : State) : (s.startStep).x = s.x := rfl
@[simp] theorem State.startStep_spEL0 (s : State) : (s.startStep).spEL0 = s.spEL0 := rfl
@[simp] theorem State.startStep_spEL1 (s : State) : (s.startStep).spEL1 = s.spEL1 := rfl
@[simp] theorem State.startStep_spEL2 (s : State) : (s.startStep).spEL2 = s.spEL2 := rfl
@[simp] theorem State.startStep_spEL3 (s : State) : (s.startStep).spEL3 = s.spEL3 := rfl
@[simp] theorem State.startStep_pc (s : State) : (s.startStep).pc = s.pc := rfl
@[simp] theorem State.startStep_p (s : State) : (s.startStep).p = s.p := rfl
@[simp] theorem State.startStep_monitor (s : State) : (s.startStep).monitor = s.monitor := rfl
@[simp] theorem State.startStep_event (s : State) : (s.startStep).event = s.event := rfl
@[simp] theorem State.startStep_irqPending (s : State) : (s.startStep).irqPending = s.irqPending := rfl
@[simp] theorem State.startStep_fiqPending (s : State) : (s.startStep).fiqPending = s.fiqPending := rfl
@[simp] theorem State.startStep_serrorPending (s : State) : (s.startStep).serrorPending = s.serrorPending := rfl
@[simp] theorem State.startStep_serrorIss (s : State) : (s.startStep).serrorIss = s.serrorIss := rfl
@[simp] theorem State.startStep_vserrorPending (s : State) : (s.startStep).vserrorPending = s.vserrorPending := rfl
@[simp] theorem State.startStep_vserrorIss (s : State) : (s.startStep).vserrorIss = s.vserrorIss := rfl
@[simp] theorem State.startStep_halted (s : State) : (s.startStep).halted = s.halted := rfl
@[simp] theorem State.startStep_edscr (s : State) : (s.startStep).edscr = s.edscr := rfl
@[simp] theorem State.startStep_haltingAllowed (s : State) : (s.startStep).haltingAllowed = s.haltingAllowed := rfl
@[simp] theorem State.startStep_el1 (s : State) : (s.startStep).el1 = s.el1 := rfl
@[simp] theorem State.startStep_el2 (s : State) : (s.startStep).el2 = s.el2 := rfl
@[simp] theorem State.startStep_el3 (s : State) : (s.startStep).el3 = s.el3 := rfl
@[simp] theorem State.startStep_hcr (s : State) : (s.startStep).hcr = s.hcr := rfl
@[simp] theorem State.startStep_scr (s : State) : (s.startStep).scr = s.scr := rfl
@[simp] theorem State.startStep_dlr (s : State) : (s.startStep).dlr = s.dlr := rfl
@[simp] theorem State.startStep_dspsr (s : State) : (s.startStep).dspsr = s.dspsr := rfl
@[simp] theorem State.startStep_disr (s : State) : (s.startStep).disr = s.disr := rfl
@[simp] theorem State.startStep_vdisr (s : State) : (s.startStep).vdisr = s.vdisr := rfl
@[simp] theorem State.startStep_par (s : State) : (s.startStep).par = s.par := rfl
@[simp] theorem State.startStep_tpidr (s : State) : (s.startStep).tpidr = s.tpidr := rfl
@[simp] theorem State.startStep_extra (s : State) : (s.startStep).extra = s.extra := rfl
@[simp] theorem State.startStep_mem (s : State) : (s.startStep).mem = s.mem := rfl
@[simp] theorem State.startStep_draws (s : State) : (s.startStep).draws = s.draws := rfl
@[simp] theorem State.startStep_env (s : State) : (s.startStep).env = s.env := rfl
@[simp] theorem State.startStep_interruptFirst (s : State) : (s.startStep).interruptFirst = false := rfl

/-! ## completeWait -/

@[simp] theorem State.completeWait_cfg (s : State) : (s.completeWait).cfg = s.cfg := rfl
@[simp] theorem State.completeWait_x (s : State) : (s.completeWait).x = s.x := rfl
@[simp] theorem State.completeWait_spEL0 (s : State) : (s.completeWait).spEL0 = s.spEL0 := rfl
@[simp] theorem State.completeWait_spEL1 (s : State) : (s.completeWait).spEL1 = s.spEL1 := rfl
@[simp] theorem State.completeWait_spEL2 (s : State) : (s.completeWait).spEL2 = s.spEL2 := rfl
@[simp] theorem State.completeWait_spEL3 (s : State) : (s.completeWait).spEL3 = s.spEL3 := rfl
@[simp] theorem State.completeWait_pc (s : State) : (s.completeWait).pc = s.pc + 4#64 := rfl
@[simp] theorem State.completeWait_p (s : State) : (s.completeWait).p = s.p := rfl
@[simp] theorem State.completeWait_monitor (s : State) : (s.completeWait).monitor = s.monitor := rfl
@[simp] theorem State.completeWait_event (s : State) : (s.completeWait).event = s.event := rfl
@[simp] theorem State.completeWait_irqPending (s : State) : (s.completeWait).irqPending = s.irqPending := rfl
@[simp] theorem State.completeWait_fiqPending (s : State) : (s.completeWait).fiqPending = s.fiqPending := rfl
@[simp] theorem State.completeWait_serrorPending (s : State) : (s.completeWait).serrorPending = s.serrorPending := rfl
@[simp] theorem State.completeWait_serrorIss (s : State) : (s.completeWait).serrorIss = s.serrorIss := rfl
@[simp] theorem State.completeWait_vserrorPending (s : State) : (s.completeWait).vserrorPending = s.vserrorPending := rfl
@[simp] theorem State.completeWait_vserrorIss (s : State) : (s.completeWait).vserrorIss = s.vserrorIss := rfl
@[simp] theorem State.completeWait_halted (s : State) : (s.completeWait).halted = s.halted := rfl
@[simp] theorem State.completeWait_edscr (s : State) : (s.completeWait).edscr = s.edscr := rfl
@[simp] theorem State.completeWait_haltingAllowed (s : State) : (s.completeWait).haltingAllowed = s.haltingAllowed := rfl
@[simp] theorem State.completeWait_el1 (s : State) : (s.completeWait).el1 = s.el1 := rfl
@[simp] theorem State.completeWait_el2 (s : State) : (s.completeWait).el2 = s.el2 := rfl
@[simp] theorem State.completeWait_el3 (s : State) : (s.completeWait).el3 = s.el3 := rfl
@[simp] theorem State.completeWait_hcr (s : State) : (s.completeWait).hcr = s.hcr := rfl
@[simp] theorem State.completeWait_scr (s : State) : (s.completeWait).scr = s.scr := rfl
@[simp] theorem State.completeWait_dlr (s : State) : (s.completeWait).dlr = s.dlr := rfl
@[simp] theorem State.completeWait_dspsr (s : State) : (s.completeWait).dspsr = s.dspsr := rfl
@[simp] theorem State.completeWait_disr (s : State) : (s.completeWait).disr = s.disr := rfl
@[simp] theorem State.completeWait_vdisr (s : State) : (s.completeWait).vdisr = s.vdisr := rfl
@[simp] theorem State.completeWait_par (s : State) : (s.completeWait).par = s.par := rfl
@[simp] theorem State.completeWait_tpidr (s : State) : (s.completeWait).tpidr = s.tpidr := rfl
@[simp] theorem State.completeWait_extra (s : State) : (s.completeWait).extra = s.extra := rfl
@[simp] theorem State.completeWait_mem (s : State) : (s.completeWait).mem = s.mem := rfl
@[simp] theorem State.completeWait_draws (s : State) : (s.completeWait).draws = s.draws := rfl
@[simp] theorem State.completeWait_env (s : State) : (s.completeWait).env = s.env := rfl
@[simp] theorem State.completeWait_interruptFirst (s : State) : (s.completeWait).interruptFirst = true := rfl

/-! ## Registers -/

@[simp] theorem State.readX_zero (s : State) : s.readX 31#5 = 0#64 := rfl

@[simp] theorem State.readXW_zero (s : State) (w : Nat) : s.readXW w 31#5 = 0#w := by
  simp [State.readXW]

/-- What a register reads as after a write of a register. -/
theorem State.readX_writeX {w : Nat} (s : State) (r q : Reg) (v : BitVec w) :
    (s.writeX r v).readX q = if q = 31#5 then 0#64 else if q = r then v.setWidth 64 else s.readX q := by
  by_cases hq : q = 31#5
  · subst hq; simp
  · have hq' : q.toNat < 31 := by bv_omega
    unfold State.writeX State.readX
    simp only [hq', dite_true, hq, if_false]
    by_cases hr : r.toNat < 31
    · simp only [hr, dite_true]
      by_cases e : q = r
      · subst e; simp
      · have : r.toNat ≠ q.toNat := fun h => e (BitVec.eq_of_toNat_eq h.symm)
        simp [e, this]
    · have e : q ≠ r := fun h => hr (h ▸ hq')
      simp [hr, e]

/-- A register file that is the same reads the same. -/
theorem State.readX_congr {s t : State} (h : t.x = s.x) (r : Reg) : t.readX r = s.readX r := by
  simp [State.readX, h]

@[simp] theorem State.readX_setSpOf (s : State) (l : EL) (v : DWord) (q : Reg) : (s.setSpOf l v).readX q = s.readX q :=
  State.readX_congr (by simp) q
@[simp] theorem State.readX_writeSp {w : Nat} (s : State) (v : BitVec w) (q : Reg) : (s.writeSp v).readX q = s.readX q :=
  State.readX_congr (by simp) q
@[simp] theorem State.readX_writeFlags (s : State) (f : Flags) (q : Reg) : (s.writeFlags f).readX q = s.readX q :=
  State.readX_congr (by simp) q
@[simp] theorem State.readX_branch (s : State) (a : Addr) (q : Reg) : (s.branch a).readX q = s.readX q :=
  State.readX_congr (by simp) q
@[simp] theorem State.readX_advance (s : State) (q : Reg) : (s.advance).readX q = s.readX q :=
  State.readX_congr (by simp) q
@[simp] theorem State.readX_setElRegs (s : State) (l : EL) (r : ELRegs) (q : Reg) : (s.setElRegs l r).readX q = s.readX q :=
  State.readX_congr (by simp) q
@[simp] theorem State.readX_drawn (s : State) (n : Nat) (q : Reg) : (s.drawn n).readX q = s.readX q :=
  State.readX_congr (by simp) q
@[simp] theorem State.readX_storeBytes {w : Nat} (s : State) (a : Addr) (n : Nat) (v : BitVec w) (q : Reg) : (s.storeBytes a n v).readX q = s.readX q :=
  State.readX_congr (by simp) q
@[simp] theorem State.readX_setMonitor (s : State) (a : Addr) (n : Nat) (q : Reg) : (s.setMonitor a n).readX q = s.readX q :=
  State.readX_congr (by simp) q
@[simp] theorem State.readX_clearMonitor (s : State) (q : Reg) : (s.clearMonitor).readX q = s.readX q :=
  State.readX_congr (by simp) q

/-! ## Stack pointers -/

@[simp] theorem State.spOf_setSpOf (s : State) (l k : EL) (v : DWord) :
    (s.setSpOf l v).spOf k = if k = l then v else s.spOf k := by
  cases l <;> cases k <;> rfl

/-- Stack pointers that are the same read the same. -/
theorem State.spOf_congr {s t : State} (h0 : t.spEL0 = s.spEL0) (h1 : t.spEL1 = s.spEL1) (h2 : t.spEL2 = s.spEL2)
    (h3 : t.spEL3 = s.spEL3) (k : EL) : t.spOf k = s.spOf k := by
  cases k <;> simp [State.spOf, *]

theorem State.spLevel_congr {s t : State} (h : t.p = s.p) : t.spLevel = s.spLevel := by
  simp [State.spLevel, h]

@[simp] theorem PState.withFlags_sp (p : PState) (f : Flags) : (p.withFlags f).sp = p.sp := rfl
@[simp] theorem PState.withFlags_el (p : PState) (f : Flags) : (p.withFlags f).el = p.el := rfl
@[simp] theorem State.spLevel_writeFlags (s : State) (f : Flags) : (s.writeFlags f).spLevel = s.spLevel := rfl

@[simp] theorem State.spOf_writeX {w : Nat} (s : State) (r : Reg) (v : BitVec w) (k : EL) : (s.writeX r v).spOf k = s.spOf k :=
  State.spOf_congr (by simp) (by simp) (by simp) (by simp) k
@[simp] theorem State.spOf_writeFlags (s : State) (f : Flags) (k : EL) : (s.writeFlags f).spOf k = s.spOf k :=
  State.spOf_congr (by simp) (by simp) (by simp) (by simp) k
@[simp] theorem State.spOf_branch (s : State) (a : Addr) (k : EL) : (s.branch a).spOf k = s.spOf k :=
  State.spOf_congr (by simp) (by simp) (by simp) (by simp) k
@[simp] theorem State.spOf_advance (s : State) (k : EL) : (s.advance).spOf k = s.spOf k :=
  State.spOf_congr (by simp) (by simp) (by simp) (by simp) k
@[simp] theorem State.spOf_setElRegs (s : State) (l : EL) (r : ELRegs) (k : EL) : (s.setElRegs l r).spOf k = s.spOf k :=
  State.spOf_congr (by simp) (by simp) (by simp) (by simp) k
@[simp] theorem State.spOf_drawn (s : State) (n : Nat) (k : EL) : (s.drawn n).spOf k = s.spOf k :=
  State.spOf_congr (by simp) (by simp) (by simp) (by simp) k
@[simp] theorem State.spOf_storeBytes {w : Nat} (s : State) (a : Addr) (n : Nat) (v : BitVec w) (k : EL) : (s.storeBytes a n v).spOf k = s.spOf k :=
  State.spOf_congr (by simp) (by simp) (by simp) (by simp) k
@[simp] theorem State.spOf_setMonitor (s : State) (a : Addr) (n : Nat) (k : EL) : (s.setMonitor a n).spOf k = s.spOf k :=
  State.spOf_congr (by simp) (by simp) (by simp) (by simp) k
@[simp] theorem State.spOf_clearMonitor (s : State) (k : EL) : (s.clearMonitor).spOf k = s.spOf k :=
  State.spOf_congr (by simp) (by simp) (by simp) (by simp) k

/-! ## Banked registers -/

theorem State.elRegs_setElRegs (s : State) (l k : EL) (r : ELRegs) (hl : l ≠ .el0) (hk : k ≠ .el0) :
    (s.setElRegs l r).elRegs k = if k = l then r else s.elRegs k := by
  cases l <;> cases k <;> simp_all [State.setElRegs, State.elRegs]

/-- Banked registers that are the same read the same. -/
theorem State.elRegs_congr {s t : State} (h1 : t.el1 = s.el1) (h2 : t.el2 = s.el2) (h3 : t.el3 = s.el3) (k : EL) :
    t.elRegs k = s.elRegs k := by
  cases k <;> simp [State.elRegs, *]

@[simp] theorem State.elRegs_writeX {w : Nat} (s : State) (r : Reg) (v : BitVec w) (k : EL) : (s.writeX r v).elRegs k = s.elRegs k :=
  State.elRegs_congr (by simp) (by simp) (by simp) k
@[simp] theorem State.elRegs_setSpOf (s : State) (l : EL) (v : DWord) (k : EL) : (s.setSpOf l v).elRegs k = s.elRegs k :=
  State.elRegs_congr (by simp) (by simp) (by simp) k
@[simp] theorem State.elRegs_writeSp {w : Nat} (s : State) (v : BitVec w) (k : EL) : (s.writeSp v).elRegs k = s.elRegs k :=
  State.elRegs_congr (by simp) (by simp) (by simp) k
@[simp] theorem State.elRegs_writeXsp {w : Nat} (s : State) (r : Reg) (v : BitVec w) (k : EL) : (s.writeXsp r v).elRegs k = s.elRegs k :=
  State.elRegs_congr (by simp) (by simp) (by simp) k
@[simp] theorem State.elRegs_writeFlags (s : State) (f : Flags) (k : EL) : (s.writeFlags f).elRegs k = s.elRegs k :=
  State.elRegs_congr (by simp) (by simp) (by simp) k
@[simp] theorem State.elRegs_branch (s : State) (a : Addr) (k : EL) : (s.branch a).elRegs k = s.elRegs k :=
  State.elRegs_congr (by simp) (by simp) (by simp) k
@[simp] theorem State.elRegs_advance (s : State) (k : EL) : (s.advance).elRegs k = s.elRegs k :=
  State.elRegs_congr (by simp) (by simp) (by simp) k
@[simp] theorem State.elRegs_drawn (s : State) (n : Nat) (k : EL) : (s.drawn n).elRegs k = s.elRegs k :=
  State.elRegs_congr (by simp) (by simp) (by simp) k
@[simp] theorem State.elRegs_storeBytes {w : Nat} (s : State) (a : Addr) (n : Nat) (v : BitVec w) (k : EL) : (s.storeBytes a n v).elRegs k = s.elRegs k :=
  State.elRegs_congr (by simp) (by simp) (by simp) k
@[simp] theorem State.elRegs_setMonitor (s : State) (a : Addr) (n : Nat) (k : EL) : (s.setMonitor a n).elRegs k = s.elRegs k :=
  State.elRegs_congr (by simp) (by simp) (by simp) k
@[simp] theorem State.elRegs_clearMonitor (s : State) (k : EL) : (s.clearMonitor).elRegs k = s.elRegs k :=
  State.elRegs_congr (by simp) (by simp) (by simp) k

end Sys2Proof.Machine
end

