-- ==== Sys2Proof/Laws/Ops.lean ====
section
/-! SUPPORT. What each shared operation can do, said once: the checks of an access, the base address, how an instruction ends,
and the next states of the common shapes of instruction in the words of the statements. -/

namespace Sys2Proof.Machine

/-! ## How an instruction ends -/

@[simp] theorem finish_ok (s t : State) : finish s (.ok t) = .next t.advance := rfl

@[simp] theorem finish_error (s : State) (e : Exc) : finish s (.error e) = .next (s.raised e) := rfl

/-- Outside Debug state every exception is taken (60 R800). -/
theorem State.raised_eq_takeSync {s : State} {e : Exc} (h : s.halted = false ∨ e ≠ .undefined) :
    s.raised e = s.takeSync e := by
  unfold State.raised
  rw [if_neg]
  rcases h with h | h <;> simp [h]

/-- In Debug state an Undefined changes nothing (49 R706; log 23). -/
theorem State.raised_undefined_halted {s : State} (h : s.halted = true) : s.raised .undefined = s := by
  simp [State.raised, h]

/-- An instruction that raises traps, in the word of the statements. -/
theorem Traps.of_raise {i : Instr} {s : State} {e : Exc} (h : exec i s = raise s e) : Traps i s e := h

/-- An instruction that ends with `finish` always gives a next state: its own, advanced, or an exception entry. -/
theorem finish_next {s u : State} {r : Except Exc State} (h : finish s r = .next u) :
    (∃ t, r = .ok t ∧ u = t.advance) ∨ ∃ e, r = .error e ∧ u = s.raised e := by
  cases r with
  | ok t => exact .inl ⟨t, rfl, by simpa using h.symm⟩
  | error e => exact .inr ⟨e, rfl, by simpa using h.symm⟩

@[simp] theorem orUndefined_some {α : Type} (a : α) : orUndefined (some a) = .ok a := rfl

@[simp] theorem orUndefined_none {α : Type} : orUndefined (none : Option α) = .error .undefined := rfl

@[simp] theorem require_true (e : Exc) : require true e = .ok () := rfl

@[simp] theorem require_false (e : Exc) : require false e = .error e := rfl

@[simp] theorem Except.ok_bind {α β : Type} (a : α) (f : α → Except Exc β) : ((.ok a : Except Exc α) >>= f) = f a := rfl

@[simp] theorem Except.error_bind {α β : Type} (e : Exc) (f : α → Except Exc β) :
    ((.error e : Except Exc α) >>= f) = .error e := rfl

@[simp] theorem Except.pure_ok {α : Type} (a : α) : (pure a : Except Exc α) = .ok a := rfl

@[simp] theorem Except.map_ok_exc {α β : Type} (f : α → β) (a : α) : (Except.map f (.ok a) : Except Exc β) = .ok (f a) := rfl

@[simp] theorem Except.map_error_exc {α β : Type} (f : α → β) (e : Exc) :
    (Except.map f (.error e : Except Exc α)) = .error e := rfl

/-! ## The checks of an access -/

/-- No byte from `a` has the property. -/
theorem firstByte_eq_none {bad : Addr → Bool} {a : Addr} {n : Nat} :
    firstByte bad a n = none ↔ ∀ k, k < n → bad (a + BitVec.ofNat 64 k) = false := by
  induction n generalizing a with
  | zero => simp [firstByte]
  | succ n ih =>
    have step : ∀ k, a + 1#64 + BitVec.ofNat 64 k = a + BitVec.ofNat 64 (k + 1) := fun k => by
      apply BitVec.eq_of_toNat_eq; simp; omega
    unfold firstByte
    split
    · rename_i h
      simp only [reduceCtorEq, false_iff, not_forall]
      exact ⟨0, by omega, by simp [h]⟩
    · rename_i h
      rw [ih]
      constructor
      · intro hk k hlt
        cases k with
        | zero => simpa using h
        | succ k => rw [← step]; exact hk k (by omega)
      · intro hk k hlt
        rw [step]; exact hk (k + 1) (by omega)

/-- The first byte from `a` with the property. -/
theorem firstByte_eq_some {bad : Addr → Bool} {a : Addr} {n k : Nat} (hk : k < n)
    (hbefore : ∀ j, j < k → bad (a + BitVec.ofNat 64 j) = false) (hbad : bad (a + BitVec.ofNat 64 k) = true) :
    firstByte bad a n = some (a + BitVec.ofNat 64 k) := by
  induction n generalizing a k with
  | zero => omega
  | succ n ih =>
    have step : ∀ k, a + 1#64 + BitVec.ofNat 64 k = a + BitVec.ofNat 64 (k + 1) := fun k => by
      apply BitVec.eq_of_toNat_eq; simp; omega
    unfold firstByte
    cases k with
    | zero => simp_all
    | succ k =>
      have h0 : bad a = false := by simpa using hbefore 0 (by omega)
      rw [if_neg (by simp [h0]), ← step k]
      exact ih (by omega) (fun j hj => by rw [step j]; exact hbefore (j + 1) (by omega)) (by rw [step k]; exact hbad)

/-- Host mode, as the machine computes it and in the words of 60 R804. -/
theorem State.inHost_eq_true {s : State} : s.inHost = true ↔ s.HostMode := by
  unfold State.inHost State.inHostAt State.HostMode State.el2Acts State.isSecure
  cases s.p.el <;> simp <;> cases s.cfg.haveEL3 <;> cases s.scr.getLsbD 0 <;> simp [and_assoc]

theorem State.sctlr_eq_control (s : State) : s.sctlr = s.control := by
  unfold State.sctlr State.control
  by_cases hh : s.HostMode
  · rw [if_pos (State.inHost_eq_true.mpr hh), if_pos hh]; cases s.p.el <;> rfl
  · rw [if_neg (fun e => hh (State.inHost_eq_true.mp e)), if_neg hh]; cases s.p.el <;> rfl

/-- The byte order of data, as the machine computes it and in the words of 20 R95. -/
theorem State.bigEndian_eq_true {s : State} : s.bigEndian = true ↔ s.BigEndianData := by
  unfold State.bigEndian State.BigEndianData
  rw [State.sctlr_eq_control, Bool.and_eq_true]

theorem AccType.alwaysAligned_eq_false {acc : AccType} :
    acc.alwaysAligned = false ↔ acc = .normal ∨ acc = .stream ∨ acc = .unpriv := by
  cases acc <;> simp [AccType.alwaysAligned]

theorem State.misaligned_eq_false {s : State} {a : Addr} {n : Nat} {acc : AccType} :
    s.misaligned a n acc = false ↔ s.Aligned a n acc := by
  simp only [State.misaligned, State.Aligned, Bool.and_eq_false_iff, Bool.or_eq_false_iff, decide_eq_false_iff_not, ne_eq,
    Decidable.not_not, State.sctlr_eq_control, AccType.alwaysAligned_eq_false]

theorem State.accessLevel_eq_rightsLevel (s : State) (acc : AccType) : s.accessLevel acc = s.rightsLevel acc := by
  unfold State.accessLevel State.rightsLevel
  simp only [State.inHost_eq_true, and_assoc]
  congr 1
  simp only [eq_iff_iff]
  tauto

/-- The permission of a data access, as the machine computes it and in the words of 20 R113 and R114. -/
theorem State.permits_eq_true {s : State} {acc : AccType} {kind : AccessKind} {a : Addr} :
    s.permits acc kind a = true ↔ s.Permitted acc kind a := by
  simp only [State.permits, State.panDenies, State.Permitted, Bool.and_eq_true, Bool.or_eq_true, decide_eq_true_eq,
    Bool.not_eq_true', State.accessLevel_eq_rightsLevel, ← Bool.not_eq_true, State.inHost_eq_true, and_assoc]

/-- An access passes its checks exactly if it is allowed (20 R92, R93). -/
theorem State.checkAccess_eq_ok {s : State} {a : Addr} {n : Nat} {acc : AccType} {kind : AccessKind} {rmw : Bool} :
    s.checkAccess a n acc kind rmw = .ok () ↔ s.Allowed a n acc kind := by
  simp only [State.checkAccess, State.Allowed]
  constructor
  · intro h
    split at h
    · cases h
    · rename_i hm
      split at h
      · cases h
      · rename_i h1
        split at h
        · cases h
        · rename_i h2
          refine ⟨State.misaligned_eq_false.mp (by simpa using hm), fun k hk => ⟨?_, ?_⟩⟩
          · simpa using firstByte_eq_none.mp h1 k hk
          · exact State.permits_eq_true.mp (by simpa using firstByte_eq_none.mp h2 k hk)
  · rintro ⟨hm, hk⟩
    rw [State.misaligned_eq_false.mpr hm, firstByte_eq_none.mpr fun k h => by simp [(hk k h).1],
      firstByte_eq_none.mpr fun k h => by simp [State.permits_eq_true.mpr (hk k h).2]]
    rfl

/-- An access that is not allowed aborts. -/
theorem State.checkAccess_eq_error {s : State} {a : Addr} {n : Nat} {acc : AccType} {kind : AccessKind} {rmw : Bool}
    (h : ¬s.Allowed a n acc kind) :
    ∃ b fault wnr, s.checkAccess a n acc kind rmw = .error (.dataAbort b fault wnr false) := by
  have hno : ¬s.checkAccess a n acc kind rmw = .ok () := fun e => h (State.checkAccess_eq_ok.mp e)
  simp only [State.checkAccess] at hno ⊢
  split
  · exact ⟨_, _, _, rfl⟩
  · split
    · exact ⟨_, _, _, rfl⟩
    · split
      · exact ⟨_, _, _, rfl⟩
      · simp_all

/-- Two adjacent elements pass their checks exactly if the access to both is allowed (20 R100; 60 R803(8)). -/
theorem State.checkPair_eq_ok {s : State} {a : Addr} {n : Nat} {acc : AccType} {kind : AccessKind} {rmw : Bool}
    (hn : n = 4 ∨ n = 8) : s.checkPair a n acc kind rmw = .ok () ↔ s.Allowed a (2 * n) acc kind := by
  have shift : ∀ k, a + BitVec.ofNat 64 n + BitVec.ofNat 64 k = a + BitVec.ofNat 64 (n + k) := fun k => by
    apply BitVec.eq_of_toNat_eq; simp; omega
  have halves : s.Aligned a (2 * n) acc → s.Aligned a n acc ∧ s.Aligned (a + BitVec.ofNat 64 n) n acc := by
    rintro (h | h)
    · have := a.isLt
      constructor <;> left
      · rcases hn with rfl | rfl <;> omega
      · rcases hn with rfl | rfl <;> simp <;> omega
    · exact ⟨.inr h, .inr h⟩
  unfold State.checkPair
  constructor
  · intro h
    split at h
    · cases h
    · rename_i hm
      have hm := State.misaligned_eq_false.mp (by simpa using hm)
      split at h
      · rename_i h1
        have h1 := State.checkAccess_eq_ok.mp h1
        have h2 := State.checkAccess_eq_ok.mp h
        refine ⟨hm, fun k hk => ?_⟩
        by_cases hlt : k < n
        · exact h1.2 k hlt
        · have := h2.2 (k - n) (by omega)
          rwa [shift, show n + (k - n) = k by omega] at this
      · cases h
  · rintro ⟨hm, hk⟩
    obtain ⟨m1, m2⟩ := halves hm
    rw [State.misaligned_eq_false.mpr hm, State.checkAccess_eq_ok.mpr ⟨m1, fun k h => hk k (by omega)⟩]
    simp only [Bool.false_eq_true, if_false]
    exact State.checkAccess_eq_ok.mpr ⟨m2, fun k h => by rw [shift]; exact hk (n + k) (by omega)⟩

theorem State.memRead_ok {s : State} {a : Addr} {n : Nat} {acc : AccType} (h : s.Allowed a n acc .read) :
    s.memRead a n acc = .ok (s.loadBytes a n) := by
  simp [State.memRead, State.checkAccess_eq_ok.mpr h]

theorem State.memWrite_ok {w : Nat} {s : State} {a : Addr} {n : Nat} {v : BitVec w} {acc : AccType}
    (h : s.Allowed a n acc .write) : s.memWrite a n v acc = .ok (s.storeBytes a n v) := by
  simp [State.memWrite, State.checkAccess_eq_ok.mpr h]

/-- A base that can be used is the register, or the stack pointer for number 31. -/
theorem State.baseAddress_ok {s : State} {rn : Reg} (h : s.BaseReady rn) : s.baseAddress rn = .ok (s.readXsp rn) := by
  unfold State.baseAddress State.readXsp
  by_cases e : rn = 31#5
  · have h := h e
    have : s.checkSPAlignment = .ok () := by
      unfold State.checkSPAlignment
      rcases h with h | h
      · simp [h]
      · split at h <;> simp_all
    simp [e, this]
  · simp [e]

/-- A base that cannot be used is a misaligned stack pointer (60 R811). -/
theorem State.baseAddress_error {s : State} {rn : Reg} (h : ¬s.BaseReady rn) :
    s.baseAddress rn = .error .spAlignment := by
  obtain ⟨e, h1, h2⟩ : rn = 31#5 ∧ _ := by simpa [State.BaseReady, not_or] using h
  unfold State.baseAddress State.checkSPAlignment
  split at h2 <;> simp_all

/-! ## The reads that updates keep -/

theorem State.readXsp_congr {s t : State} (hx : ∀ r, t.readX r = s.readX r) (hsp : t.sp = s.sp) (r : Reg) :
    t.readXsp r = s.readXsp r := by
  simp [State.readXsp, hx, hsp]

@[simp] theorem State.spLevel_writeX {w : Nat} (s : State) (r : Reg) (v : BitVec w) : (s.writeX r v).spLevel = s.spLevel :=
  State.spLevel_congr (by simp)

@[simp] theorem State.spLevel_advance (s : State) : s.advance.spLevel = s.spLevel := rfl

@[simp] theorem State.spLevel_storeBytes {w : Nat} (s : State) (a : Addr) (n : Nat) (v : BitVec w) :
    (s.storeBytes a n v).spLevel = s.spLevel := rfl

@[simp] theorem State.bigEndian_storeBytes {w : Nat} (s : State) (a : Addr) (n : Nat) (v : BitVec w) :
    (s.storeBytes a n v).bigEndian = s.bigEndian := rfl

/-! ## Next states of the common shapes -/

@[simp] theorem Writes.toReg_reg {n : Nat} (rd : Reg) (v : BitVec n) (r : Reg) :
    (Writes.toReg rd v).reg r = if r = rd then some (v.setWidth 64) else none := rfl

theorem SameSystem.refl (s : State) : SameSystem s s := by constructor <;> rfl

theorem SameSystem.trans {s t u : State} (h : SameSystem s t) (k : SameSystem t u) : SameSystem s u := by
  cases h; cases k; constructor <;> simp_all

theorem SameSystem.advance (s : State) : SameSystem s s.advance := by constructor <;> rfl

theorem SameSystem.writeX {w : Nat} (s : State) (r : Reg) (v : BitVec w) : SameSystem s (s.writeX r v) := by
  constructor <;> simp

theorem SameSystem.writeXsp {w : Nat} (s : State) (r : Reg) (v : BitVec w) : SameSystem s (s.writeXsp r v) := by
  constructor <;> simp

theorem SameSystem.writeFlags (s : State) (f : Flags) : SameSystem s (s.writeFlags f) := by constructor <;> rfl

theorem SameSystem.storeBytes {w : Nat} (s : State) (a : Addr) (n : Nat) (v : BitVec w) :
    SameSystem s (s.storeBytes a n v) := by
  constructor <;> rfl

/-- Nothing but the pc. -/
theorem State.becomes_nothing (s : State) : s.Becomes .nothing s.advance where
  reg r _ := by simp [Writes.nothing]
  zero := rfl
  sp level := by simp [Writes.nothing]
  pstate := rfl
  pc := rfl
  monitor := rfl
  mem a := by simp [Writes.nothing]
  system := SameSystem.advance s

/-- One register. -/
theorem State.becomes_writeX {w : Nat} (s : State) (rd : Reg) (v : BitVec w) :
    s.Becomes (.toReg rd v) (s.writeX rd v).advance where
  reg r h := by
    simp only [State.readX_advance, State.readX_writeX, Writes.toReg, h, if_false]; split <;> rfl
  zero := by simp
  sp level := by simp [Writes.toReg]
  pstate := by simp [Writes.toReg]
  pc := by simp [Writes.toReg]
  monitor := by simp [Writes.toReg]
  mem a := by simp [Writes.toReg]
  system := (SameSystem.writeX s rd v).trans (SameSystem.advance _)

/-- One register, or the stack pointer. -/
theorem State.becomes_writeXsp {w : Nat} (s : State) (rd : Reg) (v : BitVec w) :
    s.Becomes (.toXsp rd v) (s.writeXsp rd v).advance := by
  unfold State.writeXsp Writes.toXsp
  split
  · exact
      { reg := fun r _ => by simp [State.writeSp]
        zero := by simp
        sp := fun level => by simp only [State.spOf_advance, State.writeSp, State.spOf_setSpOf]; split <;> simp_all
        pstate := by simp
        pc := by simp
        monitor := by simp
        mem := fun a => by simp
        system := by constructor <;> simp }
  · exact State.becomes_writeX s rd v

/-- One register and the flags. -/
theorem State.becomes_writeFlags_writeX {w : Nat} (s : State) (rd : Reg) (v : BitVec w) (c o : Bool) :
    s.Becomes ((Writes.toReg rd v).flags s v c o)
      ((s.writeFlags ⟨v.msb, decide (v = 0#w), c, o⟩).writeX rd v).advance where
  reg r h := by
    simp only [State.readX_advance, State.readX_writeX, State.readX_writeFlags, Writes.flags, Writes.toReg, h, if_false]
    split <;> rfl
  zero := by simp
  sp level := by simp [Writes.flags, Writes.toReg]
  pstate := by simp [Writes.flags, PState.withFlags]
  pc := by simp [Writes.flags, Writes.toReg]
  monitor := by simp [Writes.flags, Writes.toReg]
  mem a := by simp [Writes.flags, Writes.toReg]
  system := ((SameSystem.writeFlags s _).trans (SameSystem.writeX _ rd v)).trans (SameSystem.advance _)

/-- One register and a branch. -/
theorem State.becomes_branch (s : State) (target : Addr) : s.Becomes (.jump target) (s.branch target) where
  reg r _ := by simp [Writes.jump]
  zero := rfl
  sp level := by simp [Writes.jump]
  pstate := rfl
  pc := rfl
  monitor := rfl
  mem a := by simp [Writes.jump]
  system := by constructor <;> rfl

/-- The bytes of a store. -/
theorem State.becomes_storeBytes {w : Nat} (s : State) (hm : s.mem.wf) (a : Addr) (n : Nat) (hn : n ≤ 2 ^ 64)
    (v : BitVec w) : s.Becomes (Writes.nothing.store s a n v) (s.storeBytes a n v).advance where
  reg r _ := by simp [Writes.store, Writes.nothing]
  zero := by simp
  sp level := by simp [Writes.store, Writes.nothing]
  pstate := by simp [Writes.store, Writes.nothing]
  pc := by simp [Writes.store, Writes.nothing]
  monitor := by simp [Writes.store, Writes.nothing]
  mem b := by
    simp only [State.advance_mem, State.storeBytes_mem, Memory.byte_store hm _ a v n hn b, Writes.store, Writes.nothing]
    split <;> simp
  system := (SameSystem.storeBytes s a n v).trans (SameSystem.advance _)

/-- What a register write adds to what has happened, the pc still to move. -/
theorem State.Becomes.writeX {s t : State} {w : Writes} (h : s.Becomes w t.advance) {n : Nat} (rd : Reg) (v : BitVec n) :
    s.Becomes { w with reg := fun r => if r = rd then some (v.setWidth 64) else w.reg r } (t.writeX rd v).advance where
  reg r hr := by
    have := h.reg r hr
    simp only [State.readX_advance] at this
    simp only [State.readX_advance, State.readX_writeX, hr, if_false]
    split <;> simp_all
  zero := by simp
  sp level := by simpa using h.sp level
  pstate := by simpa using h.pstate
  pc := by simpa using h.pc
  monitor := by simpa using h.monitor
  mem a := by simpa using h.mem a
  system := by cases h.system; constructor <;> simp_all

/-- What a write of the base adds. -/
theorem State.Becomes.base {s t : State} {w : Writes} (h : s.Becomes w t.advance) (hp : w.pstate = none) (rn : Reg)
    (a : Addr) : s.Becomes (w.base rn a) (t.writeXsp rn a).advance := by
  unfold State.writeXsp Writes.base
  split
  · have hl : t.spLevel = s.spLevel := State.spLevel_congr (by simpa [hp] using h.pstate)
    exact
      { reg := fun r hr => by simpa [State.writeSp] using h.reg r hr
        zero := by simp
        sp := fun level => by
          have := h.sp level
          simp only [State.spOf_advance] at this
          simp only [State.spOf_advance, State.writeSp, State.spOf_setSpOf, hl]
          split <;> simp_all
        pstate := by simpa using h.pstate
        pc := by simpa using h.pc
        monitor := by simpa using h.monitor
        mem := fun a => by simpa using h.mem a
        system := by cases h.system; constructor <;> simp_all }
  · have := h.writeX rn a
    simpa using this

/-- What a store adds. -/
theorem State.Becomes.store {s t : State} {w : Writes} (h : s.Becomes w t.advance) (hm : t.mem.wf)
    (hb : t.bigEndian = s.bigEndian) {m : Nat} (a : Addr) (n : Nat) (hn : n ≤ 2 ^ 64) (v : BitVec m) :
    s.Becomes (w.store s a n v) (t.storeBytes a n v).advance where
  reg r hr := by simpa [Writes.store] using h.reg r hr
  zero := by simp
  sp level := by simpa [Writes.store] using h.sp level
  pstate := by simpa [Writes.store] using h.pstate
  pc := by simpa [Writes.store] using h.pc
  monitor := by simpa [Writes.store] using h.monitor
  mem b := by
    have := h.mem b
    simp only [State.advance_mem] at this
    simp only [State.advance_mem, State.storeBytes_mem, Memory.byte_store hm _ a v n hn b, Writes.store, hb]
    split <;> simp_all
  system := by cases h.system; constructor <;> simp_all

end Sys2Proof.Machine
end

