-- ==== Sys2Proof/Laws/PerInstr.lean ====
section
/-! SUPPORT. The family `Encodes`: an alias and its base instruction have one encoding, the base instruction of an
    instruction
is its own base instruction, and it is well formed if the instruction is (30 R145, R196). One lemma for each
    constructor. -/

namespace Sys2Proof.Laws.Encodes

/-- The encoding of an instruction is that of its base instruction. -/
def Statement (i : Instr) : Prop :=
  i.core.core = i.core ∧ encode i.core = encode i ∧ (i.wellFormed = true → i.core.wellFormed = true)

/-- A base instruction is its own base instruction. -/
theorem of_core (i : Instr) (h : i.core = i) : Statement i := by
  rw [Statement, h]
  exact ⟨h, rfl, id⟩

/-- A field and ones below it, put into a word. -/
theorem put_append (f : BitVec 1) : put 10 (f ++ 31#5) = put 15 f ||| 0x7C00#32 := by
  revert f; decide

/-- The `CRm` of an AT operation, put into a word. -/
theorem put_crm (f : BitVec 1) : put 8 (4#3 ++ f) = 0x800#32 ||| put 8 f := by
  revert f; decide

/-- The first check of two. -/
theorem and1 (a b : Bool) (h : (a && b) = true) : a = true := (Bool.and_eq_true_iff.mp h).1


theorem move_vvvmvv (x k3 v0 v1 v2 v3 v4 v5 : Word) :
    x ||| v0 ||| v1 ||| v2 ||| (v3 ||| k3) ||| v4 ||| v5 = (x ||| k3) ||| v0 ||| v1 ||| v2 ||| v3 ||| v4 ||| v5 := by
  ac_rfl

theorem move_vknvv (x k1 k2 v0 v2 v3 v4 : Word) :
    x ||| v0 ||| k1 ||| (k2 ||| v2) ||| v3 ||| v4 = (x ||| k1 ||| k2) ||| v0 ||| v2 ||| v3 ||| v4 := by
  ac_rfl

theorem move_vvvvkv (x k4 v0 v1 v2 v3 v5 : Word) :
    x ||| v0 ||| v1 ||| v2 ||| v3 ||| k4 ||| v5 = (x ||| k4) ||| v0 ||| v1 ||| v2 ||| v3 ||| v5 := by
  ac_rfl

theorem move_vvvvvk (x k5 v0 v1 v2 v3 v4 : Word) :
    x ||| v0 ||| v1 ||| v2 ||| v3 ||| v4 ||| k5 = (x ||| k5) ||| v0 ||| v1 ||| v2 ||| v3 ||| v4 := by
  ac_rfl

theorem move_vvvvk (x k4 v0 v1 v2 v3 : Word) :
    x ||| v0 ||| v1 ||| v2 ||| v3 ||| k4 = (x ||| k4) ||| v0 ||| v1 ||| v2 ||| v3 := by
  ac_rfl

theorem move_vkvkv (x k1 k3 v0 v2 v4 : Word) :
    x ||| v0 ||| k1 ||| v2 ||| k3 ||| v4 = (x ||| k1 ||| k3) ||| v0 ||| v2 ||| v4 := by
  ac_rfl

theorem move_vkvvv (x k1 v0 v2 v3 v4 : Word) :
    x ||| v0 ||| k1 ||| v2 ||| v3 ||| v4 = (x ||| k1) ||| v0 ||| v2 ||| v3 ||| v4 := by
  ac_rfl

theorem move_vvkvv (x k2 v0 v1 v3 v4 : Word) :
    x ||| v0 ||| v1 ||| k2 ||| v3 ||| v4 = (x ||| k2) ||| v0 ||| v1 ||| v3 ||| v4 := by
  ac_rfl

theorem move_vkkvv (x k1 k2 v0 v3 v4 : Word) :
    x ||| v0 ||| k1 ||| k2 ||| v3 ||| v4 = (x ||| k1 ||| k2) ||| v0 ||| v3 ||| v4 := by
  ac_rfl

theorem move_vkvkkv (x k1 k3 k4 v0 v2 v5 : Word) :
    x ||| v0 ||| k1 ||| v2 ||| k3 ||| k4 ||| v5 = (x ||| k1 ||| k3 ||| k4) ||| v0 ||| v2 ||| v5 := by
  ac_rfl

theorem move_vvkv (x k2 v0 v1 v3 : Word) :
    x ||| v0 ||| v1 ||| k2 ||| v3 = (x ||| k2) ||| v0 ||| v1 ||| v3 := by
  ac_rfl

theorem move_vkvv (x k1 v0 v2 v3 : Word) :
    x ||| v0 ||| k1 ||| v2 ||| v3 = (x ||| k1) ||| v0 ||| v2 ||| v3 := by
  ac_rfl

theorem move_kvvvk (x k0 k4 v1 v2 v3 : Word) :
    x ||| k0 ||| v1 ||| v2 ||| v3 ||| k4 = (x ||| k0 ||| k4) ||| v1 ||| v2 ||| v3 := by
  ac_rfl

theorem move_vkvvvk (x k1 k5 v0 v2 v3 v4 : Word) :
    x ||| v0 ||| k1 ||| v2 ||| v3 ||| v4 ||| k5 = (x ||| k1 ||| k5) ||| v0 ||| v2 ||| v3 ||| v4 := by
  ac_rfl

theorem move_vvkkvv (x k2 k3 v0 v1 v4 v5 : Word) :
    x ||| v0 ||| v1 ||| k2 ||| k3 ||| v4 ||| v5 = (x ||| k2 ||| k3) ||| v0 ||| v1 ||| v4 ||| v5 := by
  ac_rfl

theorem adc (sf : BitVec 1) (rm rn rd : Reg) : Statement (.adc sf rm rn rd) := of_core _ rfl
theorem adcs (sf : BitVec 1) (rm rn rd : Reg) : Statement (.adcs sf rm rn rd) := of_core _ rfl
theorem addExtendedRegister (sf : BitVec 1) (rm : Reg) (option imm3 : BitVec 3) (rn rd : Reg) :
    Statement (.addExtendedRegister sf rm option imm3 rn rd) := of_core _ rfl
theorem addImmediate (sf : BitVec 1) (shift : BitVec 2) (imm12 : BitVec 12) (rn rd : Reg) :
    Statement (.addImmediate sf shift imm12 rn rd) := of_core _ rfl
theorem addShiftedRegister (sf : BitVec 1) (shift : BitVec 2) (rm : Reg) (imm6 : BitVec 6) (rn rd : Reg) :
    Statement (.addShiftedRegister sf shift rm imm6 rn rd) := of_core _ rfl
theorem addsExtendedRegister (sf : BitVec 1) (rm : Reg) (option imm3 : BitVec 3) (rn rd : Reg) :
    Statement (.addsExtendedRegister sf rm option imm3 rn rd) := of_core _ rfl
theorem addsImmediate (sf : BitVec 1) (shift : BitVec 2) (imm12 : BitVec 12) (rn rd : Reg) :
    Statement (.addsImmediate sf shift imm12 rn rd) := of_core _ rfl
theorem addsShiftedRegister (sf : BitVec 1) (shift : BitVec 2) (rm : Reg) (imm6 : BitVec 6) (rn rd : Reg) :
    Statement (.addsShiftedRegister sf shift rm imm6 rn rd) := of_core _ rfl
theorem adr (immlo : BitVec 2) (immhi : BitVec 19) (rd : Reg) : Statement (.adr immlo immhi rd) := of_core _ rfl
theorem adrp (immlo : BitVec 2) (immhi : BitVec 19) (rd : Reg) : Statement (.adrp immlo immhi rd) := of_core _ rfl
theorem andImmediate (sf n : BitVec 1) (immr imms : BitVec 6) (rn rd : Reg) :
    Statement (.andImmediate sf n immr imms rn rd) := of_core _ rfl
theorem andShiftedRegister (sf : BitVec 1) (shift : BitVec 2) (rm : Reg) (imm6 : BitVec 6) (rn rd : Reg) :
    Statement (.andShiftedRegister sf shift rm imm6 rn rd) := of_core _ rfl
theorem andsImmediate (sf n : BitVec 1) (immr imms : BitVec 6) (rn rd : Reg) :
    Statement (.andsImmediate sf n immr imms rn rd) := of_core _ rfl
theorem andsShiftedRegister (sf : BitVec 1) (shift : BitVec 2) (rm : Reg) (imm6 : BitVec 6) (rn rd : Reg) :
    Statement (.andsShiftedRegister sf shift rm imm6 rn rd) := of_core _ rfl
theorem asrv (sf : BitVec 1) (rm rn rd : Reg) : Statement (.asrv sf rm rn rd) := of_core _ rfl
theorem bCond (imm19 : BitVec 19) (cond : BitVec 4) : Statement (.bCond imm19 cond) := of_core _ rfl
theorem b (imm26 : BitVec 26) : Statement (.b imm26) := of_core _ rfl
theorem bfm (sf n : BitVec 1) (immr imms : BitVec 6) (rn rd : Reg) :
    Statement (.bfm sf n immr imms rn rd) := of_core _ rfl
theorem bicShiftedRegister (sf : BitVec 1) (shift : BitVec 2) (rm : Reg) (imm6 : BitVec 6) (rn rd : Reg) :
    Statement (.bicShiftedRegister sf shift rm imm6 rn rd) := of_core _ rfl
theorem bicsShiftedRegister (sf : BitVec 1) (shift : BitVec 2) (rm : Reg) (imm6 : BitVec 6) (rn rd : Reg) :
    Statement (.bicsShiftedRegister sf shift rm imm6 rn rd) := of_core _ rfl
theorem bl (imm26 : BitVec 26) : Statement (.bl imm26) := of_core _ rfl
theorem blr (rn : Reg) : Statement (.blr rn) := of_core _ rfl
theorem br (rn : Reg) : Statement (.br rn) := of_core _ rfl
theorem brk (imm16 : BitVec 16) : Statement (.brk imm16) := of_core _ rfl
theorem casb (l : BitVec 1) (rs : Reg) (o0 : BitVec 1) (rn rt : Reg) :
    Statement (.casb l rs o0 rn rt) := of_core _ rfl
theorem cash (l : BitVec 1) (rs : Reg) (o0 : BitVec 1) (rn rt : Reg) :
    Statement (.cash l rs o0 rn rt) := of_core _ rfl
theorem casp (sz l : BitVec 1) (rs : Reg) (o0 : BitVec 1) (rn rt : Reg) :
    Statement (.casp sz l rs o0 rn rt) := of_core _ rfl
theorem cas (size0 l : BitVec 1) (rs : Reg) (o0 : BitVec 1) (rn rt : Reg) :
    Statement (.cas size0 l rs o0 rn rt) := of_core _ rfl
theorem cbnz (sf : BitVec 1) (imm19 : BitVec 19) (rt : Reg) : Statement (.cbnz sf imm19 rt) := of_core _ rfl
theorem cbz (sf : BitVec 1) (imm19 : BitVec 19) (rt : Reg) : Statement (.cbz sf imm19 rt) := of_core _ rfl
theorem ccmnImmediate (sf : BitVec 1) (imm5 : BitVec 5) (cond : BitVec 4) (rn : Reg) (nzcv : BitVec 4) :
    Statement (.ccmnImmediate sf imm5 cond rn nzcv) := of_core _ rfl
theorem ccmnRegister (sf : BitVec 1) (rm : Reg) (cond : BitVec 4) (rn : Reg) (nzcv : BitVec 4) :
    Statement (.ccmnRegister sf rm cond rn nzcv) := of_core _ rfl
theorem ccmpImmediate (sf : BitVec 1) (imm5 : BitVec 5) (cond : BitVec 4) (rn : Reg) (nzcv : BitVec 4) :
    Statement (.ccmpImmediate sf imm5 cond rn nzcv) := of_core _ rfl
theorem ccmpRegister (sf : BitVec 1) (rm : Reg) (cond : BitVec 4) (rn : Reg) (nzcv : BitVec 4) :
    Statement (.ccmpRegister sf rm cond rn nzcv) := of_core _ rfl
theorem clrex (crm : BitVec 4) : Statement (.clrex crm) := of_core _ rfl
theorem cls (sf : BitVec 1) (rn rd : Reg) : Statement (.cls sf rn rd) := of_core _ rfl
theorem clz (sf : BitVec 1) (rn rd : Reg) : Statement (.clz sf rn rd) := of_core _ rfl
theorem crc32 (sf : BitVec 1) (rm : Reg) (sz : BitVec 2) (rn rd : Reg) :
    Statement (.crc32 sf rm sz rn rd) := of_core _ rfl
theorem crc32c (sf : BitVec 1) (rm : Reg) (sz : BitVec 2) (rn rd : Reg) :
    Statement (.crc32c sf rm sz rn rd) := of_core _ rfl
theorem csel (sf : BitVec 1) (rm : Reg) (cond : BitVec 4) (rn rd : Reg) :
    Statement (.csel sf rm cond rn rd) := of_core _ rfl
theorem csinc (sf : BitVec 1) (rm : Reg) (cond : BitVec 4) (rn rd : Reg) :
    Statement (.csinc sf rm cond rn rd) := of_core _ rfl
theorem csinv (sf : BitVec 1) (rm : Reg) (cond : BitVec 4) (rn rd : Reg) :
    Statement (.csinv sf rm cond rn rd) := of_core _ rfl
theorem csneg (sf : BitVec 1) (rm : Reg) (cond : BitVec 4) (rn rd : Reg) :
    Statement (.csneg sf rm cond rn rd) := of_core _ rfl
theorem dcps1 (imm16 : BitVec 16) : Statement (.dcps1 imm16) := of_core _ rfl
theorem dcps2 (imm16 : BitVec 16) : Statement (.dcps2 imm16) := of_core _ rfl
theorem dcps3 (imm16 : BitVec 16) : Statement (.dcps3 imm16) := of_core _ rfl
theorem dmb (crm : BitVec 4) : Statement (.dmb crm) := of_core _ rfl
theorem drps : Statement .drps := of_core _ rfl
theorem dsb (crm : BitVec 4) : Statement (.dsb crm) := of_core _ rfl
theorem eonShiftedRegister (sf : BitVec 1) (shift : BitVec 2) (rm : Reg) (imm6 : BitVec 6) (rn rd : Reg) :
    Statement (.eonShiftedRegister sf shift rm imm6 rn rd) := of_core _ rfl
theorem eorImmediate (sf n : BitVec 1) (immr imms : BitVec 6) (rn rd : Reg) :
    Statement (.eorImmediate sf n immr imms rn rd) := of_core _ rfl
theorem eorShiftedRegister (sf : BitVec 1) (shift : BitVec 2) (rm : Reg) (imm6 : BitVec 6) (rn rd : Reg) :
    Statement (.eorShiftedRegister sf shift rm imm6 rn rd) := of_core _ rfl
theorem eret : Statement .eret := of_core _ rfl
theorem esb : Statement .esb := of_core _ rfl
theorem extr (sf n : BitVec 1) (rm : Reg) (imms : BitVec 6) (rn rd : Reg) :
    Statement (.extr sf n rm imms rn rd) := of_core _ rfl
theorem hint (crm : BitVec 4) (op2 : BitVec 3) : Statement (.hint crm op2) := of_core _ rfl
theorem hlt (imm16 : BitVec 16) : Statement (.hlt imm16) := of_core _ rfl
theorem hvc (imm16 : BitVec 16) : Statement (.hvc imm16) := of_core _ rfl
theorem isb (crm : BitVec 4) : Statement (.isb crm) := of_core _ rfl
theorem ldaddb (a r : BitVec 1) (rs rn rt : Reg) : Statement (.ldaddb a r rs rn rt) := of_core _ rfl
theorem ldaddh (a r : BitVec 1) (rs rn rt : Reg) : Statement (.ldaddh a r rs rn rt) := of_core _ rfl
theorem ldadd (size0 a r : BitVec 1) (rs rn rt : Reg) : Statement (.ldadd size0 a r rs rn rt) := of_core _ rfl
theorem ldar (size0 : BitVec 1) (rn rt : Reg) : Statement (.ldar size0 rn rt) := of_core _ rfl
theorem ldarb (rn rt : Reg) : Statement (.ldarb rn rt) := of_core _ rfl
theorem ldarh (rn rt : Reg) : Statement (.ldarh rn rt) := of_core _ rfl
theorem ldaxp (sz : BitVec 1) (rt2 rn rt : Reg) : Statement (.ldaxp sz rt2 rn rt) := of_core _ rfl
theorem ldaxr (size0 : BitVec 1) (rn rt : Reg) : Statement (.ldaxr size0 rn rt) := of_core _ rfl
theorem ldaxrb (rn rt : Reg) : Statement (.ldaxrb rn rt) := of_core _ rfl
theorem ldaxrh (rn rt : Reg) : Statement (.ldaxrh rn rt) := of_core _ rfl
theorem ldclrb (a r : BitVec 1) (rs rn rt : Reg) : Statement (.ldclrb a r rs rn rt) := of_core _ rfl
theorem ldclrh (a r : BitVec 1) (rs rn rt : Reg) : Statement (.ldclrh a r rs rn rt) := of_core _ rfl
theorem ldclr (size0 a r : BitVec 1) (rs rn rt : Reg) : Statement (.ldclr size0 a r rs rn rt) := of_core _ rfl
theorem ldeorb (a r : BitVec 1) (rs rn rt : Reg) : Statement (.ldeorb a r rs rn rt) := of_core _ rfl
theorem ldeorh (a r : BitVec 1) (rs rn rt : Reg) : Statement (.ldeorh a r rs rn rt) := of_core _ rfl
theorem ldeor (size0 a r : BitVec 1) (rs rn rt : Reg) : Statement (.ldeor size0 a r rs rn rt) := of_core _ rfl
theorem ldlarb (rn rt : Reg) : Statement (.ldlarb rn rt) := of_core _ rfl
theorem ldlarh (rn rt : Reg) : Statement (.ldlarh rn rt) := of_core _ rfl
theorem ldlar (size0 : BitVec 1) (rn rt : Reg) : Statement (.ldlar size0 rn rt) := of_core _ rfl
theorem ldnp (opc1 : BitVec 1) (imm7 : BitVec 7) (rt2 rn rt : Reg) :
    Statement (.ldnp opc1 imm7 rt2 rn rt) := of_core _ rfl
theorem ldpPostIndex (opc1 : BitVec 1) (imm7 : BitVec 7) (rt2 rn rt : Reg) :
    Statement (.ldpPostIndex opc1 imm7 rt2 rn rt) := of_core _ rfl
theorem ldpPreIndex (opc1 : BitVec 1) (imm7 : BitVec 7) (rt2 rn rt : Reg) :
    Statement (.ldpPreIndex opc1 imm7 rt2 rn rt) := of_core _ rfl
theorem ldpSignedOffset (opc1 : BitVec 1) (imm7 : BitVec 7) (rt2 rn rt : Reg) :
    Statement (.ldpSignedOffset opc1 imm7 rt2 rn rt) := of_core _ rfl
theorem ldpswPostIndex (imm7 : BitVec 7) (rt2 rn rt : Reg) :
    Statement (.ldpswPostIndex imm7 rt2 rn rt) := of_core _ rfl
theorem ldpswPreIndex (imm7 : BitVec 7) (rt2 rn rt : Reg) : Statement (.ldpswPreIndex imm7 rt2 rn rt) := of_core _ rfl
theorem ldpswSignedOffset (imm7 : BitVec 7) (rt2 rn rt : Reg) :
    Statement (.ldpswSignedOffset imm7 rt2 rn rt) := of_core _ rfl
theorem ldrImmediatePostIndex (size0 : BitVec 1) (imm9 : BitVec 9) (rn rt : Reg) :
    Statement (.ldrImmediatePostIndex size0 imm9 rn rt) := of_core _ rfl
theorem ldrImmediatePreIndex (size0 : BitVec 1) (imm9 : BitVec 9) (rn rt : Reg) :
    Statement (.ldrImmediatePreIndex size0 imm9 rn rt) := of_core _ rfl
theorem ldrImmediateUnsignedOffset (size0 : BitVec 1) (imm12 : BitVec 12) (rn rt : Reg) :
    Statement (.ldrImmediateUnsignedOffset size0 imm12 rn rt) := of_core _ rfl
theorem ldrLiteral (opc0 : BitVec 1) (imm19 : BitVec 19) (rt : Reg) :
    Statement (.ldrLiteral opc0 imm19 rt) := of_core _ rfl
theorem ldrRegister (size0 : BitVec 1) (rm : Reg) (option : BitVec 3) (s1 : BitVec 1) (rn rt : Reg) :
    Statement (.ldrRegister size0 rm option s1 rn rt) := of_core _ rfl
theorem ldrbImmediatePostIndex (imm9 : BitVec 9) (rn rt : Reg) :
    Statement (.ldrbImmediatePostIndex imm9 rn rt) := of_core _ rfl
theorem ldrbImmediatePreIndex (imm9 : BitVec 9) (rn rt : Reg) :
    Statement (.ldrbImmediatePreIndex imm9 rn rt) := of_core _ rfl
theorem ldrbImmediateUnsignedOffset (imm12 : BitVec 12) (rn rt : Reg) :
    Statement (.ldrbImmediateUnsignedOffset imm12 rn rt) := of_core _ rfl
theorem ldrbRegister (rm : Reg) (option : BitVec 3) (s1 : BitVec 1) (rn rt : Reg) :
    Statement (.ldrbRegister rm option s1 rn rt) := of_core _ rfl
theorem ldrhImmediatePostIndex (imm9 : BitVec 9) (rn rt : Reg) :
    Statement (.ldrhImmediatePostIndex imm9 rn rt) := of_core _ rfl
theorem ldrhImmediatePreIndex (imm9 : BitVec 9) (rn rt : Reg) :
    Statement (.ldrhImmediatePreIndex imm9 rn rt) := of_core _ rfl
theorem ldrhImmediateUnsignedOffset (imm12 : BitVec 12) (rn rt : Reg) :
    Statement (.ldrhImmediateUnsignedOffset imm12 rn rt) := of_core _ rfl
theorem ldrhRegister (rm : Reg) (option : BitVec 3) (s1 : BitVec 1) (rn rt : Reg) :
    Statement (.ldrhRegister rm option s1 rn rt) := of_core _ rfl
theorem ldrsbImmediatePostIndex (opc0 : BitVec 1) (imm9 : BitVec 9) (rn rt : Reg) :
    Statement (.ldrsbImmediatePostIndex opc0 imm9 rn rt) := of_core _ rfl
theorem ldrsbImmediatePreIndex (opc0 : BitVec 1) (imm9 : BitVec 9) (rn rt : Reg) :
    Statement (.ldrsbImmediatePreIndex opc0 imm9 rn rt) := of_core _ rfl
theorem ldrsbImmediateUnsignedOffset (opc0 : BitVec 1) (imm12 : BitVec 12) (rn rt : Reg) :
    Statement (.ldrsbImmediateUnsignedOffset opc0 imm12 rn rt) := of_core _ rfl
theorem ldrsbRegister (opc0 : BitVec 1) (rm : Reg) (option : BitVec 3) (s1 : BitVec 1) (rn rt : Reg) :
    Statement (.ldrsbRegister opc0 rm option s1 rn rt) := of_core _ rfl
theorem ldrshImmediatePostIndex (opc0 : BitVec 1) (imm9 : BitVec 9) (rn rt : Reg) :
    Statement (.ldrshImmediatePostIndex opc0 imm9 rn rt) := of_core _ rfl
theorem ldrshImmediatePreIndex (opc0 : BitVec 1) (imm9 : BitVec 9) (rn rt : Reg) :
    Statement (.ldrshImmediatePreIndex opc0 imm9 rn rt) := of_core _ rfl
theorem ldrshImmediateUnsignedOffset (opc0 : BitVec 1) (imm12 : BitVec 12) (rn rt : Reg) :
    Statement (.ldrshImmediateUnsignedOffset opc0 imm12 rn rt) := of_core _ rfl
theorem ldrshRegister (opc0 : BitVec 1) (rm : Reg) (option : BitVec 3) (s1 : BitVec 1) (rn rt : Reg) :
    Statement (.ldrshRegister opc0 rm option s1 rn rt) := of_core _ rfl
theorem ldrswImmediatePostIndex (imm9 : BitVec 9) (rn rt : Reg) :
    Statement (.ldrswImmediatePostIndex imm9 rn rt) := of_core _ rfl
theorem ldrswImmediatePreIndex (imm9 : BitVec 9) (rn rt : Reg) :
    Statement (.ldrswImmediatePreIndex imm9 rn rt) := of_core _ rfl
theorem ldrswImmediateUnsignedOffset (imm12 : BitVec 12) (rn rt : Reg) :
    Statement (.ldrswImmediateUnsignedOffset imm12 rn rt) := of_core _ rfl
theorem ldrswLiteral (imm19 : BitVec 19) (rt : Reg) : Statement (.ldrswLiteral imm19 rt) := of_core _ rfl
theorem ldrswRegister (rm : Reg) (option : BitVec 3) (s1 : BitVec 1) (rn rt : Reg) :
    Statement (.ldrswRegister rm option s1 rn rt) := of_core _ rfl
theorem ldsetb (a r : BitVec 1) (rs rn rt : Reg) : Statement (.ldsetb a r rs rn rt) := of_core _ rfl
theorem ldseth (a r : BitVec 1) (rs rn rt : Reg) : Statement (.ldseth a r rs rn rt) := of_core _ rfl
theorem ldset (size0 a r : BitVec 1) (rs rn rt : Reg) : Statement (.ldset size0 a r rs rn rt) := of_core _ rfl
theorem ldsmaxb (a r : BitVec 1) (rs rn rt : Reg) : Statement (.ldsmaxb a r rs rn rt) := of_core _ rfl
theorem ldsmaxh (a r : BitVec 1) (rs rn rt : Reg) : Statement (.ldsmaxh a r rs rn rt) := of_core _ rfl
theorem ldsmax (size0 a r : BitVec 1) (rs rn rt : Reg) : Statement (.ldsmax size0 a r rs rn rt) := of_core _ rfl
theorem ldsminb (a r : BitVec 1) (rs rn rt : Reg) : Statement (.ldsminb a r rs rn rt) := of_core _ rfl
theorem ldsminh (a r : BitVec 1) (rs rn rt : Reg) : Statement (.ldsminh a r rs rn rt) := of_core _ rfl
theorem ldsmin (size0 a r : BitVec 1) (rs rn rt : Reg) : Statement (.ldsmin size0 a r rs rn rt) := of_core _ rfl
theorem ldtr (size0 : BitVec 1) (imm9 : BitVec 9) (rn rt : Reg) : Statement (.ldtr size0 imm9 rn rt) := of_core _ rfl
theorem ldtrb (imm9 : BitVec 9) (rn rt : Reg) : Statement (.ldtrb imm9 rn rt) := of_core _ rfl
theorem ldtrh (imm9 : BitVec 9) (rn rt : Reg) : Statement (.ldtrh imm9 rn rt) := of_core _ rfl
theorem ldtrsb (opc0 : BitVec 1) (imm9 : BitVec 9) (rn rt : Reg) :
    Statement (.ldtrsb opc0 imm9 rn rt) := of_core _ rfl
theorem ldtrsh (opc0 : BitVec 1) (imm9 : BitVec 9) (rn rt : Reg) :
    Statement (.ldtrsh opc0 imm9 rn rt) := of_core _ rfl
theorem ldtrsw (imm9 : BitVec 9) (rn rt : Reg) : Statement (.ldtrsw imm9 rn rt) := of_core _ rfl
theorem ldumaxb (a r : BitVec 1) (rs rn rt : Reg) : Statement (.ldumaxb a r rs rn rt) := of_core _ rfl
theorem ldumaxh (a r : BitVec 1) (rs rn rt : Reg) : Statement (.ldumaxh a r rs rn rt) := of_core _ rfl
theorem ldumax (size0 a r : BitVec 1) (rs rn rt : Reg) : Statement (.ldumax size0 a r rs rn rt) := of_core _ rfl
theorem lduminb (a r : BitVec 1) (rs rn rt : Reg) : Statement (.lduminb a r rs rn rt) := of_core _ rfl
theorem lduminh (a r : BitVec 1) (rs rn rt : Reg) : Statement (.lduminh a r rs rn rt) := of_core _ rfl
theorem ldumin (size0 a r : BitVec 1) (rs rn rt : Reg) : Statement (.ldumin size0 a r rs rn rt) := of_core _ rfl
theorem ldur (size0 : BitVec 1) (imm9 : BitVec 9) (rn rt : Reg) : Statement (.ldur size0 imm9 rn rt) := of_core _ rfl
theorem ldurb (imm9 : BitVec 9) (rn rt : Reg) : Statement (.ldurb imm9 rn rt) := of_core _ rfl
theorem ldurh (imm9 : BitVec 9) (rn rt : Reg) : Statement (.ldurh imm9 rn rt) := of_core _ rfl
theorem ldursb (opc0 : BitVec 1) (imm9 : BitVec 9) (rn rt : Reg) :
    Statement (.ldursb opc0 imm9 rn rt) := of_core _ rfl
theorem ldursh (opc0 : BitVec 1) (imm9 : BitVec 9) (rn rt : Reg) :
    Statement (.ldursh opc0 imm9 rn rt) := of_core _ rfl
theorem ldursw (imm9 : BitVec 9) (rn rt : Reg) : Statement (.ldursw imm9 rn rt) := of_core _ rfl
theorem ldxp (sz : BitVec 1) (rt2 rn rt : Reg) : Statement (.ldxp sz rt2 rn rt) := of_core _ rfl
theorem ldxr (size0 : BitVec 1) (rn rt : Reg) : Statement (.ldxr size0 rn rt) := of_core _ rfl
theorem ldxrb (rn rt : Reg) : Statement (.ldxrb rn rt) := of_core _ rfl
theorem ldxrh (rn rt : Reg) : Statement (.ldxrh rn rt) := of_core _ rfl
theorem lslv (sf : BitVec 1) (rm rn rd : Reg) : Statement (.lslv sf rm rn rd) := of_core _ rfl
theorem lsrv (sf : BitVec 1) (rm rn rd : Reg) : Statement (.lsrv sf rm rn rd) := of_core _ rfl
theorem madd (sf : BitVec 1) (rm ra rn rd : Reg) : Statement (.madd sf rm ra rn rd) := of_core _ rfl
theorem movk (sf : BitVec 1) (hw : BitVec 2) (imm16 : BitVec 16) (rd : Reg) :
    Statement (.movk sf hw imm16 rd) := of_core _ rfl
theorem movn (sf : BitVec 1) (hw : BitVec 2) (imm16 : BitVec 16) (rd : Reg) :
    Statement (.movn sf hw imm16 rd) := of_core _ rfl
theorem movz (sf : BitVec 1) (hw : BitVec 2) (imm16 : BitVec 16) (rd : Reg) :
    Statement (.movz sf hw imm16 rd) := of_core _ rfl
theorem mrs (o0 : BitVec 1) (op1 : BitVec 3) (crn crm : BitVec 4) (op2 : BitVec 3) (rt : Reg) :
    Statement (.mrs o0 op1 crn crm op2 rt) := of_core _ rfl
theorem msrImmediate (op1 : BitVec 3) (crm : BitVec 4) (op2 : BitVec 3) :
    Statement (.msrImmediate op1 crm op2) := of_core _ rfl
theorem msrRegister (o0 : BitVec 1) (op1 : BitVec 3) (crn crm : BitVec 4) (op2 : BitVec 3) (rt : Reg) :
    Statement (.msrRegister o0 op1 crn crm op2 rt) := of_core _ rfl
theorem msub (sf : BitVec 1) (rm ra rn rd : Reg) : Statement (.msub sf rm ra rn rd) := of_core _ rfl
theorem nop : Statement .nop := of_core _ rfl
theorem ornShiftedRegister (sf : BitVec 1) (shift : BitVec 2) (rm : Reg) (imm6 : BitVec 6) (rn rd : Reg) :
    Statement (.ornShiftedRegister sf shift rm imm6 rn rd) := of_core _ rfl
theorem orrImmediate (sf n : BitVec 1) (immr imms : BitVec 6) (rn rd : Reg) :
    Statement (.orrImmediate sf n immr imms rn rd) := of_core _ rfl
theorem orrShiftedRegister (sf : BitVec 1) (shift : BitVec 2) (rm : Reg) (imm6 : BitVec 6) (rn rd : Reg) :
    Statement (.orrShiftedRegister sf shift rm imm6 rn rd) := of_core _ rfl
theorem prfmImmediate (imm12 : BitVec 12) (rn rt : Reg) : Statement (.prfmImmediate imm12 rn rt) := of_core _ rfl
theorem prfmLiteral (imm19 : BitVec 19) (rt : Reg) : Statement (.prfmLiteral imm19 rt) := of_core _ rfl
theorem prfmRegister (rm : Reg) (option : BitVec 3) (s1 : BitVec 1) (rn rt : Reg) :
    Statement (.prfmRegister rm option s1 rn rt) := of_core _ rfl
theorem prfum (imm9 : BitVec 9) (rn rt : Reg) : Statement (.prfum imm9 rn rt) := of_core _ rfl
theorem psbCsync : Statement .psbCsync := of_core _ rfl
theorem rbit (sf : BitVec 1) (rn rd : Reg) : Statement (.rbit sf rn rd) := of_core _ rfl
theorem ret (rn : Reg) : Statement (.ret rn) := of_core _ rfl
theorem rev32Bit (rn rd : Reg) : Statement (.rev32Bit rn rd) := of_core _ rfl
theorem rev64Bit (rn rd : Reg) : Statement (.rev64Bit rn rd) := of_core _ rfl
theorem rev16 (sf : BitVec 1) (rn rd : Reg) : Statement (.rev16 sf rn rd) := of_core _ rfl
theorem rev32 (rn rd : Reg) : Statement (.rev32 rn rd) := of_core _ rfl
theorem rorv (sf : BitVec 1) (rm rn rd : Reg) : Statement (.rorv sf rm rn rd) := of_core _ rfl
theorem sbc (sf : BitVec 1) (rm rn rd : Reg) : Statement (.sbc sf rm rn rd) := of_core _ rfl
theorem sbcs (sf : BitVec 1) (rm rn rd : Reg) : Statement (.sbcs sf rm rn rd) := of_core _ rfl
theorem sbfm (sf n : BitVec 1) (immr imms : BitVec 6) (rn rd : Reg) :
    Statement (.sbfm sf n immr imms rn rd) := of_core _ rfl
theorem sdiv (sf : BitVec 1) (rm rn rd : Reg) : Statement (.sdiv sf rm rn rd) := of_core _ rfl
theorem sev : Statement .sev := of_core _ rfl
theorem sevl : Statement .sevl := of_core _ rfl
theorem smaddl (rm ra rn rd : Reg) : Statement (.smaddl rm ra rn rd) := of_core _ rfl
theorem smc (imm16 : BitVec 16) : Statement (.smc imm16) := of_core _ rfl
theorem smsubl (rm ra rn rd : Reg) : Statement (.smsubl rm ra rn rd) := of_core _ rfl
theorem smulh (rm rn rd : Reg) : Statement (.smulh rm rn rd) := of_core _ rfl
theorem stllrb (rn rt : Reg) : Statement (.stllrb rn rt) := of_core _ rfl
theorem stllrh (rn rt : Reg) : Statement (.stllrh rn rt) := of_core _ rfl
theorem stllr (size0 : BitVec 1) (rn rt : Reg) : Statement (.stllr size0 rn rt) := of_core _ rfl
theorem stlr (size0 : BitVec 1) (rn rt : Reg) : Statement (.stlr size0 rn rt) := of_core _ rfl
theorem stlrb (rn rt : Reg) : Statement (.stlrb rn rt) := of_core _ rfl
theorem stlrh (rn rt : Reg) : Statement (.stlrh rn rt) := of_core _ rfl
theorem stlxp (sz : BitVec 1) (rs rt2 rn rt : Reg) : Statement (.stlxp sz rs rt2 rn rt) := of_core _ rfl
theorem stlxr (size0 : BitVec 1) (rs rn rt : Reg) : Statement (.stlxr size0 rs rn rt) := of_core _ rfl
theorem stlxrb (rs rn rt : Reg) : Statement (.stlxrb rs rn rt) := of_core _ rfl
theorem stlxrh (rs rn rt : Reg) : Statement (.stlxrh rs rn rt) := of_core _ rfl
theorem stnp (opc1 : BitVec 1) (imm7 : BitVec 7) (rt2 rn rt : Reg) :
    Statement (.stnp opc1 imm7 rt2 rn rt) := of_core _ rfl
theorem stpPostIndex (opc1 : BitVec 1) (imm7 : BitVec 7) (rt2 rn rt : Reg) :
    Statement (.stpPostIndex opc1 imm7 rt2 rn rt) := of_core _ rfl
theorem stpPreIndex (opc1 : BitVec 1) (imm7 : BitVec 7) (rt2 rn rt : Reg) :
    Statement (.stpPreIndex opc1 imm7 rt2 rn rt) := of_core _ rfl
theorem stpSignedOffset (opc1 : BitVec 1) (imm7 : BitVec 7) (rt2 rn rt : Reg) :
    Statement (.stpSignedOffset opc1 imm7 rt2 rn rt) := of_core _ rfl
theorem strImmediatePostIndex (size0 : BitVec 1) (imm9 : BitVec 9) (rn rt : Reg) :
    Statement (.strImmediatePostIndex size0 imm9 rn rt) := of_core _ rfl
theorem strImmediatePreIndex (size0 : BitVec 1) (imm9 : BitVec 9) (rn rt : Reg) :
    Statement (.strImmediatePreIndex size0 imm9 rn rt) := of_core _ rfl
theorem strImmediateUnsignedOffset (size0 : BitVec 1) (imm12 : BitVec 12) (rn rt : Reg) :
    Statement (.strImmediateUnsignedOffset size0 imm12 rn rt) := of_core _ rfl
theorem strRegister (size0 : BitVec 1) (rm : Reg) (option : BitVec 3) (s1 : BitVec 1) (rn rt : Reg) :
    Statement (.strRegister size0 rm option s1 rn rt) := of_core _ rfl
theorem strbImmediatePostIndex (imm9 : BitVec 9) (rn rt : Reg) :
    Statement (.strbImmediatePostIndex imm9 rn rt) := of_core _ rfl
theorem strbImmediatePreIndex (imm9 : BitVec 9) (rn rt : Reg) :
    Statement (.strbImmediatePreIndex imm9 rn rt) := of_core _ rfl
theorem strbImmediateUnsignedOffset (imm12 : BitVec 12) (rn rt : Reg) :
    Statement (.strbImmediateUnsignedOffset imm12 rn rt) := of_core _ rfl
theorem strbRegister (rm : Reg) (option : BitVec 3) (s1 : BitVec 1) (rn rt : Reg) :
    Statement (.strbRegister rm option s1 rn rt) := of_core _ rfl
theorem strhImmediatePostIndex (imm9 : BitVec 9) (rn rt : Reg) :
    Statement (.strhImmediatePostIndex imm9 rn rt) := of_core _ rfl
theorem strhImmediatePreIndex (imm9 : BitVec 9) (rn rt : Reg) :
    Statement (.strhImmediatePreIndex imm9 rn rt) := of_core _ rfl
theorem strhImmediateUnsignedOffset (imm12 : BitVec 12) (rn rt : Reg) :
    Statement (.strhImmediateUnsignedOffset imm12 rn rt) := of_core _ rfl
theorem strhRegister (rm : Reg) (option : BitVec 3) (s1 : BitVec 1) (rn rt : Reg) :
    Statement (.strhRegister rm option s1 rn rt) := of_core _ rfl
theorem sttr (size0 : BitVec 1) (imm9 : BitVec 9) (rn rt : Reg) : Statement (.sttr size0 imm9 rn rt) := of_core _ rfl
theorem sttrb (imm9 : BitVec 9) (rn rt : Reg) : Statement (.sttrb imm9 rn rt) := of_core _ rfl
theorem sttrh (imm9 : BitVec 9) (rn rt : Reg) : Statement (.sttrh imm9 rn rt) := of_core _ rfl
theorem stur (size0 : BitVec 1) (imm9 : BitVec 9) (rn rt : Reg) : Statement (.stur size0 imm9 rn rt) := of_core _ rfl
theorem sturb (imm9 : BitVec 9) (rn rt : Reg) : Statement (.sturb imm9 rn rt) := of_core _ rfl
theorem sturh (imm9 : BitVec 9) (rn rt : Reg) : Statement (.sturh imm9 rn rt) := of_core _ rfl
theorem stxp (sz : BitVec 1) (rs rt2 rn rt : Reg) : Statement (.stxp sz rs rt2 rn rt) := of_core _ rfl
theorem stxr (size0 : BitVec 1) (rs rn rt : Reg) : Statement (.stxr size0 rs rn rt) := of_core _ rfl
theorem stxrb (rs rn rt : Reg) : Statement (.stxrb rs rn rt) := of_core _ rfl
theorem stxrh (rs rn rt : Reg) : Statement (.stxrh rs rn rt) := of_core _ rfl
theorem subExtendedRegister (sf : BitVec 1) (rm : Reg) (option imm3 : BitVec 3) (rn rd : Reg) :
    Statement (.subExtendedRegister sf rm option imm3 rn rd) := of_core _ rfl
theorem subImmediate (sf : BitVec 1) (shift : BitVec 2) (imm12 : BitVec 12) (rn rd : Reg) :
    Statement (.subImmediate sf shift imm12 rn rd) := of_core _ rfl
theorem subShiftedRegister (sf : BitVec 1) (shift : BitVec 2) (rm : Reg) (imm6 : BitVec 6) (rn rd : Reg) :
    Statement (.subShiftedRegister sf shift rm imm6 rn rd) := of_core _ rfl
theorem subsExtendedRegister (sf : BitVec 1) (rm : Reg) (option imm3 : BitVec 3) (rn rd : Reg) :
    Statement (.subsExtendedRegister sf rm option imm3 rn rd) := of_core _ rfl
theorem subsImmediate (sf : BitVec 1) (shift : BitVec 2) (imm12 : BitVec 12) (rn rd : Reg) :
    Statement (.subsImmediate sf shift imm12 rn rd) := of_core _ rfl
theorem subsShiftedRegister (sf : BitVec 1) (shift : BitVec 2) (rm : Reg) (imm6 : BitVec 6) (rn rd : Reg) :
    Statement (.subsShiftedRegister sf shift rm imm6 rn rd) := of_core _ rfl
theorem svc (imm16 : BitVec 16) : Statement (.svc imm16) := of_core _ rfl
theorem swpb (a r : BitVec 1) (rs rn rt : Reg) : Statement (.swpb a r rs rn rt) := of_core _ rfl
theorem swph (a r : BitVec 1) (rs rn rt : Reg) : Statement (.swph a r rs rn rt) := of_core _ rfl
theorem swp (size0 a r : BitVec 1) (rs rn rt : Reg) : Statement (.swp size0 a r rs rn rt) := of_core _ rfl
theorem sys (op1 : BitVec 3) (crn crm : BitVec 4) (op2 : BitVec 3) (rt : Reg) :
    Statement (.sys op1 crn crm op2 rt) := of_core _ rfl
theorem sysl (op1 : BitVec 3) (crn crm : BitVec 4) (op2 : BitVec 3) (rt : Reg) :
    Statement (.sysl op1 crn crm op2 rt) := of_core _ rfl
theorem tbnz (b5 : BitVec 1) (b40 : BitVec 5) (imm14 : BitVec 14) (rt : Reg) :
    Statement (.tbnz b5 b40 imm14 rt) := of_core _ rfl
theorem tbz (b5 : BitVec 1) (b40 : BitVec 5) (imm14 : BitVec 14) (rt : Reg) :
    Statement (.tbz b5 b40 imm14 rt) := of_core _ rfl
theorem ubfm (sf n : BitVec 1) (immr imms : BitVec 6) (rn rd : Reg) :
    Statement (.ubfm sf n immr imms rn rd) := of_core _ rfl
theorem udiv (sf : BitVec 1) (rm rn rd : Reg) : Statement (.udiv sf rm rn rd) := of_core _ rfl
theorem umaddl (rm ra rn rd : Reg) : Statement (.umaddl rm ra rn rd) := of_core _ rfl
theorem umsubl (rm ra rn rd : Reg) : Statement (.umsubl rm ra rn rd) := of_core _ rfl
theorem umulh (rm rn rd : Reg) : Statement (.umulh rm rn rd) := of_core _ rfl
theorem wfe : Statement .wfe := of_core _ rfl
theorem wfi : Statement .wfi := of_core _ rfl
theorem yield : Statement .yield := of_core _ rfl
theorem asrRegister (sf : BitVec 1) (rm rn rd : Reg) : Statement (.asrRegister sf rm rn rd) :=
  ⟨rfl, rfl, fun _ => rfl⟩
theorem asrImmediate (sf n : BitVec 1) (immr : BitVec 6) (imms5 : BitVec 1) (rn rd : Reg) :
    Statement (.asrImmediate sf n immr imms5 rn rd) := by
  refine ⟨rfl, ?_, fun h => (and1 _ _ h)⟩
  have h : 0x13007C00#32 = 0x13000000#32 ||| 0x7C00#32 := by decide
  change 0x13000000#32 ||| put 31 sf ||| put 22 n ||| put 16 immr ||| put 10 (imms5 ++ 31#5) ||| put 5 rn |||
      put 0 rd = 0x13007C00#32 ||| put 31 sf ||| put 22 n ||| put 16 immr ||| put 15 imms5 ||| put 5 rn ||| put 0 rd
  rw [put_append]; rw [h]
  exact move_vvvmvv ..
theorem sysAt (op1 : BitVec 3) (crm0 : BitVec 1) (op2 : BitVec 3) (rt : Reg) :
    Statement (.sysAt op1 crm0 op2 rt) := by
  refine ⟨rfl, ?_, fun _ => rfl⟩
  have h : 0xD5087800#32 = 0xD5080000#32 ||| put 12 7#4 ||| 0x800#32 := by decide
  change 0xD5080000#32 ||| put 16 op1 ||| put 12 7#4 ||| put 8 (4#3 ++ crm0) ||| put 5 op2 |||
      put 0 rt = 0xD5087800#32 ||| put 16 op1 ||| put 8 crm0 ||| put 5 op2 ||| put 0 rt
  rw [put_crm]; rw [h]
  exact move_vknvv ..
theorem bfc (sf n : BitVec 1) (immr imms : BitVec 6) (rd : Reg) : Statement (.bfc sf n immr imms rd) := by
  refine ⟨rfl, ?_, fun h => (and1 _ _ h)⟩
  have h : 0x330003E0#32 = 0x33000000#32 ||| put 5 31#5 := by decide
  change 0x33000000#32 ||| put 31 sf ||| put 22 n ||| put 16 immr ||| put 10 imms ||| put 5 31#5 |||
      put 0 rd = 0x330003E0#32 ||| put 31 sf ||| put 22 n ||| put 16 immr ||| put 10 imms ||| put 0 rd
  rw [h]
  exact move_vvvvkv ..
theorem bfi (sf n : BitVec 1) (immr imms : BitVec 6) (rn rd : Reg) : Statement (.bfi sf n immr imms rn rd) :=
  ⟨rfl, rfl, fun h => (and1 _ _ (and1 _ _ h))⟩
theorem bfxil (sf n : BitVec 1) (immr imms : BitVec 6) (rn rd : Reg) : Statement (.bfxil sf n immr imms rn rd) :=
  ⟨rfl, rfl, fun h => (and1 _ _ h)⟩
theorem cinc (sf : BitVec 1) (rm : Reg) (cond : BitVec 4) (rn rd : Reg) : Statement (.cinc sf rm cond rn rd) :=
  ⟨rfl, rfl, fun _ => rfl⟩
theorem cinv (sf : BitVec 1) (rm : Reg) (cond : BitVec 4) (rn rd : Reg) : Statement (.cinv sf rm cond rn rd) :=
  ⟨rfl, rfl, fun _ => rfl⟩
theorem cmnExtendedRegister (sf : BitVec 1) (rm : Reg) (option imm3 : BitVec 3) (rn : Reg) :
    Statement (.cmnExtendedRegister sf rm option imm3 rn) := by
  refine ⟨rfl, ?_, id⟩
  have h : 0x2B20001F#32 = 0x2B200000#32 ||| put 0 31#5 := by decide
  change 0x2B200000#32 ||| put 31 sf ||| put 16 rm ||| put 13 option ||| put 10 imm3 ||| put 5 rn |||
      put 0 31#5 = 0x2B20001F#32 ||| put 31 sf ||| put 16 rm ||| put 13 option ||| put 10 imm3 ||| put 5 rn
  rw [h]
  exact move_vvvvvk ..
theorem cmnImmediate (sf : BitVec 1) (shift : BitVec 2) (imm12 : BitVec 12) (rn : Reg) :
    Statement (.cmnImmediate sf shift imm12 rn) := by
  refine ⟨rfl, ?_, id⟩
  have h : 0x3100001F#32 = 0x31000000#32 ||| put 0 31#5 := by decide
  change 0x31000000#32 ||| put 31 sf ||| put 22 shift ||| put 10 imm12 ||| put 5 rn ||| put 0 31#5 =
      0x3100001F#32 ||| put 31 sf ||| put 22 shift ||| put 10 imm12 ||| put 5 rn
  rw [h]
  exact move_vvvvk ..
theorem cmnShiftedRegister (sf : BitVec 1) (shift : BitVec 2) (rm : Reg) (imm6 : BitVec 6) (rn : Reg) :
    Statement (.cmnShiftedRegister sf shift rm imm6 rn) := by
  refine ⟨rfl, ?_, id⟩
  have h : 0x2B00001F#32 = 0x2B000000#32 ||| put 0 31#5 := by decide
  change 0x2B000000#32 ||| put 31 sf ||| put 22 shift ||| put 16 rm ||| put 10 imm6 ||| put 5 rn |||
      put 0 31#5 = 0x2B00001F#32 ||| put 31 sf ||| put 22 shift ||| put 16 rm ||| put 10 imm6 ||| put 5 rn
  rw [h]
  exact move_vvvvvk ..
theorem cmpExtendedRegister (sf : BitVec 1) (rm : Reg) (option imm3 : BitVec 3) (rn : Reg) :
    Statement (.cmpExtendedRegister sf rm option imm3 rn) := by
  refine ⟨rfl, ?_, id⟩
  have h : 0x6B20001F#32 = 0x6B200000#32 ||| put 0 31#5 := by decide
  change 0x6B200000#32 ||| put 31 sf ||| put 16 rm ||| put 13 option ||| put 10 imm3 ||| put 5 rn |||
      put 0 31#5 = 0x6B20001F#32 ||| put 31 sf ||| put 16 rm ||| put 13 option ||| put 10 imm3 ||| put 5 rn
  rw [h]
  exact move_vvvvvk ..
theorem cmpImmediate (sf : BitVec 1) (shift : BitVec 2) (imm12 : BitVec 12) (rn : Reg) :
    Statement (.cmpImmediate sf shift imm12 rn) := by
  refine ⟨rfl, ?_, id⟩
  have h : 0x7100001F#32 = 0x71000000#32 ||| put 0 31#5 := by decide
  change 0x71000000#32 ||| put 31 sf ||| put 22 shift ||| put 10 imm12 ||| put 5 rn ||| put 0 31#5 =
      0x7100001F#32 ||| put 31 sf ||| put 22 shift ||| put 10 imm12 ||| put 5 rn
  rw [h]
  exact move_vvvvk ..
theorem cmpShiftedRegister (sf : BitVec 1) (shift : BitVec 2) (rm : Reg) (imm6 : BitVec 6) (rn : Reg) :
    Statement (.cmpShiftedRegister sf shift rm imm6 rn) := by
  refine ⟨rfl, ?_, id⟩
  have h : 0x6B00001F#32 = 0x6B000000#32 ||| put 0 31#5 := by decide
  change 0x6B000000#32 ||| put 31 sf ||| put 22 shift ||| put 16 rm ||| put 10 imm6 ||| put 5 rn |||
      put 0 31#5 = 0x6B00001F#32 ||| put 31 sf ||| put 22 shift ||| put 16 rm ||| put 10 imm6 ||| put 5 rn
  rw [h]
  exact move_vvvvvk ..
theorem cneg (sf : BitVec 1) (rm : Reg) (cond : BitVec 4) (rn rd : Reg) : Statement (.cneg sf rm cond rn rd) :=
  ⟨rfl, rfl, fun _ => rfl⟩
theorem cset (sf : BitVec 1) (cond : BitVec 4) (rd : Reg) : Statement (.cset sf cond rd) := by
  refine ⟨rfl, ?_, fun _ => rfl⟩
  have h : 0x1A9F07E0#32 = 0x1A800400#32 ||| put 16 31#5 ||| put 5 31#5 := by decide
  change 0x1A800400#32 ||| put 31 sf ||| put 16 31#5 ||| put 12 cond ||| put 5 31#5 ||| put 0 rd =
      0x1A9F07E0#32 ||| put 31 sf ||| put 12 cond ||| put 0 rd
  rw [h]
  exact move_vkvkv ..
theorem csetm (sf : BitVec 1) (cond : BitVec 4) (rd : Reg) : Statement (.csetm sf cond rd) := by
  refine ⟨rfl, ?_, fun _ => rfl⟩
  have h : 0x5A9F03E0#32 = 0x5A800000#32 ||| put 16 31#5 ||| put 5 31#5 := by decide
  change 0x5A800000#32 ||| put 31 sf ||| put 16 31#5 ||| put 12 cond ||| put 5 31#5 ||| put 0 rd =
      0x5A9F03E0#32 ||| put 31 sf ||| put 12 cond ||| put 0 rd
  rw [h]
  exact move_vkvkv ..
theorem sysDc (op1 : BitVec 3) (crm : BitVec 4) (op2 : BitVec 3) (rt : Reg) : Statement (.sysDc op1 crm op2 rt) := by
  refine ⟨rfl, ?_, fun _ => rfl⟩
  have h : 0xD5087000#32 = 0xD5080000#32 ||| put 12 7#4 := by decide
  change 0xD5080000#32 ||| put 16 op1 ||| put 12 7#4 ||| put 8 crm ||| put 5 op2 ||| put 0 rt =
      0xD5087000#32 ||| put 16 op1 ||| put 8 crm ||| put 5 op2 ||| put 0 rt
  rw [h]
  exact move_vkvvv ..
theorem sysIc (op1 : BitVec 3) (crm : BitVec 4) (op2 : BitVec 3) (rt : Reg) : Statement (.sysIc op1 crm op2 rt) := by
  refine ⟨rfl, ?_, fun _ => rfl⟩
  have h : 0xD5087000#32 = 0xD5080000#32 ||| put 12 7#4 := by decide
  change 0xD5080000#32 ||| put 16 op1 ||| put 12 7#4 ||| put 8 crm ||| put 5 op2 ||| put 0 rt =
      0xD5087000#32 ||| put 16 op1 ||| put 8 crm ||| put 5 op2 ||| put 0 rt
  rw [h]
  exact move_vkvvv ..
theorem lslRegister (sf : BitVec 1) (rm rn rd : Reg) : Statement (.lslRegister sf rm rn rd) :=
  ⟨rfl, rfl, fun _ => rfl⟩
theorem lslImmediate (sf n : BitVec 1) (immr imms : BitVec 6) (rn rd : Reg) :
    Statement (.lslImmediate sf n immr imms rn rd) :=
  ⟨rfl, rfl, fun h => (and1 _ _ (and1 _ _ h))⟩
theorem lsrRegister (sf : BitVec 1) (rm rn rd : Reg) : Statement (.lsrRegister sf rm rn rd) :=
  ⟨rfl, rfl, fun _ => rfl⟩
theorem lsrImmediate (sf n : BitVec 1) (immr : BitVec 6) (imms5 : BitVec 1) (rn rd : Reg) :
    Statement (.lsrImmediate sf n immr imms5 rn rd) := by
  refine ⟨rfl, ?_, fun h => (and1 _ _ h)⟩
  have h : 0x53007C00#32 = 0x53000000#32 ||| 0x7C00#32 := by decide
  change 0x53000000#32 ||| put 31 sf ||| put 22 n ||| put 16 immr ||| put 10 (imms5 ++ 31#5) ||| put 5 rn |||
      put 0 rd = 0x53007C00#32 ||| put 31 sf ||| put 22 n ||| put 16 immr ||| put 15 imms5 ||| put 5 rn ||| put 0 rd
  rw [put_append]; rw [h]
  exact move_vvvmvv ..
theorem mneg (sf : BitVec 1) (rm rn rd : Reg) : Statement (.mneg sf rm rn rd) := by
  refine ⟨rfl, ?_, fun _ => rfl⟩
  have h : 0x1B00FC00#32 = 0x1B008000#32 ||| put 10 31#5 := by decide
  change 0x1B008000#32 ||| put 31 sf ||| put 16 rm ||| put 10 31#5 ||| put 5 rn ||| put 0 rd =
      0x1B00FC00#32 ||| put 31 sf ||| put 16 rm ||| put 5 rn ||| put 0 rd
  rw [h]
  exact move_vvkvv ..
theorem movToFromSP (sf : BitVec 1) (rn rd : Reg) : Statement (.movToFromSP sf rn rd) := by
  refine ⟨rfl, ?_, fun _ => rfl⟩
  have h : 0x11000000#32 = 0x11000000#32 ||| put 22 0#2 ||| put 10 0#12 := by decide
  change 0x11000000#32 ||| put 31 sf ||| put 22 0#2 ||| put 10 0#12 ||| put 5 rn ||| put 0 rd =
      0x11000000#32 ||| put 31 sf ||| put 5 rn ||| put 0 rd
  rw [h]
  exact move_vkkvv ..
theorem movInvertedWideImmediate (sf : BitVec 1) (hw : BitVec 2) (imm16 : BitVec 16) (rd : Reg) :
    Statement (.movInvertedWideImmediate sf hw imm16 rd) :=
  ⟨rfl, rfl, fun h => (and1 _ _ (and1 _ _ h))⟩
theorem movWideImmediate (sf : BitVec 1) (hw : BitVec 2) (imm16 : BitVec 16) (rd : Reg) :
    Statement (.movWideImmediate sf hw imm16 rd) :=
  ⟨rfl, rfl, fun h => (and1 _ _ h)⟩
theorem movBitmaskImmediate (sf n : BitVec 1) (immr imms : BitVec 6) (rd : Reg) :
    Statement (.movBitmaskImmediate sf n immr imms rd) := by
  refine ⟨rfl, ?_, fun h => (and1 _ _ h)⟩
  have h : 0x320003E0#32 = 0x32000000#32 ||| put 5 31#5 := by decide
  change 0x32000000#32 ||| put 31 sf ||| put 22 n ||| put 16 immr ||| put 10 imms ||| put 5 31#5 |||
      put 0 rd = 0x320003E0#32 ||| put 31 sf ||| put 22 n ||| put 16 immr ||| put 10 imms ||| put 0 rd
  rw [h]
  exact move_vvvvkv ..
theorem movRegister (sf : BitVec 1) (rm rd : Reg) : Statement (.movRegister sf rm rd) := by
  refine ⟨rfl, ?_, id⟩
  have h : 0x2A0003E0#32 = 0x2A000000#32 ||| put 22 0#2 ||| put 10 0#6 ||| put 5 31#5 := by decide
  change 0x2A000000#32 ||| put 31 sf ||| put 22 0#2 ||| put 16 rm ||| put 10 0#6 ||| put 5 31#5 |||
      put 0 rd = 0x2A0003E0#32 ||| put 31 sf ||| put 16 rm ||| put 0 rd
  rw [h]
  exact move_vkvkkv ..
theorem mul (sf : BitVec 1) (rm rn rd : Reg) : Statement (.mul sf rm rn rd) := by
  refine ⟨rfl, ?_, fun _ => rfl⟩
  have h : 0x1B007C00#32 = 0x1B000000#32 ||| put 10 31#5 := by decide
  change 0x1B000000#32 ||| put 31 sf ||| put 16 rm ||| put 10 31#5 ||| put 5 rn ||| put 0 rd =
      0x1B007C00#32 ||| put 31 sf ||| put 16 rm ||| put 5 rn ||| put 0 rd
  rw [h]
  exact move_vvkvv ..
theorem mvn (sf : BitVec 1) (shift : BitVec 2) (rm : Reg) (imm6 : BitVec 6) (rd : Reg) :
    Statement (.mvn sf shift rm imm6 rd) := by
  refine ⟨rfl, ?_, id⟩
  have h : 0x2A2003E0#32 = 0x2A200000#32 ||| put 5 31#5 := by decide
  change 0x2A200000#32 ||| put 31 sf ||| put 22 shift ||| put 16 rm ||| put 10 imm6 ||| put 5 31#5 |||
      put 0 rd = 0x2A2003E0#32 ||| put 31 sf ||| put 22 shift ||| put 16 rm ||| put 10 imm6 ||| put 0 rd
  rw [h]
  exact move_vvvvkv ..
theorem negShiftedRegister (sf : BitVec 1) (shift : BitVec 2) (rm : Reg) (imm6 : BitVec 6) (rd : Reg) :
    Statement (.negShiftedRegister sf shift rm imm6 rd) := by
  refine ⟨rfl, ?_, id⟩
  have h : 0x4B0003E0#32 = 0x4B000000#32 ||| put 5 31#5 := by decide
  change 0x4B000000#32 ||| put 31 sf ||| put 22 shift ||| put 16 rm ||| put 10 imm6 ||| put 5 31#5 |||
      put 0 rd = 0x4B0003E0#32 ||| put 31 sf ||| put 22 shift ||| put 16 rm ||| put 10 imm6 ||| put 0 rd
  rw [h]
  exact move_vvvvkv ..
theorem negs (sf : BitVec 1) (shift : BitVec 2) (rm : Reg) (imm6 : BitVec 6) (rd : Reg) :
    Statement (.negs sf shift rm imm6 rd) := by
  refine ⟨rfl, ?_, fun h => (and1 _ _ h)⟩
  have h : 0x6B0003E0#32 = 0x6B000000#32 ||| put 5 31#5 := by decide
  change 0x6B000000#32 ||| put 31 sf ||| put 22 shift ||| put 16 rm ||| put 10 imm6 ||| put 5 31#5 |||
      put 0 rd = 0x6B0003E0#32 ||| put 31 sf ||| put 22 shift ||| put 16 rm ||| put 10 imm6 ||| put 0 rd
  rw [h]
  exact move_vvvvkv ..
theorem ngc (sf : BitVec 1) (rm rd : Reg) : Statement (.ngc sf rm rd) := by
  refine ⟨rfl, ?_, fun _ => rfl⟩
  have h : 0x5A0003E0#32 = 0x5A000000#32 ||| put 5 31#5 := by decide
  change 0x5A000000#32 ||| put 31 sf ||| put 16 rm ||| put 5 31#5 ||| put 0 rd =
      0x5A0003E0#32 ||| put 31 sf ||| put 16 rm ||| put 0 rd
  rw [h]
  exact move_vvkv ..
theorem ngcs (sf : BitVec 1) (rm rd : Reg) : Statement (.ngcs sf rm rd) := by
  refine ⟨rfl, ?_, fun _ => rfl⟩
  have h : 0x7A0003E0#32 = 0x7A000000#32 ||| put 5 31#5 := by decide
  change 0x7A000000#32 ||| put 31 sf ||| put 16 rm ||| put 5 31#5 ||| put 0 rd =
      0x7A0003E0#32 ||| put 31 sf ||| put 16 rm ||| put 0 rd
  rw [h]
  exact move_vvkv ..
theorem rev64 (rn rd : Reg) : Statement (.rev64 rn rd) :=
  ⟨rfl, rfl, fun _ => rfl⟩
theorem rorImmediate (sf n : BitVec 1) (rm : Reg) (imms : BitVec 6) (rn rd : Reg) :
    Statement (.rorImmediate sf n rm imms rn rd) :=
  ⟨rfl, rfl, fun h => (and1 _ _ h)⟩
theorem rorRegister (sf : BitVec 1) (rm rn rd : Reg) : Statement (.rorRegister sf rm rn rd) :=
  ⟨rfl, rfl, fun _ => rfl⟩
theorem sbfiz (sf n : BitVec 1) (immr imms : BitVec 6) (rn rd : Reg) : Statement (.sbfiz sf n immr imms rn rd) :=
  ⟨rfl, rfl, fun h => (and1 _ _ h)⟩
theorem sbfx (sf n : BitVec 1) (immr imms : BitVec 6) (rn rd : Reg) : Statement (.sbfx sf n immr imms rn rd) :=
  ⟨rfl, rfl, fun h => (and1 _ _ h)⟩
theorem smnegl (rm rn rd : Reg) : Statement (.smnegl rm rn rd) := by
  refine ⟨rfl, ?_, fun _ => rfl⟩
  have h : 0x9B20FC00#32 = 0x9B208000#32 ||| put 10 31#5 := by decide
  change 0x9B208000#32 ||| put 16 rm ||| put 10 31#5 ||| put 5 rn ||| put 0 rd =
      0x9B20FC00#32 ||| put 16 rm ||| put 5 rn ||| put 0 rd
  rw [h]
  exact move_vkvv ..
theorem smull (rm rn rd : Reg) : Statement (.smull rm rn rd) := by
  refine ⟨rfl, ?_, fun _ => rfl⟩
  have h : 0x9B207C00#32 = 0x9B200000#32 ||| put 10 31#5 := by decide
  change 0x9B200000#32 ||| put 16 rm ||| put 10 31#5 ||| put 5 rn ||| put 0 rd =
      0x9B207C00#32 ||| put 16 rm ||| put 5 rn ||| put 0 rd
  rw [h]
  exact move_vkvv ..
theorem staddb (r : BitVec 1) (rs rn : Reg) : Statement (.staddb r rs rn) := by
  refine ⟨rfl, ?_, fun _ => rfl⟩
  have h : 0x3820001F#32 = 0x38200000#32 ||| put 23 0#1 ||| put 0 31#5 := by decide
  change 0x38200000#32 ||| put 23 0#1 ||| put 22 r ||| put 16 rs ||| put 5 rn ||| put 0 31#5 =
      0x3820001F#32 ||| put 22 r ||| put 16 rs ||| put 5 rn
  rw [h]
  exact move_kvvvk ..
theorem staddh (r : BitVec 1) (rs rn : Reg) : Statement (.staddh r rs rn) := by
  refine ⟨rfl, ?_, fun _ => rfl⟩
  have h : 0x7820001F#32 = 0x78200000#32 ||| put 23 0#1 ||| put 0 31#5 := by decide
  change 0x78200000#32 ||| put 23 0#1 ||| put 22 r ||| put 16 rs ||| put 5 rn ||| put 0 31#5 =
      0x7820001F#32 ||| put 22 r ||| put 16 rs ||| put 5 rn
  rw [h]
  exact move_kvvvk ..
theorem stadd (size0 r : BitVec 1) (rs rn : Reg) : Statement (.stadd size0 r rs rn) := by
  refine ⟨rfl, ?_, fun _ => rfl⟩
  have h : 0xB820001F#32 = 0xB8200000#32 ||| put 23 0#1 ||| put 0 31#5 := by decide
  change 0xB8200000#32 ||| put 30 size0 ||| put 23 0#1 ||| put 22 r ||| put 16 rs ||| put 5 rn |||
      put 0 31#5 = 0xB820001F#32 ||| put 30 size0 ||| put 22 r ||| put 16 rs ||| put 5 rn
  rw [h]
  exact move_vkvvvk ..
theorem stclrb (r : BitVec 1) (rs rn : Reg) : Statement (.stclrb r rs rn) := by
  refine ⟨rfl, ?_, fun _ => rfl⟩
  have h : 0x3820101F#32 = 0x38201000#32 ||| put 23 0#1 ||| put 0 31#5 := by decide
  change 0x38201000#32 ||| put 23 0#1 ||| put 22 r ||| put 16 rs ||| put 5 rn ||| put 0 31#5 =
      0x3820101F#32 ||| put 22 r ||| put 16 rs ||| put 5 rn
  rw [h]
  exact move_kvvvk ..
theorem stclrh (r : BitVec 1) (rs rn : Reg) : Statement (.stclrh r rs rn) := by
  refine ⟨rfl, ?_, fun _ => rfl⟩
  have h : 0x7820101F#32 = 0x78201000#32 ||| put 23 0#1 ||| put 0 31#5 := by decide
  change 0x78201000#32 ||| put 23 0#1 ||| put 22 r ||| put 16 rs ||| put 5 rn ||| put 0 31#5 =
      0x7820101F#32 ||| put 22 r ||| put 16 rs ||| put 5 rn
  rw [h]
  exact move_kvvvk ..
theorem stclr (size0 r : BitVec 1) (rs rn : Reg) : Statement (.stclr size0 r rs rn) := by
  refine ⟨rfl, ?_, fun _ => rfl⟩
  have h : 0xB820101F#32 = 0xB8201000#32 ||| put 23 0#1 ||| put 0 31#5 := by decide
  change 0xB8201000#32 ||| put 30 size0 ||| put 23 0#1 ||| put 22 r ||| put 16 rs ||| put 5 rn |||
      put 0 31#5 = 0xB820101F#32 ||| put 30 size0 ||| put 22 r ||| put 16 rs ||| put 5 rn
  rw [h]
  exact move_vkvvvk ..
theorem steorb (r : BitVec 1) (rs rn : Reg) : Statement (.steorb r rs rn) := by
  refine ⟨rfl, ?_, fun _ => rfl⟩
  have h : 0x3820201F#32 = 0x38202000#32 ||| put 23 0#1 ||| put 0 31#5 := by decide
  change 0x38202000#32 ||| put 23 0#1 ||| put 22 r ||| put 16 rs ||| put 5 rn ||| put 0 31#5 =
      0x3820201F#32 ||| put 22 r ||| put 16 rs ||| put 5 rn
  rw [h]
  exact move_kvvvk ..
theorem steorh (r : BitVec 1) (rs rn : Reg) : Statement (.steorh r rs rn) := by
  refine ⟨rfl, ?_, fun _ => rfl⟩
  have h : 0x7820201F#32 = 0x78202000#32 ||| put 23 0#1 ||| put 0 31#5 := by decide
  change 0x78202000#32 ||| put 23 0#1 ||| put 22 r ||| put 16 rs ||| put 5 rn ||| put 0 31#5 =
      0x7820201F#32 ||| put 22 r ||| put 16 rs ||| put 5 rn
  rw [h]
  exact move_kvvvk ..
theorem steor (size0 r : BitVec 1) (rs rn : Reg) : Statement (.steor size0 r rs rn) := by
  refine ⟨rfl, ?_, fun _ => rfl⟩
  have h : 0xB820201F#32 = 0xB8202000#32 ||| put 23 0#1 ||| put 0 31#5 := by decide
  change 0xB8202000#32 ||| put 30 size0 ||| put 23 0#1 ||| put 22 r ||| put 16 rs ||| put 5 rn |||
      put 0 31#5 = 0xB820201F#32 ||| put 30 size0 ||| put 22 r ||| put 16 rs ||| put 5 rn
  rw [h]
  exact move_vkvvvk ..
theorem stsetb (r : BitVec 1) (rs rn : Reg) : Statement (.stsetb r rs rn) := by
  refine ⟨rfl, ?_, fun _ => rfl⟩
  have h : 0x3820301F#32 = 0x38203000#32 ||| put 23 0#1 ||| put 0 31#5 := by decide
  change 0x38203000#32 ||| put 23 0#1 ||| put 22 r ||| put 16 rs ||| put 5 rn ||| put 0 31#5 =
      0x3820301F#32 ||| put 22 r ||| put 16 rs ||| put 5 rn
  rw [h]
  exact move_kvvvk ..
theorem stseth (r : BitVec 1) (rs rn : Reg) : Statement (.stseth r rs rn) := by
  refine ⟨rfl, ?_, fun _ => rfl⟩
  have h : 0x7820301F#32 = 0x78203000#32 ||| put 23 0#1 ||| put 0 31#5 := by decide
  change 0x78203000#32 ||| put 23 0#1 ||| put 22 r ||| put 16 rs ||| put 5 rn ||| put 0 31#5 =
      0x7820301F#32 ||| put 22 r ||| put 16 rs ||| put 5 rn
  rw [h]
  exact move_kvvvk ..
theorem stset (size0 r : BitVec 1) (rs rn : Reg) : Statement (.stset size0 r rs rn) := by
  refine ⟨rfl, ?_, fun _ => rfl⟩
  have h : 0xB820301F#32 = 0xB8203000#32 ||| put 23 0#1 ||| put 0 31#5 := by decide
  change 0xB8203000#32 ||| put 30 size0 ||| put 23 0#1 ||| put 22 r ||| put 16 rs ||| put 5 rn |||
      put 0 31#5 = 0xB820301F#32 ||| put 30 size0 ||| put 22 r ||| put 16 rs ||| put 5 rn
  rw [h]
  exact move_vkvvvk ..
theorem stsmaxb (r : BitVec 1) (rs rn : Reg) : Statement (.stsmaxb r rs rn) := by
  refine ⟨rfl, ?_, fun _ => rfl⟩
  have h : 0x3820401F#32 = 0x38204000#32 ||| put 23 0#1 ||| put 0 31#5 := by decide
  change 0x38204000#32 ||| put 23 0#1 ||| put 22 r ||| put 16 rs ||| put 5 rn ||| put 0 31#5 =
      0x3820401F#32 ||| put 22 r ||| put 16 rs ||| put 5 rn
  rw [h]
  exact move_kvvvk ..
theorem stsmaxh (r : BitVec 1) (rs rn : Reg) : Statement (.stsmaxh r rs rn) := by
  refine ⟨rfl, ?_, fun _ => rfl⟩
  have h : 0x7820401F#32 = 0x78204000#32 ||| put 23 0#1 ||| put 0 31#5 := by decide
  change 0x78204000#32 ||| put 23 0#1 ||| put 22 r ||| put 16 rs ||| put 5 rn ||| put 0 31#5 =
      0x7820401F#32 ||| put 22 r ||| put 16 rs ||| put 5 rn
  rw [h]
  exact move_kvvvk ..
theorem stsmax (size0 r : BitVec 1) (rs rn : Reg) : Statement (.stsmax size0 r rs rn) := by
  refine ⟨rfl, ?_, fun _ => rfl⟩
  have h : 0xB820401F#32 = 0xB8204000#32 ||| put 23 0#1 ||| put 0 31#5 := by decide
  change 0xB8204000#32 ||| put 30 size0 ||| put 23 0#1 ||| put 22 r ||| put 16 rs ||| put 5 rn |||
      put 0 31#5 = 0xB820401F#32 ||| put 30 size0 ||| put 22 r ||| put 16 rs ||| put 5 rn
  rw [h]
  exact move_vkvvvk ..
theorem stsminb (r : BitVec 1) (rs rn : Reg) : Statement (.stsminb r rs rn) := by
  refine ⟨rfl, ?_, fun _ => rfl⟩
  have h : 0x3820501F#32 = 0x38205000#32 ||| put 23 0#1 ||| put 0 31#5 := by decide
  change 0x38205000#32 ||| put 23 0#1 ||| put 22 r ||| put 16 rs ||| put 5 rn ||| put 0 31#5 =
      0x3820501F#32 ||| put 22 r ||| put 16 rs ||| put 5 rn
  rw [h]
  exact move_kvvvk ..
theorem stsminh (r : BitVec 1) (rs rn : Reg) : Statement (.stsminh r rs rn) := by
  refine ⟨rfl, ?_, fun _ => rfl⟩
  have h : 0x7820501F#32 = 0x78205000#32 ||| put 23 0#1 ||| put 0 31#5 := by decide
  change 0x78205000#32 ||| put 23 0#1 ||| put 22 r ||| put 16 rs ||| put 5 rn ||| put 0 31#5 =
      0x7820501F#32 ||| put 22 r ||| put 16 rs ||| put 5 rn
  rw [h]
  exact move_kvvvk ..
theorem stsmin (size0 r : BitVec 1) (rs rn : Reg) : Statement (.stsmin size0 r rs rn) := by
  refine ⟨rfl, ?_, fun _ => rfl⟩
  have h : 0xB820501F#32 = 0xB8205000#32 ||| put 23 0#1 ||| put 0 31#5 := by decide
  change 0xB8205000#32 ||| put 30 size0 ||| put 23 0#1 ||| put 22 r ||| put 16 rs ||| put 5 rn |||
      put 0 31#5 = 0xB820501F#32 ||| put 30 size0 ||| put 22 r ||| put 16 rs ||| put 5 rn
  rw [h]
  exact move_vkvvvk ..
theorem stumaxb (r : BitVec 1) (rs rn : Reg) : Statement (.stumaxb r rs rn) := by
  refine ⟨rfl, ?_, fun _ => rfl⟩
  have h : 0x3820601F#32 = 0x38206000#32 ||| put 23 0#1 ||| put 0 31#5 := by decide
  change 0x38206000#32 ||| put 23 0#1 ||| put 22 r ||| put 16 rs ||| put 5 rn ||| put 0 31#5 =
      0x3820601F#32 ||| put 22 r ||| put 16 rs ||| put 5 rn
  rw [h]
  exact move_kvvvk ..
theorem stumaxh (r : BitVec 1) (rs rn : Reg) : Statement (.stumaxh r rs rn) := by
  refine ⟨rfl, ?_, fun _ => rfl⟩
  have h : 0x7820601F#32 = 0x78206000#32 ||| put 23 0#1 ||| put 0 31#5 := by decide
  change 0x78206000#32 ||| put 23 0#1 ||| put 22 r ||| put 16 rs ||| put 5 rn ||| put 0 31#5 =
      0x7820601F#32 ||| put 22 r ||| put 16 rs ||| put 5 rn
  rw [h]
  exact move_kvvvk ..
theorem stumax (size0 r : BitVec 1) (rs rn : Reg) : Statement (.stumax size0 r rs rn) := by
  refine ⟨rfl, ?_, fun _ => rfl⟩
  have h : 0xB820601F#32 = 0xB8206000#32 ||| put 23 0#1 ||| put 0 31#5 := by decide
  change 0xB8206000#32 ||| put 30 size0 ||| put 23 0#1 ||| put 22 r ||| put 16 rs ||| put 5 rn |||
      put 0 31#5 = 0xB820601F#32 ||| put 30 size0 ||| put 22 r ||| put 16 rs ||| put 5 rn
  rw [h]
  exact move_vkvvvk ..
theorem stuminb (r : BitVec 1) (rs rn : Reg) : Statement (.stuminb r rs rn) := by
  refine ⟨rfl, ?_, fun _ => rfl⟩
  have h : 0x3820701F#32 = 0x38207000#32 ||| put 23 0#1 ||| put 0 31#5 := by decide
  change 0x38207000#32 ||| put 23 0#1 ||| put 22 r ||| put 16 rs ||| put 5 rn ||| put 0 31#5 =
      0x3820701F#32 ||| put 22 r ||| put 16 rs ||| put 5 rn
  rw [h]
  exact move_kvvvk ..
theorem stuminh (r : BitVec 1) (rs rn : Reg) : Statement (.stuminh r rs rn) := by
  refine ⟨rfl, ?_, fun _ => rfl⟩
  have h : 0x7820701F#32 = 0x78207000#32 ||| put 23 0#1 ||| put 0 31#5 := by decide
  change 0x78207000#32 ||| put 23 0#1 ||| put 22 r ||| put 16 rs ||| put 5 rn ||| put 0 31#5 =
      0x7820701F#32 ||| put 22 r ||| put 16 rs ||| put 5 rn
  rw [h]
  exact move_kvvvk ..
theorem stumin (size0 r : BitVec 1) (rs rn : Reg) : Statement (.stumin size0 r rs rn) := by
  refine ⟨rfl, ?_, fun _ => rfl⟩
  have h : 0xB820701F#32 = 0xB8207000#32 ||| put 23 0#1 ||| put 0 31#5 := by decide
  change 0xB8207000#32 ||| put 30 size0 ||| put 23 0#1 ||| put 22 r ||| put 16 rs ||| put 5 rn |||
      put 0 31#5 = 0xB820701F#32 ||| put 30 size0 ||| put 22 r ||| put 16 rs ||| put 5 rn
  rw [h]
  exact move_vkvvvk ..
theorem sxtb (sf n : BitVec 1) (rn rd : Reg) : Statement (.sxtb sf n rn rd) := by
  refine ⟨rfl, ?_, id⟩
  have h : 0x13001C00#32 = 0x13000000#32 ||| put 16 0#6 ||| put 10 7#6 := by decide
  change 0x13000000#32 ||| put 31 sf ||| put 22 n ||| put 16 0#6 ||| put 10 7#6 ||| put 5 rn |||
      put 0 rd = 0x13001C00#32 ||| put 31 sf ||| put 22 n ||| put 5 rn ||| put 0 rd
  rw [h]
  exact move_vvkkvv ..
theorem sxth (sf n : BitVec 1) (rn rd : Reg) : Statement (.sxth sf n rn rd) := by
  refine ⟨rfl, ?_, id⟩
  have h : 0x13003C00#32 = 0x13000000#32 ||| put 16 0#6 ||| put 10 15#6 := by decide
  change 0x13000000#32 ||| put 31 sf ||| put 22 n ||| put 16 0#6 ||| put 10 15#6 ||| put 5 rn |||
      put 0 rd = 0x13003C00#32 ||| put 31 sf ||| put 22 n ||| put 5 rn ||| put 0 rd
  rw [h]
  exact move_vvkkvv ..
theorem sxtw (rn rd : Reg) : Statement (.sxtw rn rd) := by
  refine ⟨rfl, ?_, fun _ => rfl⟩
  have h : 0x93407C00#32 = 0x13000000#32 ||| put 31 1#1 ||| put 22 1#1 ||| put 16 0#6 ||| put 10 31#6 := by decide
  change 0x13000000#32 ||| put 31 1#1 ||| put 22 1#1 ||| put 16 0#6 ||| put 10 31#6 ||| put 5 rn |||
      put 0 rd = 0x93407C00#32 ||| put 5 rn ||| put 0 rd
  rw [h]
theorem sysTlbi (op1 : BitVec 3) (crm : BitVec 4) (op2 : BitVec 3) (rt : Reg) :
    Statement (.sysTlbi op1 crm op2 rt) := by
  refine ⟨rfl, ?_, fun _ => rfl⟩
  have h : 0xD5088000#32 = 0xD5080000#32 ||| put 12 8#4 := by decide
  change 0xD5080000#32 ||| put 16 op1 ||| put 12 8#4 ||| put 8 crm ||| put 5 op2 ||| put 0 rt =
      0xD5088000#32 ||| put 16 op1 ||| put 8 crm ||| put 5 op2 ||| put 0 rt
  rw [h]
  exact move_vkvvv ..
theorem tstImmediate (sf n : BitVec 1) (immr imms : BitVec 6) (rn : Reg) :
    Statement (.tstImmediate sf n immr imms rn) := by
  refine ⟨rfl, ?_, id⟩
  have h : 0x7200001F#32 = 0x72000000#32 ||| put 0 31#5 := by decide
  change 0x72000000#32 ||| put 31 sf ||| put 22 n ||| put 16 immr ||| put 10 imms ||| put 5 rn |||
      put 0 31#5 = 0x7200001F#32 ||| put 31 sf ||| put 22 n ||| put 16 immr ||| put 10 imms ||| put 5 rn
  rw [h]
  exact move_vvvvvk ..
theorem tstShiftedRegister (sf : BitVec 1) (shift : BitVec 2) (rm : Reg) (imm6 : BitVec 6) (rn : Reg) :
    Statement (.tstShiftedRegister sf shift rm imm6 rn) := by
  refine ⟨rfl, ?_, id⟩
  have h : 0x6A00001F#32 = 0x6A000000#32 ||| put 0 31#5 := by decide
  change 0x6A000000#32 ||| put 31 sf ||| put 22 shift ||| put 16 rm ||| put 10 imm6 ||| put 5 rn |||
      put 0 31#5 = 0x6A00001F#32 ||| put 31 sf ||| put 22 shift ||| put 16 rm ||| put 10 imm6 ||| put 5 rn
  rw [h]
  exact move_vvvvvk ..
theorem ubfiz (sf n : BitVec 1) (immr imms : BitVec 6) (rn rd : Reg) : Statement (.ubfiz sf n immr imms rn rd) :=
  ⟨rfl, rfl, fun h => (and1 _ _ h)⟩
theorem ubfx (sf n : BitVec 1) (immr imms : BitVec 6) (rn rd : Reg) : Statement (.ubfx sf n immr imms rn rd) :=
  ⟨rfl, rfl, fun h => (and1 _ _ h)⟩
theorem umnegl (rm rn rd : Reg) : Statement (.umnegl rm rn rd) := by
  refine ⟨rfl, ?_, fun _ => rfl⟩
  have h : 0x9BA0FC00#32 = 0x9BA08000#32 ||| put 10 31#5 := by decide
  change 0x9BA08000#32 ||| put 16 rm ||| put 10 31#5 ||| put 5 rn ||| put 0 rd =
      0x9BA0FC00#32 ||| put 16 rm ||| put 5 rn ||| put 0 rd
  rw [h]
  exact move_vkvv ..
theorem umull (rm rn rd : Reg) : Statement (.umull rm rn rd) := by
  refine ⟨rfl, ?_, fun _ => rfl⟩
  have h : 0x9BA07C00#32 = 0x9BA00000#32 ||| put 10 31#5 := by decide
  change 0x9BA00000#32 ||| put 16 rm ||| put 10 31#5 ||| put 5 rn ||| put 0 rd =
      0x9BA07C00#32 ||| put 16 rm ||| put 5 rn ||| put 0 rd
  rw [h]
  exact move_vkvv ..
theorem uxtb (rn rd : Reg) : Statement (.uxtb rn rd) := by
  refine ⟨rfl, ?_, fun _ => rfl⟩
  have h : 0x53001C00#32 = 0x53000000#32 ||| put 31 0#1 ||| put 22 0#1 ||| put 16 0#6 ||| put 10 7#6 := by decide
  change 0x53000000#32 ||| put 31 0#1 ||| put 22 0#1 ||| put 16 0#6 ||| put 10 7#6 ||| put 5 rn |||
      put 0 rd = 0x53001C00#32 ||| put 5 rn ||| put 0 rd
  rw [h]
theorem uxth (rn rd : Reg) : Statement (.uxth rn rd) := by
  refine ⟨rfl, ?_, fun _ => rfl⟩
  have h : 0x53003C00#32 = 0x53000000#32 ||| put 31 0#1 ||| put 22 0#1 ||| put 16 0#6 ||| put 10 15#6 := by decide
  change 0x53000000#32 ||| put 31 0#1 ||| put 22 0#1 ||| put 16 0#6 ||| put 10 15#6 ||| put 5 rn |||
      put 0 rd = 0x53003C00#32 ||| put 5 rn ||| put 0 rd
  rw [h]

end Sys2Proof.Laws.Encodes
end

