-- ==== Sys2Proof/Laws/Step.lean ====
section
/-! SUPPORT. All that a step can do. -/

namespace Sys2Proof.Machine

/-- A WFI with an interrupt pending only moves the pc (49 R715): `completeWait` is that effect. -/
theorem execWfi_of_pending {s : State} (h : s.interruptPending = true) : execWfi s = .next s.advance := by
  simp [execWfi, waitForInterrupt, h, finish]

/-! After an exception entry, an ERET, or a WFI that completed first, a due interrupt comes before any instruction
(49 R715; 60 R822, R840). -/

@[simp] theorem State.takeException_interruptFirst (s : State) (target : EL) (esr : Option DWord) (far : FarEffect)
    (ret : Addr) (vect : BitVec 11) : (s.takeException target esr far ret vect).interruptFirst = true := rfl
@[simp] theorem State.takeSync_interruptFirst (s : State) (e : Exc) : (s.takeSync e).interruptFirst = true := rfl
@[simp] theorem State.takeInterrupt_interruptFirst (s : State) (k : Interrupt) (ret : Addr) :
    (s.takeInterrupt k ret).interruptFirst = true := rfl
@[simp] theorem State.exceptionReturn_interruptFirst (s : State) (target : Addr) (spsr : DWord) :
    (s.exceptionReturn target spsr).interruptFirst = true := rfl
/-- What a due interrupt leaves: the next one that is due comes first. -/
@[simp] theorem State.interrupted_interruptFirst (s : State) (k : Interrupt) : (s.interrupted k).interruptFirst = true := by
  unfold State.interrupted
  split <;> rfl

/-- What a due interrupt can do to a state: a WFI at the pc completes, or the interrupt is taken. -/
theorem State.interrupted_cases (s : State) (k : Interrupt) :
    (s.waitCompletesFirst = true ∧ s.interrupted k = s.completeWait) ∨
    (s.waitCompletesFirst = false ∧ s.interrupted k = s.takeInterrupt k s.pc) := by
  unfold State.interrupted
  cases s.waitCompletesFirst <;> simp

/-- When a WFI completes before a due interrupt: it is what the fetch gives, and the last step does not forbid it. -/
theorem State.waitCompletesFirst_iff (s : State) :
    s.waitCompletesFirst = true ↔ s.interruptFirst = false ∧ s.fetch = .ok .wfi := by
  unfold State.waitCompletesFirst
  split <;> simp_all

/-- All that a step with a next state can do, after the environment has acted: give a due interrupt its turn, take the
exception of a failed fetch, or run the fetched instruction. -/
theorem step_cases {s t : State} (h : step s = .next t) : s.halted = false ∧
    ((∃ k, s.environment.nextInterrupt = some k ∧ t = s.environment.interrupted k) ∨
     (s.environment.nextInterrupt = none ∧
      ((∃ e, s.environment.startStep.fetch = .error e ∧ t = s.environment.startStep.raised e) ∨
       ∃ i, s.environment.startStep.fetch = .ok i ∧ exec i s.environment.startStep = .next t))) := by
  unfold step at h
  split at h
  · cases h
  · refine ⟨by simp_all, ?_⟩
    split at h
    · exact .inl ⟨_, ‹_›, (Host.Outcome.next.inj h).symm⟩
    · refine .inr ⟨‹_›, ?_⟩
      unfold State.runInstruction at h
      split at h
      · exact .inl ⟨_, ‹_›, (Host.Outcome.next.inj h).symm⟩
      · exact .inr ⟨_, ‹_›, h⟩

end Sys2Proof.Machine
end

