-- ==== Sys2Proof/Tests/Slice0.lean ====
section
/-! SUPPORT. Tests, each by evaluation: the static checks, the decoding of one word of every row of the opcode table, one step
of instructions on the vectors of 95_test_vectors.md, and a witness for the hypotheses of every statement that has any. -/

namespace Sys2Proof.Tests

open Sys2Proof.Machine Sys2Proof.Forms

-- Many small theorems at once otherwise exceed the limit on threads.
set_option Elab.async false
-- The condition that an access is allowed needs more than the default size of an instance.
set_option synthInstance.maxSize 10000

/-! ## Static checks -/

/-- One ill-formed term for each check (30 R150 to R152), in the order of the checks. -/
theorem test_ill_formed : ∀ i ∈
    [ Instr.addExtendedRegister 1#1 0#5 3#3 5#3 0#5 0#5, .addImmediate 1#1 2#2 0#12 0#5 0#5,
      .andShiftedRegister 0#1 0#2 0#5 32#6 0#5 0#5, .addShiftedRegister 1#1 3#2 0#5 0#6 0#5 0#5,
      .addShiftedRegister 0#1 0#2 0#5 32#6 0#5 0#5, .andImmediate 0#1 1#1 0#6 0#6 0#5 0#5,
      .andImmediate 1#1 1#1 0#6 63#6 0#5 0#5, .andImmediate 1#1 0#1 0#6 0b011111#6 0#5 0#5,
      .andImmediate 1#1 0#1 0#6 0b101111#6 0#5 0#5, .andImmediate 1#1 0#1 0#6 0b110111#6 0#5 0#5,
      .andImmediate 1#1 0#1 0#6 0b111011#6 0#5 0#5, .andImmediate 1#1 0#1 0#6 0b111101#6 0#5 0#5,
      .andImmediate 1#1 0#1 0#6 0b111110#6 0#5 0#5, .ubfm 1#1 0#1 0#6 0#6 0#5 0#5, .sbfm 0#1 0#1 32#6 0#6 0#5 0#5,
      .bfm 0#1 0#1 0#6 32#6 0#5 0#5, .extr 1#1 0#1 0#5 0#6 0#5 0#5, .extr 0#1 0#1 0#5 32#6 0#5 0#5 ] ++
    [ .casp 1#1 0#1 1#5 0#1 0#5 0#5, .casp 1#1 0#1 0#5 0#1 0#5 1#5, .crc32 0#1 0#5 3#2 0#5 0#5,
      .crc32c 1#1 0#5 2#2 0#5 0#5, .movz 0#1 2#2 0#16 0#5, .ldrRegister 1#1 0#5 1#3 0#1 0#5 0#5,
      .prfmRegister 0#5 4#3 0#1 0#5 0#5, .msrImmediate 0#3 0#4 0#3, .msrImmediate 3#3 0#4 5#3, .hint 0#4 5#3,
      .hint 2#4 0#3, .hint 2#4 1#3 ], i.wellFormed = false := by decide +kernel

/-- One ill-formed term for each condition of an alias (30 R196). -/
theorem test_ill_formed_aliases : ∀ i ∈
    [ Instr.asrImmediate 1#1 1#1 0#6 0#1 0#5 0#5, .bfc 1#1 1#1 3#6 3#6 0#5, .bfi 1#1 1#1 4#6 3#6 31#5 0#5,
      .bfi 1#1 1#1 3#6 3#6 0#5 0#5, .bfxil 1#1 1#1 4#6 3#6 0#5 0#5, .cinc 1#1 31#5 0#4 31#5 0#5,
      .cinc 1#1 1#5 14#4 1#5 0#5, .cinv 1#1 1#5 0#4 2#5 0#5, .cneg 1#1 1#5 15#4 1#5 0#5, .cset 1#1 14#4 0#5,
      .csetm 1#1 15#4 0#5, .lslImmediate 1#1 1#1 0#6 63#6 0#5 0#5, .lslImmediate 1#1 1#1 4#6 4#6 0#5 0#5,
      .lsrImmediate 0#1 0#1 0#6 1#1 0#5 0#5, .movToFromSP 1#1 0#5 0#5, .movInvertedWideImmediate 1#1 1#2 0#16 0#5,
      .movInvertedWideImmediate 0#1 0#2 0xFFFF#16 0#5, .movWideImmediate 1#1 1#2 0#16 0#5,
      .movBitmaskImmediate 1#1 1#1 0#6 0#6 0#5, .negs 1#1 0#2 0#5 0#6 31#5, .rorImmediate 1#1 1#1 0#5 0#6 1#5 0#5 ] ++
    [ .sbfiz 1#1 1#1 3#6 3#6 0#5 0#5, .sbfx 1#1 1#1 0#6 7#6 0#5 0#5, .sbfx 1#1 1#1 0#6 63#6 0#5 0#5,
      .ubfx 0#1 0#1 0#6 15#6 0#5 0#5, .ubfiz 1#1 1#1 3#6 3#6 0#5 0#5, .sxtb 1#1 0#1 0#5 0#5, .sysAt 0#3 1#1 2#3 0#5,
      .sysDc 0#3 4#4 1#3 0#5, .sysIc 0#3 1#4 1#3 0#5, .sysTlbi 0#3 3#4 4#3 0#5 ], i.wellFormed = false := by decide +kernel

/-- The operations that the aliases of SYS name are those of the tables (49 R744 to R747), as many as the spec counts. -/
theorem test_at_aliases :
    (∀ row ∈ atTable, WellFormed.isAt (row.1.extractLsb' 11 3) (row.1.extractLsb' 3 1) (row.1.extractLsb' 0 3) = true) ∧
      atTable.length = 14 := by
  simp only [atTable, List.forall_mem_cons]; decide
theorem test_dc_aliases :
    (∀ row ∈ dcTable, WellFormed.isDc (row.1.extractLsb' 11 3) (row.1.extractLsb' 3 4) (row.1.extractLsb' 0 3) = true) ∧
      dcTable.length = 9 := by
  simp only [dcTable, List.forall_mem_cons]; decide
theorem test_ic_aliases :
    (∀ row ∈ icTable, WellFormed.isIc (row.1.extractLsb' 11 3) (row.1.extractLsb' 3 4) (row.1.extractLsb' 0 3) = true) ∧
      icTable.length = 3 := by
  simp only [icTable, List.forall_mem_cons]; decide
theorem test_tlbi_aliases :
    (∀ k ∈ tlbiKeys, WellFormed.isTlbi (k.extractLsb' 11 3) (k.extractLsb' 3 4) (k.extractLsb' 0 3) = true) ∧
      tlbiKeys.length = 32 := by
  simp only [tlbiKeys, List.forall_mem_cons]; decide

/-! ## Decoding: for every row of the opcode table a word written out from its pattern, field by field -/

/-- Each word is the encoding of its instruction and decodes to the base instruction of it. -/
abbrev ReadsAll (l : List (Word × Instr)) : Prop :=
  ∀ p ∈ l, p.2.wellFormed = true ∧ encode p.2 = p.1 ∧ decode p.1 = .ok p.2.core

theorem test_decode_addsub_carry : ReadsAll
    [ (0b1_0_0_11010000_00011_000000_00010_00001#32, .adc 1#1 3#5 2#5 1#5),
      (0b1_0_1_11010000_00011_000000_00010_00001#32, .adcs 1#1 3#5 2#5 1#5),
      (0b1_1_0_11010000_00011_000000_11111_00001#32, .ngc 1#1 3#5 1#5),
      (0b1_1_1_11010000_00011_000000_11111_00001#32, .ngcs 1#1 3#5 1#5),
      (0b1_1_0_11010000_00011_000000_00010_00001#32, .sbc 1#1 3#5 2#5 1#5),
      (0b1_1_1_11010000_00011_000000_00010_00001#32, .sbcs 1#1 3#5 2#5 1#5) ] := by decide +kernel

theorem test_decode_addsub_ext : ReadsAll
    [ (0b1_0_0_01011_00_1_00011_011_010_00010_00001#32, .addExtendedRegister 1#1 3#5 3#3 2#3 2#5 1#5),
      (0b1_0_1_01011_00_1_00011_011_010_00010_00001#32, .addsExtendedRegister 1#1 3#5 3#3 2#3 2#5 1#5),
      (0b1_0_1_01011_00_1_00011_011_010_00010_11111#32, .cmnExtendedRegister 1#1 3#5 3#3 2#3 2#5),
      (0b1_1_1_01011_00_1_00011_011_010_00010_11111#32, .cmpExtendedRegister 1#1 3#5 3#3 2#3 2#5),
      (0b1_1_0_01011_00_1_00011_011_010_00010_00001#32, .subExtendedRegister 1#1 3#5 3#3 2#3 2#5 1#5),
      (0b1_1_1_01011_00_1_00011_011_010_00010_00001#32, .subsExtendedRegister 1#1 3#5 3#3 2#3 2#5 1#5) ] := by decide +kernel

theorem test_decode_addsub_imm : ReadsAll
    [ (0b1_0_0_10001_01_100100100011_00010_00001#32, .addImmediate 1#1 1#2 2339#12 2#5 1#5),
      (0b1_0_1_10001_01_100100100011_00010_00001#32, .addsImmediate 1#1 1#2 2339#12 2#5 1#5),
      (0b1_0_1_10001_01_100100100011_00010_11111#32, .cmnImmediate 1#1 1#2 2339#12 2#5),
      (0b1_1_1_10001_01_100100100011_00010_11111#32, .cmpImmediate 1#1 1#2 2339#12 2#5),
      (0b1_0_0_10001_00_000000000000_11111_00001#32, .movToFromSP 1#1 31#5 1#5),
      (0b1_1_0_10001_01_100100100011_00010_00001#32, .subImmediate 1#1 1#2 2339#12 2#5 1#5),
      (0b1_1_1_10001_01_100100100011_00010_00001#32, .subsImmediate 1#1 1#2 2339#12 2#5 1#5) ] := by decide +kernel

theorem test_decode_addsub_shift : ReadsAll
    [ (0b1_0_0_01011_01_0_00011_010101_00010_00001#32, .addShiftedRegister 1#1 1#2 3#5 21#6 2#5 1#5),
      (0b1_0_1_01011_01_0_00011_010101_00010_00001#32, .addsShiftedRegister 1#1 1#2 3#5 21#6 2#5 1#5),
      (0b1_0_1_01011_01_0_00011_010101_00010_11111#32, .cmnShiftedRegister 1#1 1#2 3#5 21#6 2#5),
      (0b1_1_1_01011_01_0_00011_010101_00010_11111#32, .cmpShiftedRegister 1#1 1#2 3#5 21#6 2#5),
      (0b1_1_0_01011_01_0_00011_010101_11111_00001#32, .negShiftedRegister 1#1 1#2 3#5 21#6 1#5),
      (0b1_1_1_01011_01_0_00011_010101_11111_00001#32, .negs 1#1 1#2 3#5 21#6 1#5),
      (0b1_1_0_01011_01_0_00011_010101_00010_00001#32, .subShiftedRegister 1#1 1#2 3#5 21#6 2#5 1#5),
      (0b1_1_1_01011_01_0_00011_010101_00010_00001#32, .subsShiftedRegister 1#1 1#2 3#5 21#6 2#5 1#5) ] := by decide +kernel

theorem test_decode_pcrel : ReadsAll
    [ (0b0_10_10000_1010001001000110100_00001#32, .adr 2#2 332340#19 1#5),
      (0b1_10_10000_1010001001000110100_00001#32, .adrp 2#2 332340#19 1#5) ] := by decide +kernel

theorem test_decode_logical_imm : ReadsAll
    [ (0b1_00_100100_1_000100_001011_00010_00001#32, .andImmediate 1#1 1#1 4#6 11#6 2#5 1#5),
      (0b1_11_100100_1_000100_001011_00010_00001#32, .andsImmediate 1#1 1#1 4#6 11#6 2#5 1#5),
      (0b1_10_100100_1_000100_001011_00010_00001#32, .eorImmediate 1#1 1#1 4#6 11#6 2#5 1#5),
      (0b1_01_100100_1_000100_011111_11111_00001#32, .movBitmaskImmediate 1#1 1#1 4#6 31#6 1#5),
      (0b1_01_100100_1_000100_001011_00010_00001#32, .orrImmediate 1#1 1#1 4#6 11#6 2#5 1#5),
      (0b1_11_100100_1_000100_001011_00010_11111#32, .tstImmediate 1#1 1#1 4#6 11#6 2#5) ] := by decide +kernel

theorem test_decode_logical_shift : ReadsAll
    [ (0b1_00_01010_01_0_00011_010101_00010_00001#32, .andShiftedRegister 1#1 1#2 3#5 21#6 2#5 1#5),
      (0b1_11_01010_01_0_00011_010101_00010_00001#32, .andsShiftedRegister 1#1 1#2 3#5 21#6 2#5 1#5),
      (0b1_00_01010_01_1_00011_010101_00010_00001#32, .bicShiftedRegister 1#1 1#2 3#5 21#6 2#5 1#5),
      (0b1_11_01010_01_1_00011_010101_00010_00001#32, .bicsShiftedRegister 1#1 1#2 3#5 21#6 2#5 1#5),
      (0b1_10_01010_01_1_00011_010101_00010_00001#32, .eonShiftedRegister 1#1 1#2 3#5 21#6 2#5 1#5),
      (0b1_10_01010_01_0_00011_010101_00010_00001#32, .eorShiftedRegister 1#1 1#2 3#5 21#6 2#5 1#5),
      (0b1_01_01010_00_0_00011_000000_11111_00001#32, .movRegister 1#1 3#5 1#5),
      (0b1_01_01010_01_1_00011_010101_11111_00001#32, .mvn 1#1 1#2 3#5 21#6 1#5),
      (0b1_01_01010_01_1_00011_010101_00010_00001#32, .ornShiftedRegister 1#1 1#2 3#5 21#6 2#5 1#5),
      (0b1_01_01010_01_0_00011_010101_00010_00001#32, .orrShiftedRegister 1#1 1#2 3#5 21#6 2#5 1#5),
      (0b1_11_01010_01_0_00011_010101_00010_11111#32, .tstShiftedRegister 1#1 1#2 3#5 21#6 2#5) ] := by decide +kernel

theorem test_decode_data : ReadsAll
    [ (0b1_0_0_11010110_00011_0010_10_00010_00001#32, .asrRegister 1#1 3#5 2#5 1#5),
      (0b1_0_0_11010110_00011_0010_10_00010_00001#32, .asrv 1#1 3#5 2#5 1#5),
      (0b1_0_0_11010110_00011_010_0_11_00010_00001#32, .crc32 1#1 3#5 3#2 2#5 1#5),
      (0b1_0_0_11010110_00011_010_1_11_00010_00001#32, .crc32c 1#1 3#5 3#2 2#5 1#5),
      (0b1_0_0_11010110_00011_0010_00_00010_00001#32, .lslRegister 1#1 3#5 2#5 1#5),
      (0b1_0_0_11010110_00011_0010_00_00010_00001#32, .lslv 1#1 3#5 2#5 1#5),
      (0b1_0_0_11010110_00011_0010_01_00010_00001#32, .lsrRegister 1#1 3#5 2#5 1#5),
      (0b1_0_0_11010110_00011_0010_01_00010_00001#32, .lsrv 1#1 3#5 2#5 1#5),
      (0b1_0_0_11010110_00011_0010_11_00010_00001#32, .rorRegister 1#1 3#5 2#5 1#5),
      (0b1_0_0_11010110_00011_0010_11_00010_00001#32, .rorv 1#1 3#5 2#5 1#5),
      (0b1_0_0_11010110_00011_00001_1_00010_00001#32, .sdiv 1#1 3#5 2#5 1#5),
      (0b1_0_0_11010110_00011_00001_0_00010_00001#32, .udiv 1#1 3#5 2#5 1#5),
      (0b1_1_0_11010110_00000_00010_1_00010_00001#32, .cls 1#1 2#5 1#5),
      (0b1_1_0_11010110_00000_00010_0_00010_00001#32, .clz 1#1 2#5 1#5),
      (0b1_1_0_11010110_00000_0000_00_00010_00001#32, .rbit 1#1 2#5 1#5),
      (0b0_1_0_11010110_00000_0000_10_00010_00001#32, .rev32Bit 2#5 1#5),
      (0b1_1_0_11010110_00000_0000_11_00010_00001#32, .rev64Bit 2#5 1#5),
      (0b1_1_0_11010110_00000_0000_01_00010_00001#32, .rev16 1#1 2#5 1#5),
      (0b1_1_0_11010110_00000_0000_10_00010_00001#32, .rev32 2#5 1#5),
      (0b1_1_0_11010110_00000_0000_11_00010_00001#32, .rev64 2#5 1#5) ] := by decide +kernel

theorem test_decode_bitfield : ReadsAll
    [ (0b1_00_100110_1_000100_111111_00010_00001#32, .asrImmediate 1#1 1#1 4#6 1#1 2#5 1#5),
      (0b1_01_100110_1_010100_001011_11111_00001#32, .bfc 1#1 1#1 20#6 11#6 1#5),
      (0b1_01_100110_1_010100_001011_00010_00001#32, .bfi 1#1 1#1 20#6 11#6 2#5 1#5),
      (0b1_01_100110_1_000100_001011_00010_00001#32, .bfm 1#1 1#1 4#6 11#6 2#5 1#5),
      (0b1_01_100110_1_000100_001011_00010_00001#32, .bfxil 1#1 1#1 4#6 11#6 2#5 1#5),
      (0b1_10_100110_1_001100_001011_00010_00001#32, .lslImmediate 1#1 1#1 12#6 11#6 2#5 1#5),
      (0b1_10_100110_1_000100_111111_00010_00001#32, .lsrImmediate 1#1 1#1 4#6 1#1 2#5 1#5),
      (0b1_00_100110_1_010100_001011_00010_00001#32, .sbfiz 1#1 1#1 20#6 11#6 2#5 1#5),
      (0b1_00_100110_1_000100_001011_00010_00001#32, .sbfm 1#1 1#1 4#6 11#6 2#5 1#5),
      (0b1_00_100110_1_000100_001011_00010_00001#32, .sbfx 1#1 1#1 4#6 11#6 2#5 1#5),
      (0b1_00_100110_1_000000_000111_00010_00001#32, .sxtb 1#1 1#1 2#5 1#5),
      (0b1_00_100110_1_000000_001111_00010_00001#32, .sxth 1#1 1#1 2#5 1#5),
      (0b1_00_100110_1_000000_011111_00010_00001#32, .sxtw 2#5 1#5),
      (0b1_10_100110_1_010100_001011_00010_00001#32, .ubfiz 1#1 1#1 20#6 11#6 2#5 1#5),
      (0b1_10_100110_1_000100_001011_00010_00001#32, .ubfm 1#1 1#1 4#6 11#6 2#5 1#5),
      (0b1_10_100110_1_000100_001011_00010_00001#32, .ubfx 1#1 1#1 4#6 11#6 2#5 1#5),
      (0b0_10_100110_0_000000_000111_00010_00001#32, .uxtb 2#5 1#5),
      (0b0_10_100110_0_000000_001111_00010_00001#32, .uxth 2#5 1#5) ] := by decide +kernel

theorem test_decode_system : ReadsAll
    [ (0b1101010100_0_01_000_0111_1001_001_00101#32, .sysAt 0#3 1#1 1#3 5#5),
      (0b1101010100_0_00_011_0011_0110_010_11111#32, .clrex 6#4),
      (0b1101010100_0_01_011_0111_1110_001_00101#32, .sysDc 3#3 14#4 1#3 5#5),
      (0b1101010100_0_00_011_0011_0110_1_01_11111#32, .dmb 6#4),
      (0b1101010100_0_00_011_0011_0110_1_00_11111#32, .dsb 6#4),
      (0b1101010100_0_00_011_0010_0010_000_11111#32, .esb),
      (0b1101010100_0_00_011_0010_0110_011_11111#32, .hint 6#4 3#3),
      (0b1101010100_0_01_011_0111_0101_001_00101#32, .sysIc 3#3 5#4 1#3 5#5),
      (0b1101010100_0_00_011_0011_0110_1_10_11111#32, .isb 6#4),
      (0b1101010100_1_1_1_101_1001_0110_011_00101#32, .mrs 1#1 5#3 9#4 6#4 3#3 5#5),
      (0b1101010100_0_00_011_0100_1001_110_11111#32, .msrImmediate 3#3 9#4 6#3),
      (0b1101010100_0_1_1_101_1001_0110_011_00101#32, .msrRegister 1#1 5#3 9#4 6#4 3#3 5#5),
      (0b1101010100_0_00_011_0010_0000_000_11111#32, .nop),
      (0b1101010100_0_00_011_0010_0010_001_11111#32, .psbCsync),
      (0b1101010100_0_00_011_0010_0000_100_11111#32, .sev),
      (0b1101010100_0_00_011_0010_0000_101_11111#32, .sevl),
      (0b1101010100_0_01_101_1001_0110_011_00101#32, .sys 5#3 9#4 6#4 3#3 5#5),
      (0b1101010100_1_01_101_1001_0110_011_00101#32, .sysl 5#3 9#4 6#4 3#3 5#5),
      (0b1101010100_0_01_100_1000_0011_110_00101#32, .sysTlbi 4#3 3#4 6#3 5#5),
      (0b1101010100_0_00_011_0010_0000_010_11111#32, .wfe),
      (0b1101010100_0_00_011_0010_0000_011_11111#32, .wfi),
      (0b1101010100_0_00_011_0010_0000_001_11111#32, .yield) ] := by decide +kernel

theorem test_decode_branch : ReadsAll
    [ (0b0101010_0_1010001001000110100_0_1001#32, .bCond 332340#19 9#4),
      (0b0_00101_10101010111100110111101111#32, .b 44813807#26),
      (0b1_00101_10101010111100110111101111#32, .bl 44813807#26),
      (0b1101011_0_0_01_11111_0000_0_0_00010_00000#32, .blr 2#5),
      (0b1101011_0_0_00_11111_0000_0_0_00010_00000#32, .br 2#5),
      (0b1101011_0_1_01_11111_0000_0_0_11111_00000#32, .drps),
      (0b1101011_0_1_00_11111_0000_0_0_11111_00000#32, .eret),
      (0b1101011_0_0_10_11111_0000_0_0_00010_00000#32, .ret 2#5),
      (0b1_011010_1_1010001001000110100_00101#32, .cbnz 1#1 332340#19 5#5),
      (0b1_011010_0_1010001001000110100_00101#32, .cbz 1#1 332340#19 5#5),
      (0b1_011011_1_10011_10101010111100_00101#32, .tbnz 1#1 19#5 10940#14 5#5),
      (0b1_011011_0_10011_10101010111100_00101#32, .tbz 1#1 19#5 10940#14 5#5) ] := by decide +kernel

theorem test_decode_exception : ReadsAll
    [ (0b11010100_001_1001001000110100_000_00#32, .brk 37428#16),
      (0b11010100_101_1001001000110100_000_01#32, .dcps1 37428#16),
      (0b11010100_101_1001001000110100_000_10#32, .dcps2 37428#16),
      (0b11010100_101_1001001000110100_000_11#32, .dcps3 37428#16),
      (0b11010100_010_1001001000110100_000_00#32, .hlt 37428#16),
      (0b11010100_000_1001001000110100_000_10#32, .hvc 37428#16),
      (0b11010100_000_1001001000110100_000_11#32, .smc 37428#16),
      (0b11010100_000_1001001000110100_000_01#32, .svc 37428#16) ] := by decide +kernel

theorem test_decode_cas : ReadsAll
    [ (0b00_001000_1_1_1_00111_1_11111_00010_00101#32, .casb 1#1 7#5 1#1 2#5 5#5),
      (0b01_001000_1_1_1_00111_1_11111_00010_00101#32, .cash 1#1 7#5 1#1 2#5 5#5),
      (0b0_1_001000_0_1_1_00110_1_11111_00010_01000#32, .casp 1#1 1#1 6#5 1#1 2#5 8#5),
      (0b11_001000_1_1_1_00111_1_11111_00010_00101#32, .cas 1#1 1#1 7#5 1#1 2#5 5#5) ] := by decide +kernel

theorem test_decode_cond : ReadsAll
    [ (0b1_0_1_11010010_10011_1001_1_0_00010_0_1010#32, .ccmnImmediate 1#1 19#5 9#4 2#5 10#4),
      (0b1_1_1_11010010_10011_1001_1_0_00010_0_1010#32, .ccmpImmediate 1#1 19#5 9#4 2#5 10#4),
      (0b1_0_1_11010010_00011_1001_0_0_00010_0_1010#32, .ccmnRegister 1#1 3#5 9#4 2#5 10#4),
      (0b1_1_1_11010010_00011_1001_0_0_00010_0_1010#32, .ccmpRegister 1#1 3#5 9#4 2#5 10#4),
      (0b1_0_0_11010100_00010_1001_0_1_00010_00001#32, .cinc 1#1 2#5 9#4 2#5 1#5),
      (0b1_1_0_11010100_00010_1001_0_0_00010_00001#32, .cinv 1#1 2#5 9#4 2#5 1#5),
      (0b1_1_0_11010100_00010_1001_0_1_00010_00001#32, .cneg 1#1 2#5 9#4 2#5 1#5),
      (0b1_0_0_11010100_00011_1001_0_0_00010_00001#32, .csel 1#1 3#5 9#4 2#5 1#5),
      (0b1_0_0_11010100_11111_1001_0_1_11111_00001#32, .cset 1#1 9#4 1#5),
      (0b1_1_0_11010100_11111_1001_0_0_11111_00001#32, .csetm 1#1 9#4 1#5),
      (0b1_0_0_11010100_00011_1001_0_1_00010_00001#32, .csinc 1#1 3#5 9#4 2#5 1#5),
      (0b1_1_0_11010100_00011_1001_0_0_00010_00001#32, .csinv 1#1 3#5 9#4 2#5 1#5),
      (0b1_1_0_11010100_00011_1001_0_1_00010_00001#32, .csneg 1#1 3#5 9#4 2#5 1#5) ] := by decide +kernel

theorem test_decode_extract : ReadsAll
    [ (0b1_00_100111_1_0_00011_001011_00010_00001#32, .extr 1#1 1#1 3#5 11#6 2#5 1#5),
      (0b1_00_100111_1_0_00010_001011_00010_00001#32, .rorImmediate 1#1 1#1 2#5 11#6 2#5 1#5) ] := by decide +kernel

theorem test_decode_atomic_1 : ReadsAll
    [ (0b00_111_0_00_1_0_1_00111_0_000_00_00010_00101#32, .ldaddb 1#1 0#1 7#5 2#5 5#5),
      (0b01_111_0_00_1_0_1_00111_0_000_00_00010_00101#32, .ldaddh 1#1 0#1 7#5 2#5 5#5),
      (0b11_111_0_00_1_0_1_00111_0_000_00_00010_00101#32, .ldadd 1#1 1#1 0#1 7#5 2#5 5#5),
      (0b00_111_0_00_1_0_1_00111_0_001_00_00010_00101#32, .ldclrb 1#1 0#1 7#5 2#5 5#5),
      (0b01_111_0_00_1_0_1_00111_0_001_00_00010_00101#32, .ldclrh 1#1 0#1 7#5 2#5 5#5),
      (0b11_111_0_00_1_0_1_00111_0_001_00_00010_00101#32, .ldclr 1#1 1#1 0#1 7#5 2#5 5#5),
      (0b00_111_0_00_1_0_1_00111_0_010_00_00010_00101#32, .ldeorb 1#1 0#1 7#5 2#5 5#5),
      (0b01_111_0_00_1_0_1_00111_0_010_00_00010_00101#32, .ldeorh 1#1 0#1 7#5 2#5 5#5),
      (0b11_111_0_00_1_0_1_00111_0_010_00_00010_00101#32, .ldeor 1#1 1#1 0#1 7#5 2#5 5#5),
      (0b00_111_0_00_1_0_1_00111_0_011_00_00010_00101#32, .ldsetb 1#1 0#1 7#5 2#5 5#5),
      (0b01_111_0_00_1_0_1_00111_0_011_00_00010_00101#32, .ldseth 1#1 0#1 7#5 2#5 5#5),
      (0b11_111_0_00_1_0_1_00111_0_011_00_00010_00101#32, .ldset 1#1 1#1 0#1 7#5 2#5 5#5),
      (0b00_111_0_00_1_0_1_00111_0_100_00_00010_00101#32, .ldsmaxb 1#1 0#1 7#5 2#5 5#5),
      (0b01_111_0_00_1_0_1_00111_0_100_00_00010_00101#32, .ldsmaxh 1#1 0#1 7#5 2#5 5#5),
      (0b11_111_0_00_1_0_1_00111_0_100_00_00010_00101#32, .ldsmax 1#1 1#1 0#1 7#5 2#5 5#5),
      (0b00_111_0_00_1_0_1_00111_0_101_00_00010_00101#32, .ldsminb 1#1 0#1 7#5 2#5 5#5),
      (0b01_111_0_00_1_0_1_00111_0_101_00_00010_00101#32, .ldsminh 1#1 0#1 7#5 2#5 5#5),
      (0b11_111_0_00_1_0_1_00111_0_101_00_00010_00101#32, .ldsmin 1#1 1#1 0#1 7#5 2#5 5#5),
      (0b00_111_0_00_1_0_1_00111_0_110_00_00010_00101#32, .ldumaxb 1#1 0#1 7#5 2#5 5#5),
      (0b01_111_0_00_1_0_1_00111_0_110_00_00010_00101#32, .ldumaxh 1#1 0#1 7#5 2#5 5#5),
      (0b11_111_0_00_1_0_1_00111_0_110_00_00010_00101#32, .ldumax 1#1 1#1 0#1 7#5 2#5 5#5),
      (0b00_111_0_00_1_0_1_00111_0_111_00_00010_00101#32, .lduminb 1#1 0#1 7#5 2#5 5#5),
      (0b01_111_0_00_1_0_1_00111_0_111_00_00010_00101#32, .lduminh 1#1 0#1 7#5 2#5 5#5),
      (0b11_111_0_00_1_0_1_00111_0_111_00_00010_00101#32, .ldumin 1#1 1#1 0#1 7#5 2#5 5#5),
      (0b00_111_0_00_0_0_1_00111_0_000_00_00010_11111#32, .staddb 0#1 7#5 2#5),
      (0b01_111_0_00_0_0_1_00111_0_000_00_00010_11111#32, .staddh 0#1 7#5 2#5),
      (0b11_111_0_00_0_0_1_00111_0_000_00_00010_11111#32, .stadd 1#1 0#1 7#5 2#5),
      (0b00_111_0_00_0_0_1_00111_0_001_00_00010_11111#32, .stclrb 0#1 7#5 2#5),
      (0b01_111_0_00_0_0_1_00111_0_001_00_00010_11111#32, .stclrh 0#1 7#5 2#5),
      (0b11_111_0_00_0_0_1_00111_0_001_00_00010_11111#32, .stclr 1#1 0#1 7#5 2#5) ] := by decide +kernel

theorem test_decode_atomic_2 : ReadsAll
    [ (0b00_111_0_00_0_0_1_00111_0_010_00_00010_11111#32, .steorb 0#1 7#5 2#5),
      (0b01_111_0_00_0_0_1_00111_0_010_00_00010_11111#32, .steorh 0#1 7#5 2#5),
      (0b11_111_0_00_0_0_1_00111_0_010_00_00010_11111#32, .steor 1#1 0#1 7#5 2#5),
      (0b00_111_0_00_0_0_1_00111_0_011_00_00010_11111#32, .stsetb 0#1 7#5 2#5),
      (0b01_111_0_00_0_0_1_00111_0_011_00_00010_11111#32, .stseth 0#1 7#5 2#5),
      (0b11_111_0_00_0_0_1_00111_0_011_00_00010_11111#32, .stset 1#1 0#1 7#5 2#5),
      (0b00_111_0_00_0_0_1_00111_0_100_00_00010_11111#32, .stsmaxb 0#1 7#5 2#5),
      (0b01_111_0_00_0_0_1_00111_0_100_00_00010_11111#32, .stsmaxh 0#1 7#5 2#5),
      (0b11_111_0_00_0_0_1_00111_0_100_00_00010_11111#32, .stsmax 1#1 0#1 7#5 2#5),
      (0b00_111_0_00_0_0_1_00111_0_101_00_00010_11111#32, .stsminb 0#1 7#5 2#5),
      (0b01_111_0_00_0_0_1_00111_0_101_00_00010_11111#32, .stsminh 0#1 7#5 2#5),
      (0b11_111_0_00_0_0_1_00111_0_101_00_00010_11111#32, .stsmin 1#1 0#1 7#5 2#5),
      (0b00_111_0_00_0_0_1_00111_0_110_00_00010_11111#32, .stumaxb 0#1 7#5 2#5),
      (0b01_111_0_00_0_0_1_00111_0_110_00_00010_11111#32, .stumaxh 0#1 7#5 2#5),
      (0b11_111_0_00_0_0_1_00111_0_110_00_00010_11111#32, .stumax 1#1 0#1 7#5 2#5),
      (0b00_111_0_00_0_0_1_00111_0_111_00_00010_11111#32, .stuminb 0#1 7#5 2#5),
      (0b01_111_0_00_0_0_1_00111_0_111_00_00010_11111#32, .stuminh 0#1 7#5 2#5),
      (0b11_111_0_00_0_0_1_00111_0_111_00_00010_11111#32, .stumin 1#1 0#1 7#5 2#5),
      (0b00_111_0_00_1_0_1_00111_1_000_00_00010_00101#32, .swpb 1#1 0#1 7#5 2#5 5#5),
      (0b01_111_0_00_1_0_1_00111_1_000_00_00010_00101#32, .swph 1#1 0#1 7#5 2#5 5#5),
      (0b11_111_0_00_1_0_1_00111_1_000_00_00010_00101#32, .swp 1#1 1#1 0#1 7#5 2#5 5#5) ] := by decide +kernel

theorem test_decode_ldstexcl : ReadsAll
    [ (0b11_001000_1_1_0_11111_1_11111_00010_00101#32, .ldar 1#1 2#5 5#5),
      (0b00_001000_1_1_0_11111_1_11111_00010_00101#32, .ldarb 2#5 5#5),
      (0b01_001000_1_1_0_11111_1_11111_00010_00101#32, .ldarh 2#5 5#5),
      (0b1_1_001000_0_1_1_11111_1_00110_00010_00101#32, .ldaxp 1#1 6#5 2#5 5#5),
      (0b11_001000_0_1_0_11111_1_11111_00010_00101#32, .ldaxr 1#1 2#5 5#5),
      (0b00_001000_0_1_0_11111_1_11111_00010_00101#32, .ldaxrb 2#5 5#5),
      (0b01_001000_0_1_0_11111_1_11111_00010_00101#32, .ldaxrh 2#5 5#5),
      (0b00_001000_1_1_0_11111_0_11111_00010_00101#32, .ldlarb 2#5 5#5),
      (0b01_001000_1_1_0_11111_0_11111_00010_00101#32, .ldlarh 2#5 5#5),
      (0b11_001000_1_1_0_11111_0_11111_00010_00101#32, .ldlar 1#1 2#5 5#5),
      (0b1_1_001000_0_1_1_11111_0_00110_00010_00101#32, .ldxp 1#1 6#5 2#5 5#5),
      (0b11_001000_0_1_0_11111_0_11111_00010_00101#32, .ldxr 1#1 2#5 5#5),
      (0b00_001000_0_1_0_11111_0_11111_00010_00101#32, .ldxrb 2#5 5#5),
      (0b01_001000_0_1_0_11111_0_11111_00010_00101#32, .ldxrh 2#5 5#5),
      (0b00_001000_1_0_0_11111_0_11111_00010_00101#32, .stllrb 2#5 5#5),
      (0b01_001000_1_0_0_11111_0_11111_00010_00101#32, .stllrh 2#5 5#5),
      (0b11_001000_1_0_0_11111_0_11111_00010_00101#32, .stllr 1#1 2#5 5#5),
      (0b11_001000_1_0_0_11111_1_11111_00010_00101#32, .stlr 1#1 2#5 5#5),
      (0b00_001000_1_0_0_11111_1_11111_00010_00101#32, .stlrb 2#5 5#5),
      (0b01_001000_1_0_0_11111_1_11111_00010_00101#32, .stlrh 2#5 5#5),
      (0b1_1_001000_0_0_1_00111_1_00110_00010_00101#32, .stlxp 1#1 7#5 6#5 2#5 5#5),
      (0b11_001000_0_0_0_00111_1_11111_00010_00101#32, .stlxr 1#1 7#5 2#5 5#5),
      (0b00_001000_0_0_0_00111_1_11111_00010_00101#32, .stlxrb 7#5 2#5 5#5),
      (0b01_001000_0_0_0_00111_1_11111_00010_00101#32, .stlxrh 7#5 2#5 5#5),
      (0b1_1_001000_0_0_1_00111_0_00110_00010_00101#32, .stxp 1#1 7#5 6#5 2#5 5#5),
      (0b11_001000_0_0_0_00111_0_11111_00010_00101#32, .stxr 1#1 7#5 2#5 5#5),
      (0b00_001000_0_0_0_00111_0_11111_00010_00101#32, .stxrb 7#5 2#5 5#5),
      (0b01_001000_0_0_0_00111_0_11111_00010_00101#32, .stxrh 7#5 2#5 5#5) ] := by decide +kernel

theorem test_decode_ldstpair : ReadsAll
    [ (0b1_0_101_0_000_1_1000101_00110_00010_00101#32, .ldnp 1#1 69#7 6#5 2#5 5#5),
      (0b1_0_101_0_001_1_1000101_00110_00010_00101#32, .ldpPostIndex 1#1 69#7 6#5 2#5 5#5),
      (0b1_0_101_0_011_1_1000101_00110_00010_00101#32, .ldpPreIndex 1#1 69#7 6#5 2#5 5#5),
      (0b1_0_101_0_010_1_1000101_00110_00010_00101#32, .ldpSignedOffset 1#1 69#7 6#5 2#5 5#5),
      (0b01_101_0_001_1_1000101_00110_00010_00101#32, .ldpswPostIndex 69#7 6#5 2#5 5#5),
      (0b01_101_0_011_1_1000101_00110_00010_00101#32, .ldpswPreIndex 69#7 6#5 2#5 5#5),
      (0b01_101_0_010_1_1000101_00110_00010_00101#32, .ldpswSignedOffset 69#7 6#5 2#5 5#5),
      (0b1_0_101_0_000_0_1000101_00110_00010_00101#32, .stnp 1#1 69#7 6#5 2#5 5#5),
      (0b1_0_101_0_001_0_1000101_00110_00010_00101#32, .stpPostIndex 1#1 69#7 6#5 2#5 5#5),
      (0b1_0_101_0_011_0_1000101_00110_00010_00101#32, .stpPreIndex 1#1 69#7 6#5 2#5 5#5),
      (0b1_0_101_0_010_0_1000101_00110_00010_00101#32, .stpSignedOffset 1#1 69#7 6#5 2#5 5#5) ] := by decide +kernel

theorem test_decode_ldst_imm9_1 : ReadsAll
    [ (0b11_111_0_00_01_0_101010101_01_00010_00101#32, .ldrImmediatePostIndex 1#1 341#9 2#5 5#5),
      (0b11_111_0_00_01_0_101010101_11_00010_00101#32, .ldrImmediatePreIndex 1#1 341#9 2#5 5#5),
      (0b00_111_0_00_01_0_101010101_01_00010_00101#32, .ldrbImmediatePostIndex 341#9 2#5 5#5),
      (0b00_111_0_00_01_0_101010101_11_00010_00101#32, .ldrbImmediatePreIndex 341#9 2#5 5#5),
      (0b01_111_0_00_01_0_101010101_01_00010_00101#32, .ldrhImmediatePostIndex 341#9 2#5 5#5),
      (0b01_111_0_00_01_0_101010101_11_00010_00101#32, .ldrhImmediatePreIndex 341#9 2#5 5#5),
      (0b00_111_0_00_11_0_101010101_01_00010_00101#32, .ldrsbImmediatePostIndex 1#1 341#9 2#5 5#5),
      (0b00_111_0_00_11_0_101010101_11_00010_00101#32, .ldrsbImmediatePreIndex 1#1 341#9 2#5 5#5),
      (0b01_111_0_00_11_0_101010101_01_00010_00101#32, .ldrshImmediatePostIndex 1#1 341#9 2#5 5#5),
      (0b01_111_0_00_11_0_101010101_11_00010_00101#32, .ldrshImmediatePreIndex 1#1 341#9 2#5 5#5),
      (0b10_111_0_00_10_0_101010101_01_00010_00101#32, .ldrswImmediatePostIndex 341#9 2#5 5#5),
      (0b10_111_0_00_10_0_101010101_11_00010_00101#32, .ldrswImmediatePreIndex 341#9 2#5 5#5),
      (0b11_111_0_00_01_0_101010101_10_00010_00101#32, .ldtr 1#1 341#9 2#5 5#5),
      (0b00_111_0_00_01_0_101010101_10_00010_00101#32, .ldtrb 341#9 2#5 5#5),
      (0b01_111_0_00_01_0_101010101_10_00010_00101#32, .ldtrh 341#9 2#5 5#5),
      (0b00_111_0_00_11_0_101010101_10_00010_00101#32, .ldtrsb 1#1 341#9 2#5 5#5),
      (0b01_111_0_00_11_0_101010101_10_00010_00101#32, .ldtrsh 1#1 341#9 2#5 5#5),
      (0b10_111_0_00_10_0_101010101_10_00010_00101#32, .ldtrsw 341#9 2#5 5#5),
      (0b11_111_0_00_01_0_101010101_00_00010_00101#32, .ldur 1#1 341#9 2#5 5#5),
      (0b00_111_0_00_01_0_101010101_00_00010_00101#32, .ldurb 341#9 2#5 5#5),
      (0b01_111_0_00_01_0_101010101_00_00010_00101#32, .ldurh 341#9 2#5 5#5),
      (0b00_111_0_00_11_0_101010101_00_00010_00101#32, .ldursb 1#1 341#9 2#5 5#5),
      (0b01_111_0_00_11_0_101010101_00_00010_00101#32, .ldursh 1#1 341#9 2#5 5#5),
      (0b10_111_0_00_10_0_101010101_00_00010_00101#32, .ldursw 341#9 2#5 5#5),
      (0b11_111_0_00_10_0_101010101_00_00010_00101#32, .prfum 341#9 2#5 5#5),
      (0b11_111_0_00_00_0_101010101_01_00010_00101#32, .strImmediatePostIndex 1#1 341#9 2#5 5#5),
      (0b11_111_0_00_00_0_101010101_11_00010_00101#32, .strImmediatePreIndex 1#1 341#9 2#5 5#5),
      (0b00_111_0_00_00_0_101010101_01_00010_00101#32, .strbImmediatePostIndex 341#9 2#5 5#5),
      (0b00_111_0_00_00_0_101010101_11_00010_00101#32, .strbImmediatePreIndex 341#9 2#5 5#5),
      (0b01_111_0_00_00_0_101010101_01_00010_00101#32, .strhImmediatePostIndex 341#9 2#5 5#5) ] := by decide +kernel

theorem test_decode_ldst_imm9_2 : ReadsAll
    [ (0b01_111_0_00_00_0_101010101_11_00010_00101#32, .strhImmediatePreIndex 341#9 2#5 5#5),
      (0b11_111_0_00_00_0_101010101_10_00010_00101#32, .sttr 1#1 341#9 2#5 5#5),
      (0b00_111_0_00_00_0_101010101_10_00010_00101#32, .sttrb 341#9 2#5 5#5),
      (0b01_111_0_00_00_0_101010101_10_00010_00101#32, .sttrh 341#9 2#5 5#5),
      (0b11_111_0_00_00_0_101010101_00_00010_00101#32, .stur 1#1 341#9 2#5 5#5),
      (0b00_111_0_00_00_0_101010101_00_00010_00101#32, .sturb 341#9 2#5 5#5),
      (0b01_111_0_00_00_0_101010101_00_00010_00101#32, .sturh 341#9 2#5 5#5) ] := by decide +kernel

theorem test_decode_ldst_uimm12 : ReadsAll
    [ (0b11_111_0_01_01_100100100011_00010_00101#32, .ldrImmediateUnsignedOffset 1#1 2339#12 2#5 5#5),
      (0b00_111_0_01_01_100100100011_00010_00101#32, .ldrbImmediateUnsignedOffset 2339#12 2#5 5#5),
      (0b01_111_0_01_01_100100100011_00010_00101#32, .ldrhImmediateUnsignedOffset 2339#12 2#5 5#5),
      (0b00_111_0_01_11_100100100011_00010_00101#32, .ldrsbImmediateUnsignedOffset 1#1 2339#12 2#5 5#5),
      (0b01_111_0_01_11_100100100011_00010_00101#32, .ldrshImmediateUnsignedOffset 1#1 2339#12 2#5 5#5),
      (0b10_111_0_01_10_100100100011_00010_00101#32, .ldrswImmediateUnsignedOffset 2339#12 2#5 5#5),
      (0b11_111_0_01_10_100100100011_00010_00101#32, .prfmImmediate 2339#12 2#5 5#5),
      (0b11_111_0_01_00_100100100011_00010_00101#32, .strImmediateUnsignedOffset 1#1 2339#12 2#5 5#5),
      (0b00_111_0_01_00_100100100011_00010_00101#32, .strbImmediateUnsignedOffset 2339#12 2#5 5#5),
      (0b01_111_0_01_00_100100100011_00010_00101#32, .strhImmediateUnsignedOffset 2339#12 2#5 5#5) ] := by decide +kernel

theorem test_decode_ldlit : ReadsAll
    [ (0b0_1_011_0_00_1010001001000110100_00101#32, .ldrLiteral 1#1 332340#19 5#5),
      (0b10_011_0_00_1010001001000110100_00101#32, .ldrswLiteral 332340#19 5#5),
      (0b11_011_0_00_1010001001000110100_00101#32, .prfmLiteral 332340#19 5#5) ] := by decide +kernel

theorem test_decode_ldst_regoff : ReadsAll
    [ (0b11_111_0_00_01_1_00011_011_1_10_00010_00101#32, .ldrRegister 1#1 3#5 3#3 1#1 2#5 5#5),
      (0b00_111_0_00_01_1_00011_011_1_10_00010_00101#32, .ldrbRegister 3#5 3#3 1#1 2#5 5#5),
      (0b01_111_0_00_01_1_00011_011_1_10_00010_00101#32, .ldrhRegister 3#5 3#3 1#1 2#5 5#5),
      (0b00_111_0_00_11_1_00011_011_1_10_00010_00101#32, .ldrsbRegister 1#1 3#5 3#3 1#1 2#5 5#5),
      (0b01_111_0_00_11_1_00011_011_1_10_00010_00101#32, .ldrshRegister 1#1 3#5 3#3 1#1 2#5 5#5),
      (0b10_111_0_00_10_1_00011_011_1_10_00010_00101#32, .ldrswRegister 3#5 3#3 1#1 2#5 5#5),
      (0b11_111_0_00_10_1_00011_011_1_10_00010_00101#32, .prfmRegister 3#5 3#3 1#1 2#5 5#5),
      (0b11_111_0_00_00_1_00011_011_1_10_00010_00101#32, .strRegister 1#1 3#5 3#3 1#1 2#5 5#5),
      (0b00_111_0_00_00_1_00011_011_1_10_00010_00101#32, .strbRegister 3#5 3#3 1#1 2#5 5#5),
      (0b01_111_0_00_00_1_00011_011_1_10_00010_00101#32, .strhRegister 3#5 3#3 1#1 2#5 5#5) ] := by decide +kernel

theorem test_decode_data3 : ReadsAll
    [ (0b1_00_11011_000_00011_0_00100_00010_00001#32, .madd 1#1 3#5 4#5 2#5 1#5),
      (0b1_00_11011_000_00011_1_11111_00010_00001#32, .mneg 1#1 3#5 2#5 1#5),
      (0b1_00_11011_000_00011_1_00100_00010_00001#32, .msub 1#1 3#5 4#5 2#5 1#5),
      (0b1_00_11011_000_00011_0_11111_00010_00001#32, .mul 1#1 3#5 2#5 1#5),
      (0b1_00_11011_0_01_00011_0_00100_00010_00001#32, .smaddl 3#5 4#5 2#5 1#5),
      (0b1_00_11011_0_01_00011_1_11111_00010_00001#32, .smnegl 3#5 2#5 1#5),
      (0b1_00_11011_0_01_00011_1_00100_00010_00001#32, .smsubl 3#5 4#5 2#5 1#5),
      (0b1_00_11011_0_10_00011_0_11111_00010_00001#32, .smulh 3#5 2#5 1#5),
      (0b1_00_11011_0_01_00011_0_11111_00010_00001#32, .smull 3#5 2#5 1#5),
      (0b1_00_11011_1_01_00011_0_00100_00010_00001#32, .umaddl 3#5 4#5 2#5 1#5),
      (0b1_00_11011_1_01_00011_1_11111_00010_00001#32, .umnegl 3#5 2#5 1#5),
      (0b1_00_11011_1_01_00011_1_00100_00010_00001#32, .umsubl 3#5 4#5 2#5 1#5),
      (0b1_00_11011_1_10_00011_0_11111_00010_00001#32, .umulh 3#5 2#5 1#5),
      (0b1_00_11011_1_01_00011_0_11111_00010_00001#32, .umull 3#5 2#5 1#5) ] := by decide +kernel

theorem test_decode_movewide : ReadsAll
    [ (0b1_00_100101_10_1001001000110100_00001#32, .movInvertedWideImmediate 1#1 2#2 37428#16 1#5),
      (0b1_10_100101_10_1001001000110100_00001#32, .movWideImmediate 1#1 2#2 37428#16 1#5),
      (0b1_11_100101_10_1001001000110100_00001#32, .movk 1#1 2#2 37428#16 1#5),
      (0b1_00_100101_10_1001001000110100_00001#32, .movn 1#1 2#2 37428#16 1#5),
      (0b1_10_100101_10_1001001000110100_00001#32, .movz 1#1 2#2 37428#16 1#5) ] := by decide +kernel

/-! ## One step: the vectors of 95_test_vectors.md -/

/-- The start state of the vectors: EL1 with its own stack, all masked, VBAR_EL1 = 0x80000, SCTLR_EL1.{SPAN, SA} = {1, 1}. -/
def base : State :=
  { State.reset with
    pc := 0x1000#64
    el1 := { State.reset.el1 with vbar := 0x80000#64, sctlr := 0x800008#64 } }

/-- The same at EL0, nothing masked. -/
def user : State :=
  { base with p := { base.p with el := .el0, sp := false, d := false, a := false, i := false, f := false } }

/-- The same with other parameters. -/
def under (s : State) (f : Config → Config) : State := { s with cfg := f s.cfg }

/-- The start state with other choices at the CONSTRAINED UNPREDICTABLE sites. -/
def choosing (f : Constrain → Constrain) : State := under base fun c => { c with constrain := f c.constrain }

/-- The start state with a byte that is unmapped, one that is denied altogether, and one that is denied for writing. -/
def holes : State :=
  under base fun c => { c with
    unmapped := [⟨0x2007, 1⟩]
    denied := [⟨⟨0x300F, 1⟩, .el1, .read⟩, ⟨⟨0x300F, 1⟩, .el1, .write⟩, ⟨⟨0x400F, 1⟩, .el1, .write⟩] }

/-- Registers written; number 31 is the stack pointer. -/
def given (s : State) : List (Reg × DWord) → State
  | [] => s
  | (r, v) :: rest => given (s.writeXsp r v) rest

/-- Values stored: address, bytes, value. -/
def holding (s : State) : List (Nat × Nat × Nat) → State
  | [] => s
  | (a, n, v) :: rest => holding (s.storeBytes (BitVec.ofNat 64 a) n (BitVec.ofNat 64 v)) rest

/-- The state after one step that runs a word; the state after reset if there is no next state. -/
def after (w : Nat) (s : State) : State :=
  match step (s.withFetchWord 32 w) with
  | .next t => t
  | _ => State.reset

/-- A step has a next state. -/
def continues (s : State) : Bool :=
  match step s with
  | .next _ => true
  | _ => false

/-- Word, flags and registers before; X0 and flags after. -/
abbrev GivesAll (l : List (Nat × BitVec 4 × List (Reg × DWord) × DWord × BitVec 4)) : Prop :=
  ∀ row ∈ l, match row with
    | (w, nzcv, regs, x0, nzcv') =>
      let t := after w (given (base.writeFlags (Flags.ofBits nzcv)) regs)
      t.readX 0#5 = x0 ∧ t.p.flags.toBits = nzcv' ∧ t.pc = 0x1004#64

/-- Word, flags and registers before; pc and X30 after. -/
abbrev JumpsAll (l : List (Nat × BitVec 4 × List (Reg × DWord) × DWord × DWord)) : Prop :=
  ∀ row ∈ l, match row with
    | (w, nzcv, regs, pc, x30) =>
      let t := after w (given (base.writeFlags (Flags.ofBits nzcv)) regs)
      t.pc = pc ∧ t.readX 30#5 = x30

/-- A memory access: word, registers, memory and monitor before; registers, memory and monitor after. -/
structure Access where
  word : Nat
  regs : List (Reg × DWord)
  mem : List (Nat × Nat × Nat)
  mark : Option Mark
  regs' : List (Reg × DWord)
  mem' : List (Nat × Nat × Nat)
  mark' : Option Mark

/-- Registers hold these values. -/
def holdsRegs (t : State) : List (Reg × DWord) → Bool
  | [] => true
  | (r, v) :: rest => decide (t.readXsp r = v) && holdsRegs t rest

/-- Memory holds these values. -/
def holdsMem (t : State) : List (Nat × Nat × Nat) → Bool
  | [] => true
  | (a, n, v) :: rest => decide ((t.loadBytes (BitVec.ofNat 64 a) n).toNat = v) && holdsMem t rest

/-- An access has its effect. -/
def Access.works (c : Access) : Bool :=
  let t := after c.word { holding (given base c.regs) c.mem with monitor := c.mark }
  holdsRegs t c.regs' && holdsMem t c.mem' && decide (t.monitor = c.mark') && decide (t.pc = 0x1004#64)

/-- Each access has its effect. -/
abbrev AccessesAll (l : List Access) : Prop := ∀ c ∈ l, c.works = true

/-- An exception to EL1: state and word before; ESR, ELR, SPSR and pc after. -/
abbrev TakesAll (l : List (State × Nat × DWord × DWord × DWord × DWord)) : Prop :=
  ∀ row ∈ l, match row with
    | (s, w, esr, elr, spsr, pc) =>
      let t := after w s
      t.el1.esr = esr ∧ t.el1.elr = elr ∧ t.el1.spsr = spsr ∧ t.pc = pc ∧ t.p.el = .el1

theorem test_arithmetic : GivesAll
    [ (0xAB020020, 0b0000#4, [(1#5, 0x7FFFFFFFFFFFFFFF#64), (2#5, 0x1#64)], 0x8000000000000000#64, 0b1001#4),
      (0xEB020020, 0b0000#4, [(1#5, 0x0#64), (2#5, 0x1#64)], 0xFFFFFFFFFFFFFFFF#64, 0b1000#4),
      (0x9A020020, 0b0010#4, [(1#5, 0xFFFFFFFFFFFFFFFF#64), (2#5, 0x0#64)], 0x0#64, 0b0010#4),
      (0x3A020020, 0b0010#4, [(1#5, 0xFFFFFFFF#64), (2#5, 0x0#64)], 0x0#64, 0b0110#4),
      (0xDA020020, 0b0000#4, [(1#5, 0xA#64), (2#5, 0x3#64)], 0x6#64, 0b0000#4),
      (0xFA020020, 0b0000#4, [(1#5, 0x0#64), (2#5, 0x0#64)], 0xFFFFFFFFFFFFFFFF#64, 0b1000#4),
      (0x917FFC20, 0b0000#4, [(1#5, 0x1#64)], 0xFFF001#64, 0b0000#4),
      (0xB1000420, 0b0000#4, [(1#5, 0xFFFFFFFFFFFFFFFF#64)], 0x0#64, 0b0110#4),
      (0x51000420, 0b0000#4, [(1#5, 0x0#64)], 0xFFFFFFFF#64, 0b0000#4),
      (0x8B220820, 0b0000#4, [(1#5, 0x100#64), (2#5, 0xFFFFFFFFFFFFFF81#64)], 0x304#64, 0b0000#4),
      (0x8B02FC20, 0b0000#4, [(1#5, 0x0#64), (2#5, 0x3#64)], 0x8000000000000000#64, 0b0000#4),
      (0xCB821020, 0b0000#4, [(1#5, 0x0#64), (2#5, 0x8000000000000000#64)], 0x800000000000000#64, 0b0000#4) ] := by decide +kernel

theorem test_logical_and_moves_1 : GivesAll
    [ (0x1200F020, 0b0000#4, [(1#5, 0xFFFFFFFFFFFFFFFF#64)], 0x55555555#64, 0b0000#4),
      (0xF2410020, 0b0011#4, [(1#5, 0x8000000000000001#64)], 0x8000000000000000#64, 0b1000#4),
      (0xB2103FE0, 0b0000#4, [], 0xFFFF0000FFFF0000#64, 0b0000#4),
      (0x52010020, 0b0000#4, [(1#5, 0x80000001#64)], 0x1#64, 0b0000#4),
      (0x8A421020, 0b0000#4, [(1#5, 0xFF#64), (2#5, 0xFF0#64)], 0xFF#64, 0b0000#4),
      (0x8A220020, 0b0000#4, [(1#5, 0xFF#64), (2#5, 0xF#64)], 0xF0#64, 0b0000#4),
      (0x6A220020, 0b0010#4, [(1#5, 0xF#64), (2#5, 0xF#64)], 0x0#64, 0b0100#4),
      (0xAA0203E0, 0b0000#4, [(2#5, 0x77#64)], 0x77#64, 0b0000#4),
      (0xAA2203E0, 0b0000#4, [(2#5, 0x77#64)], 0xFFFFFFFFFFFFFF88#64, 0b0000#4),
      (0xCAE20420, 0b0000#4, [(1#5, 0x0#64), (2#5, 0x1#64)], 0x7FFFFFFFFFFFFFFF#64, 0b0000#4),
      (0xD2F579A0, 0b0000#4, [(0#5, 0xFFFFFFFFFFFFFFFF#64)], 0xABCD000000000000#64, 0b0000#4),
      (0x12800000, 0b0000#4, [], 0xFFFFFFFF#64, 0b0000#4) ] := by decide +kernel

theorem test_logical_and_moves_2 : GivesAll
    [ (0xF2A24680, 0b0000#4, [(0#5, 0xAAAAAAAAAAAAAAAA#64)], 0xAAAAAAAA1234AAAA#64, 0b0000#4) ] := by decide +kernel

theorem test_shifts_and_bits_1 : GivesAll
    [ (0x9AC22020, 0b0000#4, [(1#5, 0x1#64), (2#5, 0x43#64)], 0x8#64, 0b0000#4),
      (0x1AC22020, 0b0000#4, [(1#5, 0x80000001#64), (2#5, 0x21#64)], 0x2#64, 0b0000#4),
      (0x9AC22420, 0b0000#4, [(1#5, 0x8000000000000000#64), (2#5, 0x3F#64)], 0x1#64, 0b0000#4),
      (0x9AC22820, 0b0000#4, [(1#5, 0x8000000000000000#64), (2#5, 0x3F#64)], 0xFFFFFFFFFFFFFFFF#64, 0b0000#4),
      (0x1AC22820, 0b0000#4, [(1#5, 0xFFFFFFFF80000000#64), (2#5, 0x4#64)], 0xF8000000#64, 0b0000#4),
      (0x1AC22C20, 0b0000#4, [(1#5, 0x1#64), (2#5, 0x1#64)], 0x80000000#64, 0b0000#4),
      (0x9AC22C20, 0b0000#4, [(1#5, 0x123#64), (2#5, 0x40#64)], 0x123#64, 0b0000#4),
      (0xD37CEC20, 0b0000#4, [(1#5, 0xF00000000000000F#64)], 0xF0#64, 0b0000#4),
      (0xD3780C20, 0b0000#4, [(1#5, 0xABCD#64)], 0xD00#64, 0b0000#4),
      (0x9344FC20, 0b0000#4, [(1#5, 0xF00000000000000F#64)], 0xFF00000000000000#64, 0b0000#4),
      (0x93780C20, 0b0000#4, [(1#5, 0xABC8#64)], 0xFFFFFFFFFFFFF800#64, 0b0000#4),
      (0xB3780C20, 0b0000#4, [(0#5, 0xFFFFFFFFFFFFFFFF#64), (1#5, 0x5#64)], 0xFFFFFFFFFFFFF5FF#64, 0b0000#4) ] := by decide +kernel

theorem test_shifts_and_bits_2 : GivesAll
    [ (0x33180FE0, 0b0000#4, [(0#5, 0xFFFFFFFFFFFFFFFF#64)], 0xFFFFF0FF#64, 0b0000#4),
      (0x93C22020, 0b0000#4, [(1#5, 0x11#64), (2#5, 0xAA00000000000022#64)], 0x11AA000000000000#64, 0b0000#4),
      (0x93C20020, 0b0000#4, [(1#5, 0x11#64), (2#5, 0x22#64)], 0x22#64, 0b0000#4),
      (0xDAC01020, 0b0000#4, [(1#5, 0x0#64)], 0x40#64, 0b0000#4),
      (0xDAC01020, 0b0000#4, [(1#5, 0x1#64)], 0x3F#64, 0b0000#4),
      (0xDAC01420, 0b0000#4, [(1#5, 0x0#64)], 0x3F#64, 0b0000#4),
      (0xDAC01420, 0b0000#4, [(1#5, 0x4000000000000000#64)], 0x0#64, 0b0000#4),
      (0xDAC00020, 0b0000#4, [(1#5, 0x1#64)], 0x8000000000000000#64, 0b0000#4),
      (0x5AC00020, 0b0000#4, [(1#5, 0x1#64)], 0x80000000#64, 0b0000#4),
      (0xDAC00C20, 0b0000#4, [(1#5, 0x102030405060708#64)], 0x807060504030201#64, 0b0000#4),
      (0x5AC00820, 0b0000#4, [(1#5, 0x102030405060708#64)], 0x8070605#64, 0b0000#4),
      (0xDAC00420, 0b0000#4, [(1#5, 0x102030405060708#64)], 0x201040306050807#64, 0b0000#4) ] := by decide +kernel

theorem test_shifts_and_bits_3 : GivesAll
    [ (0x5AC00420, 0b0000#4, [(1#5, 0x102030405060708#64)], 0x6050807#64, 0b0000#4),
      (0xDAC00820, 0b0000#4, [(1#5, 0x102030405060708#64)], 0x403020108070605#64, 0b0000#4) ] := by decide +kernel

theorem test_conditional : GivesAll
    [ (0xFA420020, 0b0100#4, [(1#5, 0x5#64), (2#5, 0x5#64)], 0x0#64, 0b0110#4),
      (0xFA5FE820, 0b0000#4, [(1#5, 0x1E#64)], 0x0#64, 0b1000#4),
      (0x3A411820, 0b0000#4, [(1#5, 0xFFFFFFFF#64)], 0x0#64, 0b0110#4),
      (0xBA428020, 0b0010#4, [(1#5, 0x7FFFFFFFFFFFFFFF#64), (2#5, 0x1#64)], 0x0#64, 0b1001#4),
      (0x9A82A020, 0b1001#4, [(1#5, 0x11#64), (2#5, 0x22#64)], 0x11#64, 0b1001#4),
      (0x9A820420, 0b0000#4, [(1#5, 0x11#64), (2#5, 0xFFFFFFFFFFFFFFFF#64)], 0x0#64, 0b0000#4),
      (0xDA9F13E0, 0b0100#4, [], 0xFFFFFFFFFFFFFFFF#64, 0b0100#4),
      (0xDA815420, 0b1000#4, [(1#5, 0x5#64)], 0xFFFFFFFFFFFFFFFB#64, 0b1000#4) ] := by decide +kernel

theorem test_multiply_divide_crc_1 : GivesAll
    [ (0x9B020C20, 0b0000#4, [(1#5, 0x3#64), (2#5, 0x4#64), (3#5, 0x5#64)], 0x11#64, 0b0000#4),
      (0x1B020C20, 0b0000#4, [(1#5, 0x10000#64), (2#5, 0x10000#64), (3#5, 0x7#64)], 0x7#64, 0b0000#4),
      (0x9B028C20, 0b0000#4, [(1#5, 0x3#64), (2#5, 0x4#64), (3#5, 0x5#64)], 0xFFFFFFFFFFFFFFF9#64, 0b0000#4),
      (0x9B02FC20, 0b0000#4, [(1#5, 0x3#64), (2#5, 0x4#64)], 0xFFFFFFFFFFFFFFF4#64, 0b0000#4),
      (0x9B220C20, 0b0000#4, [(1#5, 0xFFFFFFFF#64), (2#5, 0x2#64), (3#5, 0xA#64)], 0x8#64, 0b0000#4),
      (0x9BA20C20, 0b0000#4, [(1#5, 0xFFFFFFFF#64), (2#5, 0x2#64), (3#5, 0xA#64)], 0x200000008#64, 0b0000#4),
      (0x9B228C20, 0b0000#4, [(1#5, 0xFFFFFFFF#64), (2#5, 0x2#64), (3#5, 0xA#64)], 0xC#64, 0b0000#4),
      (0x9BA2FC20, 0b0000#4, [(1#5, 0xFFFFFFFF#64), (2#5, 0x2#64)], 0xFFFFFFFE00000002#64, 0b0000#4),
      (0x9B427C20, 0b0000#4, [(1#5, 0xFFFFFFFFFFFFFFFF#64), (2#5, 0x2#64)], 0xFFFFFFFFFFFFFFFF#64, 0b0000#4),
      (0x9B427C20, 0b0000#4, [(1#5, 0x8000000000000000#64), (2#5, 0x8000000000000000#64)], 0x4000000000000000#64, 0b0000#4),
      (0x9BC27C20, 0b0000#4, [(1#5, 0xFFFFFFFFFFFFFFFF#64), (2#5, 0x2#64)], 0x1#64, 0b0000#4),
      (0x9AC20820, 0b0000#4, [(1#5, 0x7#64), (2#5, 0x0#64)], 0x0#64, 0b0000#4) ] := by decide +kernel

theorem test_multiply_divide_crc_2 : GivesAll
    [ (0x1AC20820, 0b0000#4, [(1#5, 0xFFFFFFFF00000007#64), (2#5, 0x100000002#64)], 0x3#64, 0b0000#4),
      (0x9AC20C20, 0b0000#4, [(1#5, 0xFFFFFFFFFFFFFFF9#64), (2#5, 0x2#64)], 0xFFFFFFFFFFFFFFFD#64, 0b0000#4),
      (0x9AC20C20, 0b0000#4, [(1#5, 0xFFFFFFFFFFFFFFF9#64), (2#5, 0x0#64)], 0x0#64, 0b0000#4),
      (0x1AC24020, 0b0000#4, [(1#5, 0x0#64), (2#5, 0x0#64)], 0x0#64, 0b0000#4),
      (0x9AC24C20, 0b0000#4, [(1#5, 0xFFFFFFFF#64), (2#5, 0x6867666564636261#64)], 0x5110D5AF#64, 0b0000#4),
      (0x1AC25020, 0b0000#4, [(1#5, 0xFFFFFFFF#64), (2#5, 0x61#64)], 0x3E2FBCCF#64, 0b0000#4),
      (0x9AC25C20, 0b0000#4, [(1#5, 0xFFFFFFFF#64), (2#5, 0x6867666564636261#64)], 0xF56BDE48#64, 0b0000#4) ] := by decide +kernel

theorem test_branches_1 : JumpsAll
    [ (0x14000002, 0b0000#4, [], 0x1008#64, 0x0#64),
      (0x15FFFFFF, 0b0000#4, [], 0x8000FFC#64, 0x0#64),
      (0x94000040, 0b0000#4, [], 0x1100#64, 0x1004#64),
      (0x54000080, 0b0100#4, [], 0x1010#64, 0x0#64),
      (0x5400004B, 0b1000#4, [], 0x1008#64, 0x0#64),
      (0xB4000061, 0b0000#4, [(1#5, 0x0#64)], 0x100C#64, 0x0#64),
      (0xB4000061, 0b0000#4, [(1#5, 0x100000000#64)], 0x1004#64, 0x0#64),
      (0xB5000061, 0b0000#4, [(1#5, 0x1#64)], 0x100C#64, 0x0#64),
      (0xB500007F, 0b0000#4, [], 0x1004#64, 0x0#64),
      (0xB6F80041, 0b0000#4, [(1#5, 0x7FFFFFFFFFFFFFFF#64)], 0x1008#64, 0x0#64),
      (0x3707FFE1, 0b0000#4, [(1#5, 0x1#64)], 0xFFC#64, 0x0#64),
      (0xB7000041, 0b0000#4, [(1#5, 0xFFFFFFFF#64)], 0x1004#64, 0x0#64) ] := by decide +kernel

theorem test_branches_2 : JumpsAll
    [ (0xD61F0020, 0b0000#4, [(1#5, 0x4000#64)], 0x4000#64, 0x0#64),
      (0xD61F0020, 0b0000#4, [(1#5, 0x4002#64)], 0x4002#64, 0x0#64),
      (0xD63F0020, 0b0000#4, [(1#5, 0x4000#64)], 0x4000#64, 0x1004#64),
      (0xD63F03C0, 0b0000#4, [(30#5, 0x4000#64)], 0x4000#64, 0x1004#64),
      (0xD65F03C0, 0b0000#4, [(30#5, 0x2000#64)], 0x2000#64, 0x2000#64),
      (0xD65F00A0, 0b0000#4, [(5#5, 0x2468#64)], 0x2468#64, 0x0#64) ] := by decide +kernel

theorem test_memory_1 : AccessesAll
    [ ⟨0xF8401C20, [(1#5, 0x2000#64)], [(0x2000, 8, 0x8877665544332211), (0x2008, 8, 0xFF)], none, [(0#5,
        0xFF88776655443322#64), (1#5, 0x2001#64)], [], none⟩,
      ⟨0xF85F8420, [(1#5, 0x2000#64)], [(0x2000, 8, 0x8877665544332211)], none, [(0#5, 0x8877665544332211#64), (1#5,
        0x1FF8#64)], [], none⟩,
      ⟨0xF9400BE0, [(31#5, 0x3000#64)], [(0x3010, 8, 0x8877665544332211)], none, [(0#5, 0x8877665544332211#64)], [],
        none⟩,
      ⟨0x79400420, [(1#5, 0x2000#64)], [(0x2000, 8, 0x8877665544332211)], none, [(0#5, 0x4433#64)], [], none⟩,
      ⟨0x39801C20, [(1#5, 0x2000#64)], [(0x2000, 8, 0x8877665544332211)], none, [(0#5, 0xFFFFFFFFFFFFFF88#64)], [],
        none⟩,
      ⟨0x39C01C20, [(1#5, 0x2000#64)], [(0x2000, 8, 0x8877665544332211)], none, [(0#5, 0xFFFFFF88#64)], [], none⟩,
      ⟨0xB9000020, [(0#5, 0x8877665544332211#64), (1#5, 0x2000#64)], [], none, [], [(0x2000, 4, 0x44332211)], none⟩,
      ⟨0xF81F0FE0, [(0#5, 0x8877665544332211#64), (31#5, 0x3000#64)], [], none, [(31#5, 0x2FF0#64)], [(0x2FF0, 8,
        0x8877665544332211)], none⟩,
      ⟨0x38001420, [(0#5, 0x1234#64), (1#5, 0x2000#64)], [], none, [(1#5, 0x2001#64)], [(0x2000, 1, 0x34)], none⟩,
      ⟨0x58000080, [], [(0x1010, 8, 0x8877665544332211)], none, [(0#5, 0x8877665544332211#64)], [], none⟩ ] := by decide +kernel

theorem test_memory_2 : AccessesAll
    [ ⟨0x98000040, [], [(0x1008, 4, 0x80000000)], none, [(0#5, 0xFFFFFFFF80000000#64)], [], none⟩,
      ⟨0xB862D820, [(1#5, 0x2008#64), (2#5, 0xFFFFFFFF#64)], [(0x2000, 8, 0x8877665544332211)], none, [(0#5,
        0x88776655#64)], [], none⟩,
      ⟨0xF8227820, [(0#5, 0x8877665544332211#64), (1#5, 0x2000#64), (2#5, 0x2#64)], [], none, [], [(0x2010, 8,
        0x8877665544332211)], none⟩,
      ⟨0x784FF020, [(1#5, 0x1F01#64)], [(0x2000, 8, 0x8877665544332211)], none, [(0#5, 0x2211#64)], [], none⟩,
      ⟨0xF81F8020, [(0#5, 0x8877665544332211#64), (1#5, 0x2008#64)], [], none, [], [(0x2000, 8, 0x8877665544332211)],
        none⟩,
      ⟨0xB8800820, [(1#5, 0x2004#64)], [(0x2000, 8, 0x8877665544332211)], none, [(0#5, 0xFFFFFFFF88776655#64)], [],
        none⟩,
      ⟨0x78000820, [(0#5, 0x5A5B#64), (1#5, 0x2000#64)], [], none, [], [(0x2000, 2, 0x5A5B)], none⟩,
      ⟨0xA9BF7BFD, [(29#5, 0x1111#64), (30#5, 0x2222#64), (31#5, 0x3000#64)], [], none, [(31#5, 0x2FF0#64)],
        [(0x2FF0, 8, 0x1111), (0x2FF8, 8, 0x2222)], none⟩,
      ⟨0x29410440, [(2#5, 0x2000#64)], [(0x2008, 8, 0x8877665544332211)], none, [(0#5, 0x44332211#64), (1#5,
        0x88776655#64)], [], none⟩,
      ⟨0x69C10440, [(2#5, 0x2000#64)], [(0x2008, 8, 0x7FFFFFFF80000000)], none, [(0#5, 0xFFFFFFFF80000000#64), (1#5,
        0x7FFFFFFF#64), (2#5, 0x2008#64)], [], none⟩ ] := by decide +kernel

theorem test_memory_3 : AccessesAll
    [ ⟨0xA8820440, [(0#5, 0x1#64), (1#5, 0x2#64), (2#5, 0x2000#64)], [], none, [(2#5, 0x2020#64)], [(0x2000, 8, 0x1),
        (0x2008, 8, 0x2)], none⟩,
      ⟨0xA8410440, [(2#5, 0x2000#64)], [(0x2010, 8, 0x8877665544332211), (0x2018, 8, 0xFFEEDDCCBBAA9900)], none,
        [(0#5, 0x8877665544332211#64), (1#5, 0xFFEEDDCCBBAA9900#64)], [], none⟩,
      ⟨0xC85F7C20, [(1#5, 0x2000#64)], [(0x2000, 8, 0x8877665544332211)], none, [(0#5, 0x8877665544332211#64)], [],
        (some ⟨0x2000#64, 8⟩)⟩,
      ⟨0xC87F0440, [(2#5, 0x2000#64)], [(0x2000, 8, 0x8877665544332211), (0x2008, 8, 0xFFEEDDCCBBAA9900)], none,
        [(0#5, 0x8877665544332211#64), (1#5, 0xFFEEDDCCBBAA9900#64)], [], (some ⟨0x2000#64, 16⟩)⟩,
      ⟨0xC8037C20, [(0#5, 0xFFEEDDCCBBAA9900#64), (1#5, 0x2000#64), (3#5, 0x7#64)], [(0x2000, 8,
        0x8877665544332211)], (some ⟨0x2000#64, 8⟩), [(3#5, 0x0#64)], [(0x2000, 8, 0xFFEEDDCCBBAA9900)], none⟩,
      ⟨0xC8037C20, [(0#5, 0xFFEEDDCCBBAA9900#64), (1#5, 0x2000#64), (3#5, 0x7#64)], [(0x2000, 8,
        0x8877665544332211)], none, [(3#5, 0x1#64)], [], none⟩,
      ⟨0x88230440, [(0#5, 0x11111111#64), (1#5, 0x22222222#64), (2#5, 0x2000#64)], [], (some ⟨0x2000#64, 8⟩), [(3#5,
        0x0#64)], [(0x2000, 8, 0x2222222211111111)], none⟩,
      ⟨0xC8DFFC20, [(1#5, 0x2000#64)], [(0x2000, 8, 0x8877665544332211)], (some ⟨0x4000#64, 8⟩), [(0#5,
        0x8877665544332211#64)], [], (some ⟨0x4000#64, 8⟩)⟩,
      ⟨0x48DF7C20, [(1#5, 0x2000#64)], [(0x2000, 8, 0x8877665544332211)], none, [(0#5, 0x2211#64)], [], none⟩,
      ⟨0xC89FFC20, [(0#5, 0x8877665544332211#64), (1#5, 0x2000#64)], [], none, [], [(0x2000, 8, 0x8877665544332211)],
        none⟩ ] := by decide +kernel

theorem test_memory_4 : AccessesAll
    [ ⟨0xC8A17C43, [(1#5, 0x8877665544332211#64), (3#5, 0x1234#64), (2#5, 0x2000#64)], [(0x2000, 8,
        0x8877665544332211)], none, [(1#5, 0x8877665544332211#64)], [(0x2000, 8, 0x1234)], none⟩,
      ⟨0xC8A17C43, [(1#5, 0x99#64), (3#5, 0x1234#64), (2#5, 0x2000#64)], [(0x2000, 8, 0x8877665544332211)], none,
        [(1#5, 0x8877665544332211#64)], [], none⟩,
      ⟨0x88E1FC43, [(1#5, 0xFFFFFFFF44332211#64), (3#5, 0xAAAAAAAA00000005#64), (2#5, 0x2000#64)], [(0x2000, 8,
        0x8877665544332211)], none, [(1#5, 0x44332211#64)], [(0x2000, 4, 0x5)], none⟩,
      ⟨0x48207C44, [(0#5, 0x8877665544332211#64), (1#5, 0xFFEEDDCCBBAA9900#64), (4#5, 0x1#64), (5#5, 0x2#64), (2#5,
        0x2000#64)], [(0x2000, 8, 0x8877665544332211), (0x2008, 8, 0xFFEEDDCCBBAA9900)], none, [(0#5, 0x8877665544332211#64), (1#5, 0xFFEEDDCCBBAA9900#64)], [(0x2000, 8, 0x1), (0x2008, 8, 0x2)], none⟩,
      ⟨0x08207C44, [(0#5, 0x44332211#64), (1#5, 0x0#64), (4#5, 0x1#64), (5#5, 0x2#64), (2#5, 0x2000#64)], [(0x2000,
        8, 0x8877665544332211)], none, [(0#5, 0x44332211#64), (1#5, 0x88776655#64)], [], none⟩,
      ⟨0xB8210040, [(1#5, 0x1#64), (2#5, 0x2000#64)], [(0x2000, 4, 0xFFFFFFFF)], none, [(0#5, 0xFFFFFFFF#64)],
        [(0x2000, 4, 0x0)], none⟩,
      ⟨0xF821005F, [(1#5, 0x1#64), (2#5, 0x2000#64)], [(0x2000, 8, 0x8877665544332211)], none, [], [(0x2000, 8,
        0x8877665544332212)], none⟩,
      ⟨0xF8211040, [(1#5, 0xFF#64), (2#5, 0x2000#64)], [(0x2000, 8, 0x8877665544332211)], none, [(0#5,
        0x8877665544332211#64)], [(0x2000, 8, 0x8877665544332200)], none⟩,
      ⟨0x38212040, [(1#5, 0xFF#64), (2#5, 0x2000#64)], [(0x2000, 8, 0x8877665544332211)], none, [(0#5, 0x11#64)],
        [(0x2000, 1, 0xEE)], none⟩,
      ⟨0xF8213040, [(1#5, 0xF0#64), (2#5, 0x2000#64)], [(0x2000, 8, 0x8877665544332211)], none, [(0#5,
        0x8877665544332211#64)], [(0x2000, 8, 0x88776655443322F1)], none⟩ ] := by decide +kernel

theorem test_memory_5 : AccessesAll
    [ ⟨0xB8214040, [(1#5, 0x1#64), (2#5, 0x2000#64)], [(0x2000, 4, 0xFFFFFFFF)], none, [(0#5, 0xFFFFFFFF#64)],
        [(0x2000, 4, 0x1)], none⟩,
      ⟨0xB8216040, [(1#5, 0x1#64), (2#5, 0x2000#64)], [(0x2000, 4, 0xFFFFFFFF)], none, [(0#5, 0xFFFFFFFF#64)],
        [(0x2000, 4, 0xFFFFFFFF)], none⟩,
      ⟨0xF8215040, [(1#5, 0x1#64), (2#5, 0x2000#64)], [(0x2000, 8, 0xFFFFFFFFFFFFFFFF)], none, [(0#5,
        0xFFFFFFFFFFFFFFFF#64)], [(0x2000, 8, 0xFFFFFFFFFFFFFFFF)], none⟩,
      ⟨0xF8217040, [(1#5, 0x1#64), (2#5, 0x2000#64)], [(0x2000, 8, 0xFFFFFFFFFFFFFFFF)], none, [(0#5,
        0xFFFFFFFFFFFFFFFF#64)], [(0x2000, 8, 0x1)], none⟩,
      ⟨0x78215040, [(1#5, 0x8000#64), (2#5, 0x2000#64)], [(0x2000, 2, 0x7FFF)], none, [(0#5, 0x7FFF#64)], [(0x2000,
        2, 0x8000)], none⟩,
      ⟨0xB8E18041, [(1#5, 0x5#64), (2#5, 0x2000#64)], [(0x2000, 8, 0x8877665544332211)], none, [(1#5,
        0x44332211#64)], [(0x2000, 4, 0x5)], none⟩,
      ⟨0x782183E0, [(1#5, 0xABCD#64), (31#5, 0x3000#64)], [(0x3000, 8, 0x8877665544332211)], none, [(0#5,
        0x2211#64)], [(0x3000, 2, 0xABCD)], none⟩ ] := by decide +kernel

theorem test_stack_pointer_operands :
    (after 0x910043E0 (given base [(31#5, 0x8000#64)])).readX 0#5 = 0x8010#64 ∧
    (after 0x9100003F (given base [(1#5, 0x9001#64)])).sp = 0x9001#64 ∧
    (after 0x927CEC3F (given base [(1#5, 0x8FFF#64)])).sp = 0x8FF0#64 ∧
    (after 0xB0000000 { base with pc := 0x1FFC#64 }).readX 0#5 = 0x2000#64 ∧
    (after 0x90800000 { base with pc := 0x10#64 }).readX 0#5 = 0xFFFFFFFF00000000#64 := by decide +kernel

theorem test_reserved_operands_are_undefined : ∀ w ∈
    [ 0x91800420, 0x8B227420, 0x8BC20420, 0x12401C20, 0x9240FC20, 0x52C00020, 0xD3001C20, 0x53200020,
      0x93820020, 0x1AC24C20, 0xF8622820, 0x48217CC4, 0xD500401F, 0xF8408421, 0xA9400040, 0xC8007C20 ],
    (after w base).el1.esr = 0x02000000#64 ∧ (after w base).el1.elr = 0x1000#64 := by decide +kernel

theorem test_access_faults : TakesAll
    [ (given base [(31#5, 0x3008#64)], 0xF94003E0, 0x9A000000#64, 0x1000#64, 0x3C5#64, 0x80200#64),
      (given base [(1#5, 0x2001#64)], 0x485F7C20, 0x96000021#64, 0x1000#64, 0x3C5#64, 0x80200#64),
      (given base [(1#5, 0x2001#64)], 0x889FFC20, 0x96000061#64, 0x1000#64, 0x3C5#64, 0x80200#64),
      (given base [(1#5, 0x1#64), (2#5, 0x2001#64)], 0x78210040, 0x96000021#64, 0x1000#64, 0x3C5#64, 0x80200#64),
      (given (under base fun c => { c with unmapped := [⟨0x2007, 1⟩] }) [(1#5, 0x2000#64)], 0xF9000020,
        0x96000044#64, 0x1000#64, 0x3C5#64, 0x80200#64) ] := by decide +kernel

theorem test_exceptions : TakesAll
    [ (base, 0xD4200020, 0xF2000001#64, 0x1000#64, 0x3C5#64, 0x80200#64),
      (user, 0xD43FFFE0, 0xF200FFFF#64, 0x1000#64, 0x0#64, 0x80400#64),
      (user.writeFlags (Flags.ofBits 6#4), 0xD4000001, 0x56000000#64, 0x1004#64, 0x60000000#64, 0x80400#64),
      (base, 0xD4001001, 0x56000080#64, 0x1004#64, 0x3C5#64, 0x80200#64),
      (base, 0xD4000002, 0x02000000#64, 0x1000#64, 0x3C5#64, 0x80200#64),
      (base, 0xD4000003, 0x02000000#64, 0x1000#64, 0x3C5#64, 0x80200#64),
      (base, 0xD4400000, 0x02000000#64, 0x1000#64, 0x3C5#64, 0x80200#64),
      (base, 0xD4A00001, 0x02000000#64, 0x1000#64, 0x3C5#64, 0x80200#64),
      (base, 0xD6BF03E0, 0x02000000#64, 0x1000#64, 0x3C5#64, 0x80200#64),
      (user, 0xD69F03E0, 0x02000000#64, 0x1000#64, 0x0#64, 0x80400#64) ] := by decide +kernel

theorem test_traps : TakesAll
    [ (user, 0xD503205F, 0x07E00001#64, 0x1000#64, 0x0#64, 0x80400#64),
      (user, 0xD503207F, 0x07E00000#64, 0x1000#64, 0x0#64, 0x80400#64),
      (user, 0xD50342DF, 0x620CD3E4#64, 0x1000#64, 0x0#64, 0x80400#64),
      (user, 0xD5384240, 0x02000000#64, 0x1000#64, 0x0#64, 0x80400#64),
      (user, 0xD518C000, 0x02000000#64, 0x1000#64, 0x0#64, 0x80400#64),
      (user, 0xD5088720, 0x02000000#64, 0x1000#64, 0x0#64, 0x80400#64),
      (base, 0xD50C871F, 0x02000000#64, 0x1000#64, 0x3C5#64, 0x80200#64),
      (base, 0xD508001F, 0x02000000#64, 0x1000#64, 0x3C5#64, 0x80200#64),
      (base, 0xD5280000, 0x02000000#64, 0x1000#64, 0x3C5#64, 0x80200#64) ] := by decide +kernel

theorem test_fetch_exceptions : TakesAll
    [ (base, 0, 0x02000000#64, 0x1000#64, 0x3C5#64, 0x80200#64),
      ({ base with pc := 0x2002#64 }, 0xD503201F, 0x8A000000#64, 0x2002#64, 0x3C5#64, 0x80200#64),
      ({ base with p := { base.p with il := true } }, 0xD503201F, 0x3A000000#64, 0x1000#64, 0x1003C5#64, 0x80200#64),
      (under user (fun c => { c with unmapped := [⟨0x1003, 1⟩] }), 0xD503201F, 0x82000004#64, 0x1000#64, 0x0#64,
        0x80400#64) ] := by decide +kernel

/-- HVC to EL2 and SMC to EL3. -/
theorem test_higher_levels :
    let t := after 0xD4000022 { under base (fun c => { c with haveEL2 := true }) with
      el2 := { base.el2 with vbar := 0x90000#64 } }
    let u := after 0xD4000003 { under base (fun c => { c with haveEL3 := true }) with
      el3 := { base.el3 with vbar := 0xA0000#64 } }
    t.el2.esr = 0x5A000001#64 ∧ t.el2.elr = 0x1004#64 ∧ t.pc = 0x90400#64 ∧ t.p.el = .el2 ∧
    u.el3.esr = 0x5E000000#64 ∧ u.el3.elr = 0x1004#64 ∧ u.pc = 0xA0400#64 ∧ u.p.el = .el3 := by decide +kernel

theorem test_exception_entry_sets_pan :
    (after 0xD4000001 { base with el1 := { base.el1 with sctlr := 8#64 } }).p.pan = true ∧
    (after 0xD4000001 base).p.pan = false := by decide +kernel

theorem test_eret :
    let start := fun spsr => { base with
      monitor := some ⟨0x3000#64, 4⟩, el1 := { base.el1 with elr := 0x2000#64, spsr := spsr } }
    let t := after 0xD69F03E0 (start 0x60000000#64)
    let u := after 0xD69F03E0 (start 0x9#64)
    t.pc = 0x2000#64 ∧ t.p.el = .el0 ∧ t.p.sp = false ∧ t.p.flags.toBits = 6#4 ∧ t.p.d = false ∧ t.monitor = none ∧
    t.event = true ∧ u.pc = 0x2000#64 ∧ u.p.el = .el1 ∧ u.p.sp = true ∧ u.p.il = true ∧ u.p.a = false := by decide +kernel

/-- An IRQ that is not masked is taken between instructions. -/
theorem test_irq :
    let t := after 0xD503201F { user with pc := 0x1008#64, irqPending := true }
    t.el1.elr = 0x1008#64 ∧ t.pc = 0x80480#64 ∧ t.p.el = .el1 ∧ t.p.i = true ∧ t.el1.esr = 0#64 := by decide +kernel

theorem test_hints_and_events :
    (after 0xD503201F base).pc = 0x1004#64 ∧ (after 0xD503205F { base with event := true }).event = false ∧
    (after 0xD503209F base).event = true ∧ (after 0xD50320BF base).event = true ∧
    (after 0xD503207F { base with irqPending := true }).pc = 0x1004#64 ∧ (after 0xD503221F base).pc = 0x1004#64 ∧
    (after 0xD503223F base).pc = 0x1004#64 ∧ (after 0xD5033FBF base).pc = 0x1004#64 ∧
    (after 0xD5033F9F base).pc = 0x1004#64 ∧ (after 0xD5033FDF base).pc = 0x1004#64 ∧
    (after 0xD5032FFF base).pc = 0x1004#64 ∧ (after 0xF9800020 base).pc = 0x1004#64 ∧
    (after 0xD503305F { base with monitor := some ⟨0x2000#64, 8⟩ }).monitor = none := by decide +kernel

theorem test_system_registers :
    (after 0xD53B4200 (base.writeFlags (Flags.ofBits 6#4))).readX 0#5 = 0x60000000#64 ∧
    (after 0xD5384240 base).readX 0#5 = 4#64 ∧ (after 0xD53B4220 base).readX 0#5 = 0x3C0#64 ∧
    (after 0xD51B4200 (given base [(0#5, 0x90000000#64)])).p.flags.toBits = 9#4 ∧
    (after 0xD51BD041 (given base [(1#5, 0x1234#64)])).tpidr = 0x1234#64 ∧
    (after 0xD518C000 (given base [(0#5, 0x80123#64)])).el1.vbar = 0x80000#64 ∧
    (after 0xD518401F { base with el1 := { base.el1 with spsr := 0x3C5#64 } }).el1.spsr = 0#64 := by decide +kernel

theorem test_pstate_fields :
    (after 0xD5034FFF base).p.daifImage = 0#64 ∧
    (after 0xD50342DF { base with p := { base.p with d := false, a := false, i := false, f := false } }).p.daifImage
      = 0x80#64 ∧
    (after 0xD50040BF { base with spEL0 := 0x7000#64 }).sp = 0x7000#64 ∧ (after 0xD500419F base).p.pan = true ∧
    (after 0xD500407F { base with p := { base.p with uao := true } }).p.uao = false := by decide +kernel

theorem test_system_instructions :
    let zva := after 0xD50B7420 (given (holding base [(0x1FF8, 8, 0xFF), (0x2000, 8, 0xFF), (0x2038, 8, 0xFF),
      (0x2040, 8, 0xFF)]) [(0#5, 0x2010#64)])
    zva.loadBytes 0x2000#64 64 = 0#512 ∧ zva.mem.byte 0x1FF8#64 = 0xFF#8 ∧ zva.mem.byte 0x2040#64 = 0xFF#8 ∧
    (after 0xD5087800 (given base [(0#5, 0x12345678#64)])).pc = 0x1004#64 ∧
    (after 0xD508751F base).pc = 0x1004#64 ∧ (after 0xD508831F base).pc = 0x1004#64 ∧
    (after 0xD50B7A20 base).pc = 0x1004#64 := by decide +kernel

/-- Big-endian data: the most significant byte at the lowest address; instructions stay little-endian. -/
theorem test_big_endian :
    let s := { under base (fun c => { c with bigEndianSupported := true }) with
      el1 := { base.el1 with sctlr := 0x2800008#64 } }
    let t := after 0xB9000020 (given s [(0#5, 0x11223344#64), (1#5, 0x2000#64)])
    t.mem.byte 0x2000#64 = 0x11#8 ∧ t.mem.byte 0x2003#64 = 0x44#8 := by decide +kernel

/-- Of a pair, the lower element is checked first: it is denied for writing, and the upper one is unmapped (60 R803(8)). -/
theorem test_pairs_check_the_lower_element_first :
    let s := under base fun c => { c with unmapped := [⟨0x2008, 8⟩], denied := [⟨⟨0x2000, 8⟩, .el1, .write⟩] }
    let casp := after 0x48207C44 (given s [(2#5, 0x2000#64)])
    let stxp := after 0xC8230440 { given s [(2#5, 0x2000#64)] with monitor := some ⟨0x2000#64, 16⟩ }
    casp.el1.esr = 0x9600004F#64 ∧ casp.el1.far = 0x2000#64 ∧ stxp.el1.esr = 0x9600004F#64 ∧ stxp.el1.far = 0x2000#64 := by
  decide +kernel

/-- SP_EL2 is a register only where EL2 exists (10 R45). -/
theorem test_sp_el2_needs_el2 :
    let s := { under base (fun c => { c with haveEL3 := true }) with
      p := { base.p with el := .el3 }, spEL2 := 0x7000#64, el3 := { base.el3 with vbar := 0xA0000#64 } }
    let t := after 0xD53E4100 s
    t.el3.esr = 0x02000000#64 ∧ t.pc = 0xA0200#64 ∧
    (after 0xD53E4100 (under s fun c => { c with haveEL2 := true })).readX 0#5 = 0x7000#64 := by decide +kernel

/-- At EL3 without EL2 the registers of EL2 can be used (10 R61(2), R62), but HCR_EL2, which does not exist (10 R67), and no
TLBI of EL2 (49 R747). -/
theorem test_el2_registers_without_el2 :
    let s := { under base (fun c => { c with haveEL3 := true }) with
      p := { base.p with el := .el3 }, spEL1 := 0x6000#64, el3 := { base.el3 with vbar := 0xA0000#64 } }
    (after 0xD53C4100 s).readX 0#5 = 0x6000#64 ∧ (after 0xD51C4100 (given s [(0#5, 0x5550#64)])).spEL1 = 0x5550#64 ∧
    (after 0xD53C1100 s).el3.esr = 0x02000000#64 ∧ (after 0xD50C871F s).el3.esr = 0x02000000#64 ∧
    (after 0xD50C871F (under s fun c => { c with haveEL2 := true })).pc = 0x1004#64 := by decide +kernel

/-- An IRQ that is due at a WFI: the WFI completes, even if one follows it, and the IRQ is taken with ELR = 0x1004; after an
ERET it is taken before the WFI (49 R715, 60 R840). -/
theorem test_interrupt_due_at_wfi :
    let s := { base with irqPending := true, p := { base.p with i := false } }
    let waited := after 0xD503207F s
    let e := { base with
      irqPending := true, el1 := { base.el1 with elr := 0x3000#64, spsr := 5#64 }
      mem := base.mem.setBytes 0x3000#64 (tableBytes 32 0xD503207F) }
    waited.pc = 0x1004#64 ∧ waited.irqPending = true ∧ waited.p.i = false ∧
    (after 0xD503207F waited).el1.elr = 0x1004#64 ∧ (after 0xD503207F waited).pc = 0x80280#64 ∧
    (after 0xD503201F s).el1.elr = 0x1000#64 ∧ (after 0xD69F03E0 e).pc = 0x3000#64 ∧
    (after 0xD503207F (after 0xD69F03E0 e)).el1.elr = 0x3000#64 := by decide +kernel

/-- An SError to EL1 and an IRQ to EL3 are both due: the IRQ is taken after the entry of the SError, before the WFI at its
vector (60 R822); likewise an IRQ that a step asserts after an SVC. -/
theorem test_interrupt_due_after_entry :
    let s := { under base (fun c => { c with haveEL3 := true, interruptRouting := true }) with
      scr := 3#64, serrorPending := true, irqPending := true, p := { base.p with el := .el1, a := false } }
    let entered := after 0xD503201F s
    let called := after 0xD4000001 { s with serrorPending := false, irqPending := false }
    entered.pc = 0x80380#64 ∧ entered.el1.elr = 0x1000#64 ∧ (after 0xD503207F entered).el3.elr = 0x80380#64 ∧
    called.pc = 0x80200#64 ∧ (after 0xD503207F { called with irqPending := true }).el3.elr = 0x80200#64 := by decide +kernel

/-- A spurious clear opens the monitor and sends no event; a store by another observer in its granule does both (20 R127). -/
theorem test_environment_and_monitor :
    let s := fun a => { base with monitor := some ⟨0x2000#64, 8⟩, env := [[a]] }
    (after 0xD503201F (s .spuriousClear)).monitor = none ∧ (after 0xD503201F (s .spuriousClear)).event = false ∧
    (after 0xD503201F (s (.store 0x2008#64 1#8))).monitor = none ∧
    (after 0xD503201F (s (.store 0x2008#64 1#8))).event = true := by decide +kernel

/-- An Undefined in Debug state is not taken as an exception (49 R706). -/
theorem test_undefined_in_debug_state :
    let s := { under user (fun c => { c with haveEL2 := true }) with halted := true, hcr := 0x8000000#64 }
    exec (.dcps1 0#16) s = .next s := rfl

/-- A system register that the user of the model adds (10 R62), which MSR writes in its low half. -/
theorem test_added_system_register :
    let r : ExtraReg := ⟨0xC687#16, true, true, 0xFFFFFFFF#64, 0x11#64⟩
    let s := { under base (fun c => { c with sysRegs := c.sysRegs ++ [.extra r] }) with
      extra := extraRegsReset [.extra r] }
    (after 0xD538D0E0 s).readX 0#5 = 0x11#64 ∧
    (after 0xD538D0E0 (after 0xD518D0E1 (given s [(1#5, 0xFFFFFFFF00000022#64)]))).readX 0#5 = 0x22#64 ∧
    (after 0xD538D0E0 base).el1.esr = 0x02000000#64 := by decide +kernel

/-- A step in Debug state stops. -/
theorem test_debug_state_stops : continues { base with halted := true } = false := by decide +kernel

/-- HLT enters Debug state where halting is allowed. -/
theorem test_hlt :
    let t := after 0xD4400000 { base with haltingAllowed := true, edscr := 0x4000#32 }
    t.halted = true ∧ t.dlr = 0x1000#64 ∧ t.dspsr = 0x3C5#64 := by decide +kernel

/-! ## Witnesses: for every statement with hypotheses, states and operands that meet them, for each clause -/

theorem witness_DecodeOfEncodeIsBase :
    (Instr.bfi 1#1 1#1 63#6 62#6 30#5 31#5).wellFormed = true ∧ (Instr.b 0x2000000#26).wellFormed = true := by decide +kernel

theorem witness_DecodeKeepsEveryBit :
    decode 0xC8407C20#32 = .ok (.ldxr 1#1 1#5 0#5) ∧ decode 0xD69F03E0#32 = .ok .eret := by decide +kernel

/-- With an environment that acts first: it stores the second byte of the word. -/
theorem witness_StepRunsDecodedInstruction :
    let s := { base.withFetchWord 32 0xD503001F with env := [[.store 0x1001#64 0x20#8]] }
    s.halted = false ∧ Fetches s.environment ∧ decode (wordAt s.environment) = .ok .nop := by decide +kernel

theorem witness_FetchExceptions_alignment : base.halted = false ∧ base.env = [] ∧ base.nextInterrupt = none ∧
    ¬({ base with pc := 0x1002#64 } : State).pc.toNat % 4 = 0 := by decide +kernel

theorem witness_FetchExceptions_translation :
    let s := under base fun c => { c with unmapped := [⟨0x1003, 1⟩] }
    s.nextInterrupt = none ∧ s.pc.toNat % 4 = 0 ∧
      ¬∀ k, k < 4 → s.mapped (s.pc + BitVec.ofNat 64 k) = true := by decide +kernel

theorem witness_FetchExceptions_permission :
    let s := under base fun c => { c with denied := [⟨⟨0x1000, 1⟩, .el1, .execute⟩] }
    s.nextInterrupt = none ∧ s.pc.toNat % 4 = 0 ∧ (∀ k, k < 4 → s.mapped (s.pc + BitVec.ofNat 64 k) = true) ∧
      ¬∀ k, k < 4 → s.platformAllows s.p.el .execute (s.pc + BitVec.ofNat 64 k) = true := by decide +kernel

theorem witness_FetchExceptions_illegal_state :
    let s := { base with pc := 0xFFFFFFFFFFFFFFFC#64, p := { base.p with il := true } }
    s.nextInterrupt = none ∧ s.pc.toNat % 4 = 0 ∧ s.p.il = true ∧
      ∀ k, k < 4 → s.mapped (s.pc + BitVec.ofNat 64 k) = true ∧
        s.platformAllows s.p.el .execute (s.pc + BitVec.ofNat 64 k) = true := by decide +kernel

theorem witness_FetchExceptions_undefined :
    base.pc.toNat % 4 = 0 ∧ base.p.il = false ∧ (∀ k, k < 4 → base.mapped (base.pc + BitVec.ofNat 64 k) = true ∧
      base.platformAllows base.p.el .execute (base.pc + BitVec.ofNat 64 k) = true) ∧
    ∀ i, decode (wordAt base) ≠ .ok i := by
  refine ⟨by decide, by decide, by decide, fun i h => ?_⟩
  rw [show decode (wordAt base) = .error (.unallocated 0#32) from by decide] at h
  cases h

theorem witness_ReservedOperandsAreUndefined :
    (Instr.addImmediate 1#1 2#2 0#12 0#5 0#5).core = .addImmediate 1#1 2#2 0#12 0#5 0#5 ∧
    (Instr.addImmediate 1#1 2#2 0#12 0#5 0#5).wellFormed = false ∧
    ∀ crm op2, Instr.addImmediate 1#1 2#2 0#12 0#5 0#5 ≠ .hint crm op2 :=
  ⟨rfl, by decide, nofun⟩

theorem witness_ResetState : ({ Config.default with bigEndianSupported := true } : Config).bigEndianSupported = true := by decide +kernel

theorem witness_StepKeepsLegal : base.Legal ∧ continues (base.withFetchWord 32 0xD503201F) = true :=
  ⟨⟨by decide, by decide, by decide, by decide, by decide, by decide, by decide, ⟨by decide, by decide⟩,
    ⟨by decide, by decide⟩, ⟨by decide, by decide⟩⟩, by decide⟩

theorem witness_UserCodeKeepsSystemControl : user.p.el = .el0 ∧ continues user = true := by decide +kernel

theorem witness_RaisingLevelIsExceptionEntry :
    user.p.el.toNat < (after 0xD4000001 user).p.el.toNat ∧ continues (user.withFetchWord 32 0xD4000001) = true := by decide +kernel

theorem witness_ZeroRegister : (30#5 : Reg) ≠ 31#5 ∧ (0#5 : Reg) ≠ 30#5 := by decide +kernel

theorem witness_AddSubImmediate : (1#2 : BitVec 2) = 0#2 ∨ (1#2 : BitVec 2) = 1#2 := by decide +kernel

theorem witness_AddSubShifted : (2#2 : BitVec 2) ≠ 3#2 ∧ (31#6).toNat < datasize 0#1 ∧ (63#6).toNat < datasize 1#1 := by decide +kernel

theorem witness_AddSubExtended : (4#3).toNat ≤ 4 := by decide +kernel

theorem witness_LogicalShifted : (31#6).toNat < datasize 0#1 ∧ (63#6).toNat < datasize 1#1 := by decide +kernel

theorem witness_LogicalImmediate :
    (logicalImmediate 1#1 0#1 0b111100#6 1#6).map BitVec.toNat = some 0xAAAAAAAAAAAAAAAA ∧
    (logicalImmediate 0#1 0#1 30#6 0#6).map BitVec.toNat = some 0x7FFFFFFF := by decide +kernel

theorem witness_BitMaskShape :
    (logicalImmediate 1#1 1#1 62#6 63#6).isSome = true ∧ (logicalImmediate 0#1 0#1 0b111101#6 0#6).isSome = false := by decide +kernel

theorem witness_MoveWide : 16 * (1#2).toNat < datasize 0#1 ∧ 16 * (3#2).toNat < datasize 1#1 := by decide +kernel

theorem witness_ShiftsAndExtracts : (31#6).toNat < datasize 0#1 ∧ (63#6).toNat < datasize 1#1 := by decide +kernel

theorem witness_UnsignedBitfield : (31#6).toNat < datasize 0#1 ∧ (30#6).toNat < datasize 0#1 ∧
    (30#6).toNat + 1 = (31#6).toNat ∧ (63#6).toNat < datasize 1#1 := by decide +kernel

theorem witness_SignedBitfield : (31#6).toNat < datasize 0#1 ∧ (63#6).toNat < datasize 1#1 := by decide +kernel

theorem witness_BitfieldInsert : (31#6).toNat < datasize 0#1 ∧ (63#6).toNat < datasize 1#1 := by decide +kernel

theorem witness_Crc32Results :
    ((1#1 : BitVec 1) = 1#1 ↔ (3#2 : BitVec 2) = 3#2) ∧ ((0#1 : BitVec 1) = 1#1 ↔ (2#2 : BitVec 2) = 3#2) ∧
    base.cfg.haveCRC = true ∧ (under base fun c => { c with haveCRC := false }).cfg.haveCRC = false := by decide +kernel

/-- A stack pointer that is aligned, and one whose alignment is not checked. -/
theorem witness_OffsetLoads :
    base.BaseReady 31#5 ∧ ({ user with spEL0 := 8#64 } : State).BaseReady 31#5 ∧
    base.Allowed 0xFFFFFFFFFFFFFFFF#64 1 .normal .read ∧ base.Allowed 0xFFFFFFFFFFFFFFFF#64 2 .normal .read ∧
    base.Allowed 0xFFFFFFFFFFFFFFFD#64 4 .unpriv .read ∧ base.Allowed 0xFFFFFFFFFFFFFFF9#64 8 .unpriv .read ∧
    ({ base with el1 := { base.el1 with sctlr := 2#64 } } : State).Allowed 0x2008#64 8 .normal .read := by decide +kernel

theorem witness_OffsetStores :
    base.mem.wf ∧ base.BaseReady 31#5 ∧ base.Allowed 0xFFFFFFFFFFFFFFFF#64 1 .normal .write ∧
    base.Allowed 0xFFFFFFFFFFFFFFFF#64 2 .unpriv .write ∧ base.Allowed 0xFFFFFFFFFFFFFFF9#64 8 .normal .write := by decide +kernel

theorem witness_WritebackAccesses :
    base.mem.wf ∧ ((2#5 : Reg) = 31#5 ∨ (2#5 : Reg) ≠ 3#5) ∧ ((31#5 : Reg) = 31#5 ∨ (31#5 : Reg) ≠ 31#5) ∧
    base.BaseReady 2#5 ∧ base.BaseReady 31#5 ∧ base.Allowed 0x2001#64 8 .normal .read ∧
    base.Allowed 0x2001#64 8 .normal .write := by decide +kernel

/-- Each choice, with accesses that are allowed, for a single register and for both registers of a pair. -/
theorem witness_WritebackOverlaps :
    (30#5 : Reg) ≠ 31#5 ∧ PairForm.pre.BaseOverlaps 0#5 0#5 1#5 ∧ PairForm.post.BaseOverlaps 30#5 1#5 30#5 ∧
    (∀ l ∈ [LoadWritebackChoice.undef, .nop, .wbSuppress, .unknown],
      let s := choosing fun c => { c with ldWbackOverlap := l }
      s.cfg.constrain.ldWbackOverlap = l ∧ s.Allowed (s.readX 30#5) 8 .normal .read ∧
      s.Allowed (s.readX 30#5 + BitVec.ofNat 64 8) 8 .normal .read) ∧
    (∀ c ∈ [StoreWritebackChoice.undef, .nop, .none, .unknown],
      let s := choosing fun d => { d with stWbackOverlap := c }
      s.cfg.constrain.stWbackOverlap = c ∧ s.mem.wf ∧ s.Allowed (s.readX 30#5) 8 .normal .write ∧
      s.Allowed (s.readX 30#5 + BitVec.ofNat 64 8) 8 .normal .write) := by decide +kernel

/-- Aborts of the accesses that the overlapping forms make, of either element of a pair. -/
theorem witness_WritebackOverlaps_aborts :
    AccessAbort holes 0x2000#64 8 .normal .read False (.dataAbort 0x2007#64 .translation false false) ∧
    AccessAbort holes 0x4008#64 8 .normal .write False (.dataAbort 0x400F#64 .permission true false) ∧
    PairAborts holes 0x2000#64 8 .normal .read (.dataAbort 0x2007#64 .translation false false) ∧
    PairAborts holes 0x4000#64 8 .normal .write (.dataAbort 0x400F#64 .permission true false) :=
  ⟨.inr (.inl ⟨by decide, 7, false, by decide +kernel, by decide, rfl⟩),
    .inr (.inr ⟨by decide, by decide +kernel, 7, true, by decide +kernel, by decide +kernel, rfl⟩),
    .inl (.inr (.inl ⟨by decide, 7, false, by decide +kernel, by decide, rfl⟩)),
    .inr ⟨by decide +kernel, .inr (.inr ⟨by decide, by decide +kernel, 7, true, by decide +kernel, by decide +kernel, rfl⟩)⟩⟩

theorem witness_RegisterOffset :
    (2#3 : BitVec 3).getLsbD 1 = true ∧ base.mem.wf ∧ base.BaseReady 31#5 ∧ base.Allowed 0x2001#64 8 .normal .read ∧
    base.Allowed 0x2001#64 8 .normal .write := by decide +kernel

theorem witness_LiteralLoadsAndPrefetches :
    base.Allowed (base.pc + words 0x40000#19) (wordBytes 1#1) .normal .read ∧
    base.Allowed (base.pc + words 0x3FFFF#19) 4 .normal .read ∧ (7#3 : BitVec 3).getLsbD 1 = true := by decide +kernel

/-- Two registers; and one register twice, alone and with the base overlap that suppresses the writeback. -/
theorem witness_PairAccesses :
    base.mem.wf ∧ (0#5 : Reg) ≠ 1#5 ∧ ¬PairForm.pre.BaseOverlaps 2#5 0#5 1#5 ∧ ¬PairForm.post.BaseOverlaps 31#5 31#5 1#5 ∧
    base.BaseReady 2#5 ∧ base.BaseReady 31#5 ∧
    base.Allowed 0xFFFFFFFFFFFFFFF8#64 8 .normal .read ∧ base.Allowed 0#64 8 .normal .read ∧
    base.Allowed 0xFFFFFFFFFFFFFFF8#64 8 .stream .write ∧ base.Allowed 0#64 8 .stream .write ∧
    ∀ l ∈ [LoadPairChoice.undef, .nop, .unknown],
      let s := choosing fun c => { c with ldPairOverlap := l, ldWbackOverlap := .wbSuppress }
      s.cfg.constrain.ldPairOverlap = l ∧ s.cfg.constrain.ldWbackOverlap = .wbSuppress ∧
      PairForm.pre.BaseOverlaps 2#5 2#5 2#5 ∧ ¬PairForm.pre.BaseOverlaps 2#5 3#5 3#5 := by decide +kernel

theorem witness_OrderedAccesses :
    base.mem.wf ∧ base.cfg.haveLOR = true ∧ base.BaseReady 31#5 ∧ base.Allowed 0xFFFFFFFFFFFFFFF8#64 8 .ordered .read ∧
    base.Allowed 0xFFFFFFFFFFFFFFF8#64 8 .limitedOrdered .read ∧ base.Allowed 0x2002#64 2 .ordered .write ∧
    base.Allowed 0x2004#64 4 .limitedOrdered .write ∧
    (under base fun c => { c with haveLOR := false }).cfg.haveLOR = false := by decide +kernel

/-- Accesses that are allowed, the choices of one register twice, and the aborts of either element. -/
theorem witness_ExclusiveLoads :
    (0#5 : Reg) ≠ 1#5 ∧ base.BaseReady 31#5 ∧ base.Allowed 0x2008#64 8 .atomic .read ∧
    base.Allowed 0x2010#64 16 .atomic .read ∧ base.Allowed 0x2010#64 16 .ordered .read ∧
    ∀ l ∈ [LoadPairChoice.undef, .nop, .unknown],
      (choosing fun c => { c with ldPairOverlap := l }).cfg.constrain.ldPairOverlap = l := by decide +kernel

theorem witness_ExclusiveLoads_aborts :
    ¬(given base [(31#5, 8#64)]).BaseReady 31#5 ∧
    AccessAbort holes 0x2001#64 8 .atomic .read False (.dataAbort 0x2001#64 .alignment false false) ∧
    AccessAbort holes 0x2000#64 8 .ordered .read False (.dataAbort 0x2007#64 .translation false false) ∧
    AccessAbort holes 0x3008#64 8 .atomic .read False (.dataAbort 0x300F#64 .permission false false) ∧
    PairAbort holes 0x2008#64 8 .atomic .read False (.dataAbort 0x2008#64 .alignment false false) ∧
    PairAbort holes 0x2000#64 4 .atomic .read False (.dataAbort 0x2007#64 .translation false false) ∧
    PairAbort holes 0x3000#64 8 .ordered .read False (.dataAbort 0x300F#64 .permission false false) :=
  ⟨by decide, .inl ⟨by decide, false, by decide, rfl⟩,
    .inr (.inl ⟨by decide, 7, false, by decide +kernel, by decide, rfl⟩),
    .inr (.inr ⟨by decide, by decide +kernel, 7, false, by decide +kernel, by decide, rfl⟩),
    .inl ⟨by decide, false, by decide, rfl⟩,
    .inr ⟨by decide, .inr ⟨by decide +kernel, .inr (.inl ⟨by decide, 3, false, by decide +kernel, by decide, rfl⟩)⟩⟩,
    .inr ⟨by decide, .inr ⟨by decide +kernel,
      .inr (.inr ⟨by decide, by decide +kernel, 7, false, by decide +kernel, by decide, rfl⟩)⟩⟩⟩

/-- The monitor holds the granule from its first byte, and not the next one; then a misaligned address is no error. The choices
of the two overlaps, in a register that is data, base or both. -/
theorem witness_ExclusiveStores :
    (let s := { base with monitor := some ⟨0x200F#64, 1⟩ };
      s.mem.wf ∧ (3#5 : Reg) ≠ 0#5 ∧ (3#5 : Reg) ≠ 1#5 ∧ ((3#5 : Reg) ≠ 2#5 ∨ (2#5 : Reg) = 31#5) ∧ s.BaseReady 2#5 ∧
      MonitorHolds s 0x2000#64 ∧ s.Allowed 0x2000#64 16 .atomic .write ∧ s.Allowed 0x2000#64 16 .ordered .write ∧
      ¬MonitorHolds s 0x2010#64 ∧ ¬MonitorHolds base 0x2000#64 ∧ s.cfg.exFailAborts = false ∧
      s.Allowed 0x2010#64 16 .atomic .write) ∧
    (∀ d ∈ [StoreExclusiveChoice.undef, .nop, .none, .unknown], ∀ b ∈ [StoreExclusiveChoice.undef, .nop, .none, .unknown],
      let s := choosing fun c => { c with stxStatusDataOverlap := d, stxStatusBaseOverlap := b }
      s.cfg.constrain.stxStatusDataOverlap = d ∧ s.cfg.constrain.stxStatusBaseOverlap = b ∧ s.mem.wf ∧ s.BaseReady 2#5 ∧
      ¬MonitorHolds s 0x2000#64) ∧
    ((2#5 : Reg) = 2#5 ∧ (2#5 : Reg) ≠ 31#5) := by decide +kernel

/-- The UNKNOWN address can be the marked one, with an access that is allowed; it can also be unmapped. -/
theorem witness_ExclusiveStores_unknown_address :
    (let s := { choosing (fun c => { c with stxStatusBaseOverlap := .unknown }) with
        monitor := some ⟨Config.unknown 0, 1⟩ };
      s.mem.wf ∧ s.BaseReady 2#5 ∧ s.cfg.constrain.stxStatusBaseOverlap = .unknown ∧ MonitorHolds s (s.unknownAt 0) ∧
      s.Allowed (s.unknownAt 0) 1 .atomic .write) ∧
    (let s := { under base (fun c => { c with unmapped := [⟨0, 2 ^ 64⟩] }) with monitor := some ⟨Config.unknown 0, 1⟩ };
      MonitorHolds s (s.unknownAt 0) ∧
      AccessAbort s (s.unknownAt 0) 1 .atomic .write True
        (.dataAbort (s.unknownAt 0 + BitVec.ofNat 64 0) .translation false false)) := by
  refine ⟨⟨by decide, by decide, rfl, ⟨_, rfl, rfl⟩, .inl (Nat.mod_one _), fun _ _ => ⟨rfl, rfl, ?_⟩⟩,
    ⟨_, rfl, rfl⟩, .inr (.inl ⟨.inl (Nat.mod_one _), 0, false, ⟨by decide, by simp, ?_⟩, by decide, rfl⟩)⟩
  · exact fun h => absurd h.1 (by decide)
  · simp only [State.mapped, under, regionHolds, List.any_cons, List.any_nil]
    simp; omega

/-- Aborts with the monitor, and without it where the implementation aborts there. -/
theorem witness_ExclusiveStores_aborts :
    MonitorHolds { holes with monitor := some ⟨0x2000#64, 8⟩ } 0x2007#64 ∧
    (under holes fun c => { c with exFailAborts := true }).cfg.exFailAborts = true ∧
    ¬(given base [(31#5, 8#64)]).BaseReady 31#5 ∧
    AccessAbort holes 0x2001#64 8 .atomic .write True (.dataAbort 0x2001#64 .alignment false false) ∧
    AccessAbort holes 0x2000#64 8 .ordered .write True (.dataAbort 0x2007#64 .translation false false) ∧
    AccessAbort holes 0x3008#64 8 .atomic .write True (.dataAbort 0x300F#64 .permission false false) ∧
    AccessAbort holes 0x4008#64 8 .atomic .write True (.dataAbort 0x400F#64 .permission true false) ∧
    PairAbort holes 0x4000#64 8 .atomic .write True (.dataAbort 0x400F#64 .permission true false) :=
  ⟨by decide, by decide, by decide, .inl ⟨by decide, false, by decide, rfl⟩,
    .inr (.inl ⟨by decide, 7, false, by decide +kernel, by decide, rfl⟩),
    .inr (.inr ⟨by decide, by decide +kernel, 7, false, by decide +kernel, by decide +kernel, rfl⟩),
    .inr (.inr ⟨by decide, by decide +kernel, 7, true, by decide +kernel, by decide +kernel, rfl⟩),
    .inr ⟨by decide, .inr ⟨by decide +kernel,
      .inr (.inr ⟨by decide, by decide +kernel, 7, true, by decide +kernel, by decide +kernel, rfl⟩)⟩⟩⟩

/-- Even and odd pairs, with the feature and without it. -/
theorem witness_CompareAndSwap :
    base.mem.wf ∧ (30#5 : Reg).getLsbD 0 = false ∧ (31#5 : Reg).getLsbD 0 = true ∧ base.cfg.haveAtomics = true ∧
    (under base fun c => { c with haveAtomics := false }).cfg.haveAtomics = false ∧ base.BaseReady 31#5 ∧
    base.Allowed 0x2010#64 16 .atomicRW .read ∧ base.Allowed 0x2010#64 16 .atomicRW .write ∧
    base.Allowed 0x2001#64 1 .atomicRW .read ∧ base.Allowed 0x2001#64 1 .atomicRW .write := by decide +kernel

/-- Aborts of a pair: its alignment, the writing of the lower element before the upper one, and the upper element. -/
theorem witness_CompareAndSwap_aborts :
    ¬holes.Aligned 0x2008#64 16 .atomicRW ∧ holes.Aligned 0x2000#64 16 .atomicRW ∧
    AtomicAbort holes 0x2000#64 8 (.dataAbort 0x2007#64 .translation false false) ∧
    (holes.Allowed 0x4000#64 8 .atomicRW .read ∧ holes.Allowed 0x4000#64 8 .atomicRW .write) ∧
    AtomicAbort holes 0x4008#64 8 (.dataAbort 0x400F#64 .permission true false) :=
  ⟨by decide, by decide, .inl (.inr (.inl ⟨by decide, 7, false, by decide +kernel, by decide, rfl⟩)), by decide +kernel,
    .inr ⟨by decide +kernel, .inr (.inr ⟨by decide, by decide +kernel, 7, true, by decide +kernel, by decide +kernel, rfl⟩)⟩⟩

theorem witness_AtomicReadModifyWrite :
    base.mem.wf ∧ base.cfg.haveAtomics = true ∧ base.BaseReady 31#5 ∧ base.Allowed 0x2001#64 1 .atomicRW .read ∧
    base.Allowed 0x2001#64 1 .atomicRW .write ∧ base.Allowed 0xFFFFFFFFFFFFFFF8#64 8 .atomicRW .read ∧
    base.Allowed 0xFFFFFFFFFFFFFFF8#64 8 .atomicRW .write ∧
    (under base fun c => { c with haveAtomics := false }).cfg.haveAtomics = false := by decide +kernel

theorem witness_AtomicReadModifyWrite_aborts :
    ¬(given base [(31#5, 8#64)]).BaseReady 31#5 ∧
    AtomicAbort holes 0x2001#64 8 (.dataAbort 0x2001#64 .alignment false false) ∧
    AtomicAbort holes 0x3008#64 8 (.dataAbort 0x300F#64 .permission false false) ∧
    AtomicAbort holes 0x4008#64 8 (.dataAbort 0x400F#64 .permission true false) :=
  ⟨by decide, .inl (.inl ⟨by decide, false, by decide, rfl⟩),
    .inl (.inr (.inr ⟨by decide, by decide +kernel, 7, false, by decide +kernel, by decide, rfl⟩)),
    .inr ⟨by decide +kernel, .inr (.inr ⟨by decide, by decide +kernel, 7, true, by decide +kernel, by decide +kernel, rfl⟩)⟩⟩

/-- In both byte orders, and with each reason why an access is allowed or not: alignment, the unprivileged rights that EL0 has
and that UAO lifts, and PAN. -/
theorem witness_MemoryBytes :
    base.mem.wf ∧ base.Allowed 0xFFFFFFFFFFFFFFFF#64 8 .normal .read ∧ ¬base.Allowed 0x2001#64 8 .ordered .read ∧
    base.Allowed 0xFFFFFFFFFFFFFFFF#64 8 .normal .write ∧ ¬base.Allowed 0x2001#64 8 .ordered .write ∧
    ¬base.BigEndianData ∧
    (let s := { under user (fun c => { c with bigEndianSupported := true }) with
        el1 := { user.el1 with sctlr := 0x1000000#64 } };
      s.BigEndianData ∧ s.Allowed 0x2001#64 8 .normal .write) ∧
    (let s := under base fun c => { c with denied := [⟨⟨0x2000, 8⟩, .el0, .read⟩] };
      s.Allowed 0x2000#64 8 .normal .read ∧ ¬s.Allowed 0x2000#64 8 .unpriv .read ∧
      ({ s with p := { s.p with uao := true } } : State).Allowed 0x2000#64 8 .unpriv .read) ∧
    (let s := { base with p := { base.p with pan := true } };
      ¬s.Allowed 0x2000#64 8 .normal .read ∧ s.Allowed 0x2000#64 8 .unpriv .read) := by decide +kernel

/-- At EL2 in host mode the rights of an unprivileged access are those of EL0, and EL0 has the control register of EL2. -/
theorem witness_MemoryBytes_host :
    let s := { under base (fun c => { c with haveEL2 := true, haveVHE := true, denied := [⟨⟨0x2000, 8⟩, .el0, .write⟩] }) with
      hcr := 0x408000000#64, p := { base.p with el := .el2 }, el2 := { base.el2 with sctlr := 2#64 } }
    let u := { s with p := user.p }
    s.HostMode ∧ ¬s.Allowed 0x2000#64 8 .unpriv .write ∧ s.Allowed 0x2000#64 8 .normal .write ∧
    u.HostMode ∧ ¬u.Allowed 0x2009#64 8 .normal .read ∧ u.Allowed 0x2010#64 8 .normal .read := by decide +kernel

theorem witness_LoadAfterStore : base.mem.wf ∧ 16 ≤ 16 := by decide +kernel

/-- The base not ready; a misaligned, an unmapped, and a denied access; a pair whose upper element lacks what the lower one
has; and the forms that the conditions name. -/
theorem witness_AccessFaults :
    ¬(given base [(31#5, 8#64)]).BaseReady 31#5 ∧ holes.BaseReady 1#5 ∧
    AccessAbort holes 0x2001#64 8 .ordered .write False (.dataAbort 0x2001#64 .alignment true false) ∧
    AccessAbort holes 0x2006#64 4 .normal .read False (.dataAbort 0x2007#64 .translation false false) ∧
    AccessAbort holes 0x3008#64 8 .limitedOrdered .write False (.dataAbort 0x300F#64 .permission true false) ∧
    AccessAbort holes 0x300F#64 1 .normal .read False (.dataAbort 0x300F#64 .permission false false) ∧
    TwoAborts (AccessAbort holes 0x2000#64 4 .stream .write False) (AccessAbort holes 0x2004#64 4 .stream .write False)
      (holes.Allowed 0x2000#64 4 .stream .write) (.dataAbort 0x2007#64 .translation true false) ∧
    (2#5 : Reg) ≠ 3#5 ∧ ((31#5 : Reg) = 31#5 ∨ (31#5 : Reg) ≠ 31#5) ∧ (2#3 : BitVec 3).getLsbD 1 = true ∧
    ((1#5 : Reg) = 31#5 ∨ ((1#5 : Reg) ≠ 2#5 ∧ (1#5 : Reg) ≠ 3#5)) ∧ base.cfg.haveLOR = true :=
  ⟨by decide, by decide, .inl ⟨by decide, true, by decide, rfl⟩,
    .inr (.inl ⟨by decide, 1, false, by decide +kernel, by decide, rfl⟩),
    .inr (.inr ⟨by decide, by decide +kernel, 7, true, by decide +kernel, by decide +kernel, rfl⟩),
    .inr (.inr ⟨by decide, by decide +kernel, 0, false, by decide +kernel, by decide +kernel, rfl⟩),
    .inr ⟨by decide +kernel, .inr (.inl ⟨by decide, 3, true, by decide +kernel, by decide, rfl⟩)⟩,
    by decide, by decide, by decide, by decide, by decide⟩

theorem witness_TakingAnException : EL.el1 ≠ .el0 ∧ EL.el2 ≠ .el0 ∧ EL.el3 ≠ .el0 := by decide +kernel

theorem witness_SynchronousExceptions : EL.el1 ≠ .el0 ∧ EL.el3 ≠ .el0 := by decide +kernel

/-- HVC with and without EL3, SMC that calls, is trapped, and is disabled. -/
theorem witness_ExceptionGeneratingInstructions :
    (let s := under base fun c => { c with haveEL2 := true };
      s.cfg.haveEL2 = true ∧ s.p.el ≠ .el0 ∧ ¬(s.p.el = .el1 ∧ s.isSecure = true) ∧ s.cfg.haveEL3 = false ∧
      s.hcr.getLsbD 29 = false) ∧
    (let s := { under base (fun c => { c with haveEL2 := true, haveEL3 := true }) with scr := 0x101#64 };
      ¬(s.p.el = .el1 ∧ s.isSecure = true) ∧ s.scr.getLsbD 8 = true ∧ s.hcr.getLsbD 19 = false ∧
      s.scr.getLsbD 7 = false) ∧
    (let s := { under base (fun c => { c with haveEL2 := true, haveEL3 := true }) with
        scr := 0x81#64, hcr := 0x80000#64 };
      s.p.el = .el1 ∧ s.isSecure = false ∧ s.hcr.getLsbD 19 = true ∧ s.scr.getLsbD 7 = true) ∧
    base.cfg.haveEL2 = false ∧ base.cfg.haveEL3 = false := by decide +kernel

theorem witness_ExceptionReturn : base.p.el ≠ .el0 := by decide +kernel

/-- Each interrupt alone, and all pending but masked, at EL1; the routing to EL2 and EL3, which the mask does not stop. -/
theorem witness_InterruptsAndEnvironment :
    (let s := { user with serrorPending := true, fiqPending := true };
      s.halted = false ∧ s.env = [] ∧ SErrorDue s ∧ interruptLevel s 3 5 = .el1) ∧
    (let s := { user with fiqPending := true, irqPending := true };
      ¬SErrorDue s ∧ Due s s.fiqPending s.p.f (interruptLevel s 2 3)) ∧
    (let s := { user with irqPending := true };
      ¬SErrorDue s ∧ ¬Due s s.fiqPending s.p.f .el1 ∧ Due s s.irqPending s.p.i (interruptLevel s 1 4)) ∧
    (let s := { base with serrorPending := true, fiqPending := true, irqPending := true };
      ¬SErrorDue s ∧ ¬Due s s.fiqPending s.p.f (interruptLevel s 2 3) ∧ ¬Due s s.irqPending s.p.i .el1) ∧
    (let s := { under base (fun c => { c with haveEL2 := true }) with hcr := 0x8000000#64, serrorPending := true };
      s.p.a = true ∧ interruptLevel s 3 5 = .el2 ∧ SErrorDue s) ∧
    (let s := { under base (fun c => { c with haveEL3 := true, interruptRouting := true }) with
        scr := 5#64, fiqPending := true, irqPending := true };
      s.p.f = true ∧ ¬SErrorDue s ∧ interruptLevel s 2 3 = .el3 ∧ Due s s.fiqPending s.p.f .el3 ∧
      ¬Due s s.irqPending s.p.i (interruptLevel s 1 4)) ∧
    (let s := { user with irqPending := true }.withFetchWord 32 0xD503207F;
      FetchesWord s ∧ wordAt s = 0xD503207F#32 ∧ s.interruptFirst = false ∧ Due s s.irqPending s.p.i .el1) := by
  decide +kernel

/-- The environment acts twice before one step, and then not; a store in the marked granule and one next to it. -/
theorem witness_InterruptsAndEnvironment_actions :
    (let s := { base with env := [[.spuriousClear, .setIrq true], []], monitor := some ⟨0x2000#64, 4⟩ };
      s.env = (.spuriousClear :: [.setIrq true]) :: [[]] ∧ s.environment.env = [[]] ∧
      s.environment.environment.env = [] ∧ s.environment.irqPending = true ∧ s.environment.monitor = none ∧
      s.environment.event = false ∧ s.mem.wf ∧ MonitorHolds s 0x200F#64 ∧ ¬MonitorHolds s 0x2010#64) := by decide +kernel

/-- A wait that is trapped to each level, and one that is not; ESB without the feature, and with an SError that is masked, one
that is due, and a virtual one. -/
theorem witness_HintsBarriersEvents :
    base.event = false ∧ (base.irqPending || base.fiqPending || base.serrorPending) = false ∧ TrapsToEL1 user 18 ∧
    TrapsToEL1 user 16 ∧ ¬TrapsToEL1 base 18 ∧ ¬TrapsToEL2 base 14 ∧ ¬TrapsToEL3 base 13 ∧
    (let s := { under base (fun c => { c with haveEL2 := true }) with hcr := 0x6000#64 };
      ¬TrapsToEL1 s 18 ∧ TrapsToEL2 s 14 ∧ TrapsToEL2 s 13) ∧
    (let s := { under base (fun c => { c with haveEL3 := true }) with scr := 0x3000#64 };
      ¬TrapsToEL1 s 18 ∧ ¬TrapsToEL2 s 14 ∧ TrapsToEL3 s 13 ∧ TrapsToEL3 s 12) ∧
    ({ base with event := true } : State).event = true ∧ base.cfg.haveRAS = false ∧
    (let s := { under base (fun c => { c with haveRAS := true, haveEL2 := true }) with
        serrorPending := true, vserrorPending := true };
      s.cfg.haveRAS = true ∧ ¬(s.halted = false ∧ SErrorDue s) ∧ s.serrorPending = true ∧ s.cfg.haveEL2 = true ∧
      s.isSecure = false ∧ s.p.el.toNat < 2 ∧ s.p.a = true) ∧
    (let s := { under user (fun c => { c with haveRAS := true }) with serrorPending := true };
      s.cfg.haveRAS = true ∧ s.halted = false ∧ SErrorDue s ∧
      ¬(({ s with halted := true } : State).halted = false ∧ SErrorDue s)) := by decide +kernel

/-- HLT that halts and that does not; each change of level, and each reason why it is Undefined in Debug state. -/
theorem witness_DebugInstructions :
    (let s := { base with haltingAllowed := true, edscr := 0x4000#32 };
      s.edscr.getLsbD 14 = true ∧ s.haltingAllowed = true) ∧ base.edscr.getLsbD 14 = false ∧ base.halted = false ∧
    (let s := { under user (fun c => { c with haveEL2 := true, haveEL3 := true }) with
        halted := true, scr := 1#64, edscr := 0#32 };
      s.halted = true ∧ ¬(s.p.el = .el0 ∧ Rerouted s) ∧ s.cfg.haveEL2 = true ∧ s.isSecure = false ∧
      s.cfg.haveEL3 = true ∧ s.edscr.getLsbD 16 = false) ∧
    (let s := { base with halted := true };
      s.halted = true ∧ s.p.el ≠ .el0 ∧ s.cfg.haveEL2 = false ∧ s.cfg.haveEL3 = false) ∧
    (let s := { under user (fun c => { c with haveEL2 := true }) with halted := true, hcr := 0x8000000#64 };
      s.halted = true ∧ s.p.el = .el0 ∧ Rerouted s) ∧
    (let s := { under user (fun c => { c with haveEL2 := true, haveEL3 := true }) with
        halted := true, edscr := 0x10000#32 };
      s.halted = true ∧ s.isSecure = true ∧ s.p.el.toNat < 2 ∧ s.edscr.getLsbD 16 = true) := by decide +kernel

/-- The default map; a register that EL1 writes, one that EL0 writes, one that nobody writes, one of a higher level, one that
does not exist, an address without a register, the trapped mask bits, and a register that the user adds. -/
theorem witness_SystemRegisterMoves :
    base.cfg.sysRegs = Config.default.sysRegs ∧
    base.sysRegAt (sysAddress (1#1 ++ 1#1) 0#3 12#4 0#4 0#3) = some (.vbar .el1) ∧ LevelAllows base 0#3 ∧
    Exists base (.vbar .el1) ∧ MayRead (.vbar .el1) ∧ MayWrite (.vbar .el1) ∧ ¬(SysReg.vbar .el1 = .daif ∧ MasksTrapped base) ∧
    base.sysRegAt (sysAddress (1#1 ++ 1#1) 3#3 13#4 0#4 2#3) = some .tpidr ∧ LevelAllows user 3#3 ∧
    Exists user .tpidr ∧ MayRead .tpidr ∧ MayWrite .tpidr ∧
    base.sysRegAt (sysAddress (1#1 ++ 1#1) 0#3 4#4 2#4 2#3) = some .currentEL ∧ MayRead .currentEL ∧ ¬MayWrite .currentEL ∧
    base.sysRegAt (sysAddress (1#1 ++ 1#1) 6#3 4#4 1#4 0#3) = some .spEL2 ∧ ¬LevelAllows base 6#3 ∧ ¬Exists base .spEL2 ∧
    (let s := { under base (fun c => { c with haveEL3 := true }) with p := { base.p with el := .el3 } };
      LevelAllows s 4#3 ∧ Exists s .spEL1 ∧ Exists s .scr ∧ ¬Exists s .hcr) ∧
    base.sysRegAt (sysAddress (1#1 ++ 1#1) 7#3 15#4 15#4 7#3) = none ∧
    base.sysRegAt (sysAddress (1#1 ++ 1#1) 3#3 4#4 2#4 1#3) = some .daif ∧ LevelAllows user 3#3 ∧ MasksTrapped user ∧
    (let r : ExtraReg := ⟨sysAddress (1#1 ++ 1#1) 0#3 0#4 0#4 0#3, true, false, 0#64, 0x410FD034#64⟩
      let s := under base fun c => { c with sysRegs := c.sysRegs ++ [.extra r] }
      s.sysRegAt r.address = some (.extra r) ∧ Exists s (.extra r) ∧ MayRead (.extra r) ∧ ¬MayWrite (.extra r)) := by
  decide +kernel

theorem witness_PStateMoves :
    base.p.el ≠ .el0 ∧ base.cfg.havePAN = true ∧ base.cfg.haveUAO = true ∧ ¬MasksTrapped base ∧ MasksTrapped user ∧
    ¬MasksTrapped { user with el1 := { user.el1 with sctlr := 0x200#64 } } ∧
    (let s := under base fun c => { c with havePAN := false, haveUAO := false };
      s.cfg.havePAN = false ∧ s.cfg.haveUAO = false) := by decide +kernel

/-- An operation of each kind that runs, with what its effect asks for; what is trapped, absent, or no operation. -/
theorem witness_SystemInstructions :
    (0#3 ++ 7#4 ++ 8#4 ++ 0#3, SysOp.translate .el1 .read false) ∈ systemTable ∧
    (3#3 ++ 7#4 ++ 4#4 ++ 1#3, SysOp.dcZva) ∈ systemTable ∧ (3#3 ++ 7#4 ++ 14#4 ++ 1#3, SysOp.dcAddress false false) ∈ systemTable ∧
    (0#3 ++ 7#4 ++ 6#4 ++ 2#3, SysOp.dcSetWay) ∈ systemTable ∧ (3#3 ++ 7#4 ++ 5#4 ++ 1#3, SysOp.icAddress) ∈ systemTable ∧
    (0#3 ++ 7#4 ++ 1#4 ++ 0#3, SysOp.icAll) ∈ systemTable ∧ (0#3 ++ 8#4 ++ 3#4 ++ 0#3, SysOp.tlbi) ∈ systemTable ∧
    (0#3 ++ 0#4 ++ 0#4 ++ 0#3) ∉ systemTable.map Prod.fst ∧ LevelAllows base 0#3 ∧ LevelAllows base 3#3 ∧ ¬LevelAllows base 4#3 ∧
    LevelExists base 0#3 ∧ ¬LevelExists base 4#3 ∧ ¬LevelExists base 6#3 ∧
    FeatureOf base .dcZva ∧ ¬CacheTrapped base .dcZva ∧ CacheTrapped user .dcZva ∧ CacheTrapped user .icAddress ∧
    CacheTrapped user (.dcAddress false false) ∧ base.mem.wf ∧ base.mapped 0x2000#64 = true ∧
    base.Permitted .normal .write 0x2000#64 ∧
    (3#3 ++ 7#4 ++ 12#4 ++ 1#3, SysOp.dcAddress false true) ∈ systemTable ∧
    ¬FeatureOf (under base fun c => { c with haveDCPoP := false }) (.dcAddress false true) ∧
    (0#3 ++ 7#4 ++ 9#4 ++ 0#3, SysOp.translate .el1 .read true) ∈ systemTable ∧
    ¬FeatureOf (under base fun c => { c with haveATS1E1 := false }) (.translate .el1 .read true) := by decide +kernel

theorem witness_SystemInstructions_aborts :
    CacheAbort holes 0x2007#64 1 False (.dataAbort 0x2007#64 .translation true true) ∧
    CacheAbort holes (blockBase holes 0x203F#64) 64 True (.dataAbort 0x2007#64 .translation true true) ∧
    CacheAbort holes (blockBase holes 0x4010#64) 64 True (.dataAbort 0x400F#64 .permission true true) :=
  ⟨.inl ⟨0, by decide +kernel, rfl⟩, .inl ⟨7, by decide +kernel, rfl⟩,
    .inr ⟨by decide +kernel, trivial, 15, by decide +kernel, rfl⟩⟩

/-- DC ZVA: with nothing unmapped or denied, every byte of the block can be written. -/
theorem witness_SystemInstructions_zero :
    ∀ b, InBlock base 0x2010#64 b → base.mapped b = true ∧ base.Permitted .normal .write b :=
  fun _ _ => ⟨rfl, rfl, fun h => absurd h.1 (by decide)⟩

theorem witness_PrivilegedAtEL0AreUndefined : user.p.el = .el0 ∧ (0#3 : BitVec 3) ≠ 3#3 ∧ (7#3 : BitVec 3) ≠ 3#3 := by decide +kernel

end Sys2Proof.Tests
end

section
/-! The shared operations of 00_scope.md: the addition that sets the flags (R13), the bit masks (R16) and the conditions
(R17). -/

namespace Sys2Proof.Machine

/-! ## AddWithCarry (00 R13) -/

section AddWithCarry

variable {w : Nat} (x y : BitVec w) (c : Bool)

theorem addWithCarry_toNat : (addWithCarry x y c).1.toNat = (x.toNat + y.toNat + c.toNat) % 2 ^ w :=
  BitVec.toNat_ofNat _ w

theorem addWithCarry_n : (addWithCarry x y c).2.n = (addWithCarry x y c).1.msb := rfl

theorem addWithCarry_z : (addWithCarry x y c).2.z = true ↔ (addWithCarry x y c).1 = 0#w := decide_eq_true_iff

theorem addWithCarry_c_eq_false :
    (addWithCarry x y c).2.c = false ↔ (addWithCarry x y c).1.toNat = x.toNat + y.toNat + c.toNat :=
  decide_eq_false_iff_not.trans not_not

theorem addWithCarry_v_eq_false :
    (addWithCarry x y c).2.v = false ↔ (addWithCarry x y c).1.toInt = x.toInt + y.toInt + c.toNat :=
  decide_eq_false_iff_not.trans not_not

/-- The carry is set exactly when the unsigned sum does not fit. -/
theorem addWithCarry_c_eq_true :
    (addWithCarry x y c).2.c = true ↔ 2 ^ w ≤ x.toNat + y.toNat + c.toNat := by
  rw [← Bool.not_eq_false, addWithCarry_c_eq_false, addWithCarry_toNat, Nat.mod_eq_iff_lt (by simp), not_lt]

/-- The exact sum that a subtraction forms: the complement of `y` plus 1 is `2 ^ w - y`. -/
theorem toNat_add_not_add_one : x.toNat + (~~~y).toNat + true.toNat = x.toNat + (2 ^ w - y.toNat) := by
  have := y.isLt
  rw [BitVec.toNat_not, Bool.toNat_true]
  omega

theorem addWithCarry_not_true : (addWithCarry x (~~~y) true).1 = x - y := by
  apply BitVec.eq_of_toNat_eq
  rw [addWithCarry_toNat, toNat_add_not_add_one, BitVec.toNat_sub, Nat.add_comm]

/-- The carry of a subtraction is set when there is no borrow. -/
theorem addWithCarry_not_true_c : (addWithCarry x (~~~y) true).2.c = true ↔ y.toNat ≤ x.toNat := by
  have := y.isLt
  rw [addWithCarry_c_eq_true, toNat_add_not_add_one]
  omega

end AddWithCarry

/-! ## Bit masks (00 R16) -/

theorem getLsbD_bitsOf (w : Nat) (f : Nat → Bool) (i : Nat) : (bitsOf w f).getLsbD i = (decide (i < w) && f i) := by
  induction w with
  | zero => simp [bitsOf]
  | succ w ih =>
    rw [bitsOf, BitVec.getLsbD_cons]
    by_cases h : i = w
    · simp [h]
    · rw [if_neg h, ih]
      congr 2
      exact propext (by omega)

/-- The size of the element that `N` and `imms` select; it is 1 for the values without an element. -/
def bitMaskElement (n : BitVec 1) (imms : BitVec 6) : Nat := 2 ^ (n ++ ~~~imms).toNat.log2

theorem bitMaskElement_pos (n : BitVec 1) (imms : BitVec 6) : 0 < bitMaskElement n imms := Nat.two_pow_pos _

/-- `DecodeBitMasks` in one equation: no element, or for an immediate a full element, is reserved. -/
theorem decodeBitMasks_eq (w : Nat) (n : BitVec 1) (imms immr : BitVec 6) (immediate : Bool) :
    let e := bitMaskElement n imms
    let ones := imms.toNat % e
    let rotation := immr.toNat % e
    decodeBitMasks w n imms immr immediate =
      if 2 ≤ e ∧ (immediate = true → ones + 1 < e) then
        some (bitsOf w fun i => decide ((i + rotation) % e ≤ ones),
          bitsOf w fun i => decide (i % e ≤ (ones + e - rotation) % e))
      else none := by
  intro e ones rotation
  have hones : ones < e := Nat.mod_lt _ (bitMaskElement_pos n imms)
  by_cases hv : n ++ ~~~imms = 0#(1 + 6)
  · have he : e = 1 := by simp [e, bitMaskElement, hv]
    simp [decodeBitMasks, highestSetBit, hv, he]
  have hset : highestSetBit (n ++ ~~~imms) = some (n ++ ~~~imms).toNat.log2 := if_neg hv
  rcases hlen : (n ++ ~~~imms).toNat.log2 with _ | len
  · have he : e = 1 := by simp [e, bitMaskElement, hlen]
    simp [decodeBitMasks, hset, hlen, he]
  · have he : e = 2 ^ (len + 1) := by simp [e, bitMaskElement, hlen]
    have hle : 2 ≤ e := he ▸ Nat.le_self_pow (by omega) 2
    simp only [decodeBitMasks, hset, hlen, ← he]
    rw [← ite_not]
    refine if_congr ?_ rfl rfl
    change ¬(immediate = true ∧ ones = e - 1) ↔ _
    grind

/-- A rotated run of ones, bit by bit: bit `i` of the element is set when rotating it back falls in the run. -/
theorem getLsbD_rotateRight_ones {e ones rotation i : Nat} (hones : ones < e) (hrot : rotation < e) (hi : i < e) :
    ((BitVec.ofNat e (2 ^ ones - 1)).rotateRight rotation).getLsbD i = decide ((i + rotation) % e < ones) := by
  have hrun : ∀ j, (BitVec.ofNat e (2 ^ ones - 1)).getLsbD j = decide (j < ones) := fun j => by
    rw [BitVec.getLsbD_ofNat, Nat.testBit_two_pow_sub_one]
    grind
  rw [BitVec.getLsbD_rotateRight, Nat.mod_eq_of_lt hrot, hrun, hrun]
  by_cases h : i < e - rotation
  · simp only [h, decide_true, cond_true]
    rw [Nat.mod_eq_of_lt (by omega), Nat.add_comm]
  · simp only [h, decide_false, cond_false, hi, decide_true, Bool.true_and]
    rw [Nat.mod_eq_sub_mod (by omega), Nat.mod_eq_of_lt (by omega)]
    congr 2
    omega

/-- The bit mask of a logical immediate: it exists when its run leaves room in its element. -/
theorem logicalImmediate_eq (sf n : BitVec 1) (imms immr : BitVec 6) :
    let e := bitMaskElement n imms
    let ones := imms.toNat % e
    logicalImmediate sf n imms immr =
      if (sf = 0#1 → n = 0#1) ∧ 2 ≤ e ∧ ones + 1 < e then
        some (bitsOf (datasize sf) fun i => decide ((i + immr.toNat % e) % e ≤ ones))
      else none := by
  intro e ones
  rw [logicalImmediate, decodeBitMasks_eq]
  by_cases hreserved : sf = 0#1 ∧ n ≠ 0#1
  · rw [if_pos hreserved, if_neg (fun h => hreserved.2 (h.1 hreserved.1))]
  · rw [if_neg hreserved, apply_ite (Option.map Prod.fst)]
    refine if_congr ?_ rfl rfl
    change 2 ≤ e ∧ (true = true → ones + 1 < e) ↔ _
    grind

/-! ## Conditions (00 R17) -/

/-- Bit 0 of a condition inverts it, but for AL and NV. -/
theorem conditionHolds_xor_one (f : Flags) {cond : BitVec 4} (h : cond.extractLsb' 1 3 ≠ 7#3) :
    conditionHolds f (cond ^^^ 1#4) = !conditionHolds f cond := by
  have hbase : (cond ^^^ 1#4).extractLsb' 1 3 = cond.extractLsb' 1 3 := by
    revert cond; decide
  have hbit : (cond ^^^ 1#4).getLsbD 0 = !cond.getLsbD 0 := by simp
  have hal : cond ≠ 15#4 ∧ cond ^^^ 1#4 ≠ 15#4 := by
    revert cond; decide
  unfold conditionHolds
  rw [hbase, hbit]
  cases cond.getLsbD 0 <;> simp [hal]

@[simp] theorem conditionHolds_EQ (f : Flags) : conditionHolds f 0#4 = f.z := rfl
@[simp] theorem conditionHolds_CS (f : Flags) : conditionHolds f 2#4 = f.c := rfl
@[simp] theorem conditionHolds_MI (f : Flags) : conditionHolds f 4#4 = f.n := rfl
@[simp] theorem conditionHolds_VS (f : Flags) : conditionHolds f 6#4 = f.v := rfl
@[simp] theorem conditionHolds_HI (f : Flags) : conditionHolds f 8#4 = (f.c && !f.z) := rfl
@[simp] theorem conditionHolds_GE (f : Flags) : conditionHolds f 10#4 = (f.n == f.v) := rfl
@[simp] theorem conditionHolds_GT (f : Flags) : conditionHolds f 12#4 = (f.n == f.v && !f.z) := rfl
@[simp] theorem conditionHolds_AL (f : Flags) : conditionHolds f 14#4 = true := rfl
@[simp] theorem conditionHolds_NV (f : Flags) : conditionHolds f 15#4 = true := rfl

/-! ## The obligations -/

/-- Settles O13: the flags compare the result with the exact sums. -/
theorem addWithCarryExact : Obligations.AddWithCarryExact := fun _ x y c =>
  ⟨addWithCarry_toNat x y c, addWithCarry_n x y c, addWithCarry_z x y c, addWithCarry_c_eq_false x y c,
    addWithCarry_v_eq_false x y c, addWithCarry_not_true x y, addWithCarry_not_true_c x y⟩

/-- Settles O22, by the equation of `logicalImmediate` and the bits of a rotated run. -/
theorem bitMaskShape : Obligations.BitMaskShape := by
  intro sf n imms immr e ones
  have heq : logicalImmediate sf n imms immr =
      if (sf = 0#1 → n = 0#1) ∧ 2 ≤ e ∧ ones < e then
        some (bitsOf (datasize sf) fun i => decide ((i + immr.toNat % e) % e < ones))
      else none := by
    simp only [ones, Nat.lt_succ_iff]
    exact logicalImmediate_eq sf n imms immr
  rw [heq]
  refine ⟨by simp, fun y hy i hi => ?_⟩
  obtain ⟨⟨_, _, hroom⟩, hmask⟩ := Option.ite_none_right_eq_some.mp hy
  have he : 0 < e := Nat.two_pow_pos _
  rw [getLsbD_rotateRight_ones hroom (Nat.mod_lt _ he) (Nat.mod_lt _ he), Nat.mod_add_mod, ← Option.some.inj hmask,
    getLsbD_bitsOf]
  simp only [hi, decide_true, Bool.true_and]

/-- Settles O14: each even condition by its own equation, and the odd one after it by inversion. -/
theorem conditionTable : Obligations.ConditionTable := fun f =>
  have inverse (cond : BitVec 4) (h : cond.extractLsb' 1 3 ≠ 7#3) := conditionHolds_xor_one f h
  ⟨⟨conditionHolds_EQ f, inverse 0#4 (by decide)⟩, ⟨conditionHolds_CS f, inverse 2#4 (by decide)⟩,
    ⟨conditionHolds_MI f, inverse 4#4 (by decide)⟩, ⟨conditionHolds_VS f, inverse 6#4 (by decide)⟩,
    ⟨conditionHolds_HI f, inverse 8#4 (by decide)⟩, ⟨conditionHolds_GE f, inverse 10#4 (by decide)⟩,
    ⟨conditionHolds_GT f, inverse 12#4 (by decide)⟩, conditionHolds_AL f, conditionHolds_NV f⟩

end Sys2Proof.Machine
end

section
/-! System registers: which one an address names, and when an access to it is allowed (10 R61, R62). -/

namespace Sys2Proof.Machine

variable {s : State}

theorem sysAddress_op1 (op0 : BitVec 2) (op1 : BitVec 3) (crn crm : BitVec 4) (op2 : BitVec 3) :
    (sysAddress op0 op1 crn crm op2).extractLsb' 11 3 = op1 := by
  apply BitVec.eq_of_getLsbD_eq
  intro i hi
  have hbit : (op0 ++ op1 ++ crn ++ crm ++ op2).getLsbD (11 + i) = op1.getLsbD i := by
    simp only [BitVec.getLsbD_append]
    simp [hi, show ¬11 + i < 3 by omega, show ¬11 + i - 3 < 4 by omega, show ¬11 + i - 3 - 4 < 4 by omega,
      show 11 + i - 3 - 4 - 4 = i by omega]
  rw [BitVec.getLsbD_extractLsb', decide_eq_true hi, Bool.true_and]
  exact hbit

theorem State.address_of_sysRegAt {a : BitVec 16} {reg : SysReg} (h : s.sysRegAt a = some reg) : reg.address = a := by
  simpa using List.find?_some h

/-- The checks of MRS and MSR (register) in their order, of an address that has a register (10 R61). -/
theorem State.checkSysReg_of_some {op0 : BitVec 2} {op1 : BitVec 3} {crn crm : BitVec 4} {op2 : BitVec 3} {rt : Reg}
    {read : Bool} {reg : SysReg} (h : s.sysRegAt (sysAddress op0 op1 crn crm op2) = some reg) :
    s.checkSysReg op0 op1 crn crm op2 rt read =
      if s.levelAllows op1 ∧ s.sysRegPresent reg ∧ (if read then reg.readable else reg.writable) then
        if reg = .daif ∧ s.daifTrapped then
          .error (.systemRegisterTrap .el1 op0 op2 op1 crn rt crm (BitVec.ofBool read))
        else .ok reg
      else .error .undefined := by
  simp only [State.checkSysReg, h]
  rw [← ite_not]
  refine if_congr ?_ rfl rfl
  simp only [Bool.or_eq_true, Bool.not_eq_true', ← Bool.not_eq_true, not_or, not_not, and_assoc]

/-- The register that an access reaches is at its address and exists, and the level is one that may use it (10 R61). -/
theorem State.checkSysReg_ok {op0 : BitVec 2} {op1 : BitVec 3} {crn crm : BitVec 4} {op2 : BitVec 3} {rt : Reg}
    {read : Bool} {reg : SysReg} (h : s.checkSysReg op0 op1 crn crm op2 rt read = .ok reg) :
    s.levelAllows (reg.address.extractLsb' 11 3) = true ∧ s.sysRegPresent reg = true := by
  cases hat : s.sysRegAt (sysAddress op0 op1 crn crm op2) with
  | none => simp [State.checkSysReg, hat] at h
  | some r =>
    rw [State.checkSysReg_of_some hat] at h
    generalize (if read then r.readable else r.writable) = permitted at h
    split_ifs at h with hallowed
    obtain rfl := Except.ok.inj h
    rw [State.address_of_sysRegAt hat, sysAddress_op1]
    exact ⟨hallowed.1, hallowed.2.1⟩

end Sys2Proof.Machine
end

section
/-! What an instruction can do to the control state: the level, the PSTATE fields that EL0 has no access to, the banked
registers, HCR_EL2, SCR_EL3 and the canonical form of memory. Almost every instruction keeps all of it; the few that do not
are the constructors of `State.Effect`. -/

namespace Sys2Proof.Machine

/-! ## What ordinary instructions keep -/

/-- `t` has the control state of `s`, and memory in its canonical form if `s` has. -/
structure SameControl (s t : State) : Prop where
  cfg : t.cfg = s.cfg
  el1 : t.el1 = s.el1
  el2 : t.el2 = s.el2
  el3 : t.el3 = s.el3
  hcr : t.hcr = s.hcr
  scr : t.scr = s.scr
  el : t.p.el = s.p.el
  sp : t.p.sp = s.p.sp
  ss : t.p.ss = s.p.ss
  pan : t.p.pan = s.p.pan
  uao : t.p.uao = s.p.uao
  mem : s.mem.wf → t.mem.wf

namespace SameControl

variable {s t u : State}

theorem refl (s : State) : SameControl s s := by constructor <;> simp

theorem trans (h : SameControl s t) (k : SameControl t u) : SameControl s u :=
  ⟨k.cfg.trans h.cfg, k.el1.trans h.el1, k.el2.trans h.el2, k.el3.trans h.el3, k.hcr.trans h.hcr, k.scr.trans h.scr,
    k.el.trans h.el, k.sp.trans h.sp, k.ss.trans h.ss, k.pan.trans h.pan, k.uao.trans h.uao, fun hm => k.mem (h.mem hm)⟩

theorem writeX (h : SameControl s t) {w : Nat} {r : Reg} {v : BitVec w} : SameControl s (t.writeX r v) :=
  h.trans (by constructor <;> simp)

theorem writeXsp (h : SameControl s t) {w : Nat} {r : Reg} {v : BitVec w} : SameControl s (t.writeXsp r v) :=
  h.trans (by constructor <;> simp)

theorem writeFlags (h : SameControl s t) {f : Flags} : SameControl s (t.writeFlags f) :=
  h.trans (by constructor <;> simp [PState.withFlags])

theorem branch (h : SameControl s t) {a : Addr} : SameControl s (t.branch a) :=
  h.trans (by constructor <;> simp)

theorem advance (h : SameControl s t) : SameControl s t.advance :=
  h.trans (by constructor <;> simp)

theorem drawn (h : SameControl s t) {n : Nat} : SameControl s (t.drawn n) :=
  h.trans (by constructor <;> simp)

theorem setMonitor (h : SameControl s t) {a : Addr} {n : Nat} : SameControl s (t.setMonitor a n) :=
  h.trans (by constructor <;> simp)

theorem clearMonitor (h : SameControl s t) : SameControl s t.clearMonitor :=
  h.trans (by constructor <;> simp)

theorem startStep (h : SameControl s t) : SameControl s t.startStep :=
  h.trans (by constructor <;> simp)

theorem storeBytes (h : SameControl s t) {w : Nat} {a : Addr} {n : Nat} {v : BitVec w} :
    SameControl s (t.storeBytes a n v) :=
  h.trans { refl t with mem := fun hm => Memory.wf_store hm _ a v n }

theorem ite {c : Prop} [Decidable c] (h : SameControl s t) (k : SameControl s u) : SameControl s (if c then t else u) := by
  split <;> assumption

end SameControl

/-! ## Where exceptions go -/

/-- The levels that an exception or interrupt may go to (60 R804, R831). -/
inductive State.MayEnter (s : State) : EL → Prop
  | el1 : MayEnter s .el1
  | el2 (h : s.el2Acts = true) : MayEnter s .el2
  | el3 (h : s.cfg.haveEL3 = true) : MayEnter s .el3
  | same {level : EL} (h : s.p.el = level) (h0 : level ≠ .el0) : MayEnter s level

theorem State.el2Acts_of_tge {s : State} (h : s.tge = true) : s.el2Acts = true := by
  rw [State.tge, Bool.and_eq_true] at h
  exact h.1

/-- The general case of the target level (60 R831). -/
theorem State.mayEnter_generalTarget (s : State) : s.MayEnter s.generalTarget := by
  unfold State.generalTarget
  split
  · split
    · exact .el2 (State.el2Acts_of_tge ‹_›)
    · exact .el1
  · exact .same rfl ‹_›

/-- An exception that goes to EL1, or to EL2 when TGE reroutes it (60 R808, R831). -/
theorem State.mayEnter_rerouted (s : State) (level : EL) (h : level = .el1) :
    s.MayEnter (if level = .el1 ∧ s.tge then .el2 else level) := by
  subst h
  by_cases htge : s.tge = true
  · rw [if_pos ⟨rfl, htge⟩]; exact .el2 (State.el2Acts_of_tge htge)
  · rw [if_neg (fun h => htge h.2)]; exact .el1

namespace SameControl

variable {s t : State}

theorem el2Acts (h : SameControl s t) : t.el2Acts = s.el2Acts := by
  simp [State.el2Acts, State.isSecure, h.cfg, h.scr, h.el]

theorem tge (h : SameControl s t) : t.tge = s.tge := by
  simp [State.tge, h.el2Acts, h.hcr]

theorem generalTarget (h : SameControl s t) : t.generalTarget = s.generalTarget := by
  simp only [State.generalTarget, h.el, h.tge]

theorem target (h : SameControl s t) (e : Exc) : e.target t = e.target s := by
  cases e <;> simp only [Exc.target, h.el, h.tge, h.generalTarget]

theorem mayEnter (h : SameControl s t) {level : EL} (hl : t.MayEnter level) : s.MayEnter level := by
  cases hl with
  | el1 => exact .el1
  | el2 h2 => exact .el2 (h.el2Acts ▸ h2)
  | el3 h3 => exact .el3 (h.cfg ▸ h3)
  | same hel h0 => exact .same (h.el ▸ hel) h0

end SameControl

/-! ## What any instruction can do -/

/-- All that an instruction outside Debug state can do to the control state. -/
inductive State.Effect (s : State) : State → Prop
  | ordinary {t : State} (h : SameControl s t) : Effect s t
  | raised {e : Exc} (h : s.MayEnter (e.target s)) : Effect s (s.raised e)
  | interrupt {u : State} {k : Interrupt} {ret : Addr} (h : SameControl s u) (hk : u.interruptTaken k = true) :
      Effect s (u.takeInterrupt k ret)
  | eret {target : Addr} {spsr : DWord} (h : s.p.el ≠ .el0) : Effect s (s.exceptionReturn target spsr)
  | msrImmediate {field : PStateField} {operand : BitVec 4} (h : s.pstateFieldPresent field = true) :
      Effect s { s with p := s.p.writeField field operand }.advance
  | msrRegister {op0 : BitVec 2} {op1 : BitVec 3} {crn crm : BitVec 4} {op2 : BitVec 3} {rt : Reg} {reg : SysReg}
      {v : DWord} (h : s.checkSysReg op0 op1 crn crm op2 rt false = .ok reg) : Effect s (s.writeSysReg reg v).advance

/-- Every next state of a result is an effect on `s`. -/
def State.HasEffect (s : State) (r : Result) : Prop := ∀ t, r = .next t → s.Effect t

/-- A computation raises only exceptions that may be taken, and its value has a property. -/
def State.Yields (s : State) {α : Type} (r : Except Exc α) (P : α → Prop) : Prop :=
  match r with
  | .ok a => P a
  | .error e => s.MayEnter (e.target s)

/-- A check: it raises only exceptions that may be taken. -/
abbrev State.Checks (s : State) {α : Type} (r : Except Exc α) : Prop := s.Yields r fun _ => True

section

variable {s : State} {α β : Type} {P : α → Prop} {Q : β → Prop}

theorem State.hasEffect_next {t : State} (h : s.Effect t) : s.HasEffect (.next t) := by
  rintro _ ⟨⟩; exact h

theorem State.hasEffect_raise {e : Exc} (h : s.MayEnter (e.target s)) : s.HasEffect (raise s e) :=
  State.hasEffect_next (.raised h)

theorem State.hasEffect_undefined : s.HasEffect (raise s .undefined) := State.hasEffect_raise s.mayEnter_generalTarget

theorem State.hasEffect_advance : s.HasEffect (.next s.advance) :=
  State.hasEffect_next (.ordinary (SameControl.refl s).advance)

theorem State.hasEffect_finish {r : Except Exc State} (h : s.Yields r fun t => s.Effect t.advance) :
    s.HasEffect (finish s r) := by
  cases r with
  | ok t => exact State.hasEffect_next h
  | error e => exact State.hasEffect_raise h

/-- An instruction that ends in an ordinary next state. -/
theorem State.hasEffect_finish_ordinary {r : Except Exc State} (h : s.Yields r (SameControl s)) :
    s.HasEffect (finish s r) :=
  State.hasEffect_finish (by cases r with
    | ok t => exact .ordinary (SameControl.advance h)
    | error e => exact h)

theorem State.HasEffect.ite {c : Prop} [Decidable c] {r r' : Result} (h : c → s.HasEffect r) (h' : ¬c → s.HasEffect r') :
    s.HasEffect (if c then r else r') := by
  by_cases hc : c
  · rw [if_pos hc]; exact h hc
  · rw [if_neg hc]; exact h' hc

theorem State.Yields.ite {c : Prop} [Decidable c] {r r' : Except Exc α} (h : c → s.Yields r P) (h' : ¬c → s.Yields r' P) :
    s.Yields (if c then r else r') P := by
  by_cases hc : c
  · rw [if_pos hc]; exact h hc
  · rw [if_neg hc]; exact h' hc

theorem State.Yields.bind {r : Except Exc α} {f : α → Except Exc β} (h : s.Yields r P)
    (hf : ∀ a, P a → s.Yields (f a) Q) : s.Yields (r >>= f) Q := by
  cases r with
  | ok a => exact hf a h
  | error e => exact h

theorem State.Checks.bind {r : Except Exc α} {f : α → Except Exc β} (h : s.Checks r) (hf : ∀ a, s.Yields (f a) Q) :
    s.Yields (r >>= f) Q :=
  State.Yields.bind h fun a _ => hf a

theorem State.Checks.map {r : Except Exc α} {f : α → β} (h : s.Checks r) (hf : ∀ a, Q (f a)) : s.Yields (r.map f) Q := by
  cases r with
  | ok a => exact hf a
  | error e => exact h

/-- What a state with the same control state yields. -/
theorem SameControl.yields {u : State} (h : SameControl s u) {r : Except Exc α} (hr : u.Yields r P) : s.Yields r P := by
  cases r with
  | ok a => exact hr
  | error e =>
    have he : s.MayEnter (e.target u) := h.mayEnter hr
    rwa [h.target e] at he

/-! ## The checks -/

theorem State.yields_undefined : s.Yields (.error .undefined : Except Exc α) P := s.mayEnter_generalTarget

theorem State.checks_orUndefined (o : Option α) : s.Checks (orUndefined o) := by
  cases o with
  | none => exact State.yields_undefined
  | some a => trivial

theorem State.checks_require {c : Bool} {e : Exc} (h : s.MayEnter (e.target s)) : s.Checks (require c e) := by
  cases c with
  | false => exact h
  | true => trivial

theorem State.checks_checkAccess {a : Addr} {n : Nat} {acc : AccType} {kind : AccessKind} {rmw : Bool} :
    s.Checks (s.checkAccess a n acc kind rmw) := by
  by_cases h : s.Allowed a n acc kind
  · rw [State.checkAccess_eq_ok.mpr h]; trivial
  · obtain ⟨b, fault, wnr, he⟩ := State.checkAccess_eq_error (rmw := rmw) h
    rw [he]; exact s.mayEnter_generalTarget

theorem State.checks_checkPair {a : Addr} {n : Nat} {acc : AccType} {kind : AccessKind} {rmw : Bool} :
    s.Checks (s.checkPair a n acc kind rmw) := by
  unfold State.checkPair
  split
  · exact s.mayEnter_generalTarget
  · have hlow := State.checks_checkAccess (s := s) (a := a) (n := n) (acc := acc) (kind := kind) (rmw := rmw)
    split
    · exact State.checks_checkAccess
    · rename_i he; rwa [he] at hlow

theorem State.checks_memRead {a : Addr} {n : Nat} {acc : AccType} : s.Checks (s.memRead a n acc) := by
  have h := State.checks_checkAccess (s := s) (a := a) (n := n) (acc := acc) (kind := .read) (rmw := false)
  unfold State.memRead
  split
  · trivial
  · rename_i he; rwa [he] at h

theorem State.yields_memWrite {w : Nat} {a : Addr} {n : Nat} {v : BitVec w} {acc : AccType} :
    s.Yields (s.memWrite a n v acc) (SameControl s) := by
  have h := State.checks_checkAccess (s := s) (a := a) (n := n) (acc := acc) (kind := .write) (rmw := false)
  unfold State.memWrite
  split
  · exact (SameControl.refl s).storeBytes
  · rename_i he; rwa [he] at h

theorem State.checks_baseAddress {n : Reg} : s.Checks (s.baseAddress n) := by
  by_cases h : s.BaseReady n
  · rw [State.baseAddress_ok h]; trivial
  · rw [State.baseAddress_error h]; exact s.mayEnter_generalTarget

end

end Sys2Proof.Machine
end

section
/-! The effect of each shared operation, and so of each instruction, on the control state. -/

namespace Sys2Proof.Machine

variable {s : State}

/-! ## Data processing and branches -/

/-- The form of the data-processing instructions: their operands may be reserved, and what they write is ordinary. -/
theorem State.hasEffect_operand {α : Type} {o : Option α} {f : α → State} (h : ∀ a, SameControl s (f a)) :
    s.HasEffect (finish s ((orUndefined o).map f)) :=
  State.hasEffect_finish_ordinary ((State.checks_orUndefined o).map h)

/-- The same of the instructions without such operands. -/
theorem State.hasEffect_finish_ok {t : State} (h : SameControl s t) : s.HasEffect (finish s (.ok t)) :=
  State.hasEffect_finish_ordinary h

theorem SameControl.writeSum {t : State} (h : SameControl s t) {w : Nat} {setFlags : Bool} {rd : Reg}
    {sum : BitVec w × Flags} : SameControl s (t.writeSum setFlags rd sum) :=
  .ite h.writeFlags.writeX h.writeX

theorem SameControl.writeSumSp {t : State} (h : SameControl s t) {w : Nat} {setFlags : Bool} {rd : Reg}
    {sum : BitVec w × Flags} : SameControl s (t.writeSumSp setFlags rd sum) :=
  .ite h.writeFlags.writeX h.writeXsp

theorem logicalShifted_hasEffect {op : LogicalOp} {invert setFlags : Bool} {sf : BitVec 1} {shift : BitVec 2} {rm : Reg}
    {imm6 : BitVec 6} {rn rd : Reg} : s.HasEffect (logicalShifted op invert setFlags sf shift rm imm6 rn rd s) :=
  State.hasEffect_operand fun _ => .ite (SameControl.refl s).writeFlags.writeX (SameControl.refl s).writeX

theorem addSubImmediate_hasEffect {sub setFlags : Bool} {sf : BitVec 1} {shift : BitVec 2} {imm12 : BitVec 12}
    {rn rd : Reg} : s.HasEffect (addSubImmediate sub setFlags sf shift imm12 rn rd s) :=
  State.hasEffect_operand fun _ => (SameControl.refl s).writeSumSp

theorem bitfieldSigned_hasEffect {sf n : BitVec 1} {immr imms : BitVec 6} {rn rd : Reg} :
    s.HasEffect (bitfieldSigned sf n immr imms rn rd s) :=
  State.hasEffect_operand fun _ => (SameControl.refl s).writeX

theorem bitfieldUnsigned_hasEffect {sf n : BitVec 1} {immr imms : BitVec 6} {rn rd : Reg} :
    s.HasEffect (bitfieldUnsigned sf n immr imms rn rd s) :=
  State.hasEffect_operand fun _ => (SameControl.refl s).writeX

theorem crcUpdate_hasEffect {poly : BitVec 32} {sf : BitVec 1} {rm : Reg} {sz : BitVec 2} {rn rd : Reg} :
    s.HasEffect (crcUpdate poly sf rm sz rn rd s) := by
  unfold crcUpdate
  split
  · exact State.hasEffect_finish_ok (SameControl.refl s).writeX
  · exact State.hasEffect_undefined

theorem branchIf_hasEffect {taken : Bool} {offset : Addr} : s.HasEffect (branchIf taken offset s) :=
  State.hasEffect_next (.ordinary (.ite (SameControl.refl s).branch (SameControl.refl s).advance))

theorem branchTo_hasEffect {call : Bool} {target : Addr} : s.HasEffect (branchTo call target s) :=
  State.hasEffect_next (.ordinary (SameControl.ite (SameControl.refl s).writeX (.refl s)).branch)

/-! ## Loads and stores -/

theorem SameControl.writeBack {t : State} (h : SameControl s t) {wb : Writeback} {n : Reg} {a : Addr} :
    SameControl s (t.writeBack wb n a) := by
  cases wb with
  | none => exact h
  | address => exact h.writeXsp
  | unknown => exact h.drawn.writeXsp

theorem atLoadWriteback_hasEffect {overlap : Bool} {mode : Indexing} {k : Writeback → Result}
    (h : ∀ wb, s.HasEffect (k wb)) : s.HasEffect (atLoadWriteback s overlap mode k) := by
  unfold atLoadWriteback
  split
  · split
    · exact h _
    · exact h _
    · exact State.hasEffect_undefined
    · exact State.hasEffect_advance
  · exact h _

theorem atStoreWriteback_hasEffect {overlap : Bool} {k : Bool → Result} (h : ∀ b, s.HasEffect (k b)) :
    s.HasEffect (atStoreWriteback s overlap k) := by
  unfold atStoreWriteback
  split
  · split
    · exact h _
    · exact h _
    · exact State.hasEffect_undefined
    · exact State.hasEffect_advance
  · exact h _

theorem atLoadPair_hasEffect {same : Bool} {k : Bool → Result} (h : ∀ b, s.HasEffect (k b)) :
    s.HasEffect (atLoadPair s same k) := by
  unfold atLoadPair
  split
  · split
    · exact h _
    · exact State.hasEffect_undefined
    · exact State.hasEffect_advance
  · exact h _

theorem atStoreExclusive_hasEffect {choice : StoreExclusiveChoice} {overlap : Bool} {k : Bool → Result}
    (h : ∀ b, s.HasEffect (k b)) : s.HasEffect (atStoreExclusive s choice overlap k) := by
  unfold atStoreExclusive
  split
  · split
    · exact h _
    · exact h _
    · exact State.hasEffect_undefined
    · exact State.hasEffect_advance
  · exact h _

theorem whenFeature_hasEffect {b : Bool} {r : Result} (h : s.HasEffect r) : s.HasEffect (whenFeature b s r) := by
  unfold whenFeature
  split
  · exact h
  · exact State.hasEffect_undefined

theorem loadRegister_hasEffect {bytes : Nat} {ext : Extension} {acc : AccType} {mode : Indexing} {n t : Reg}
    {offset : Addr} : s.HasEffect (loadRegister bytes ext acc mode n t offset s) :=
  atLoadWriteback_hasEffect fun _ => State.hasEffect_finish_ordinary <|
    State.checks_baseAddress.bind fun _ => State.checks_memRead.bind fun _ => (SameControl.refl s).writeX.writeBack

theorem storeRegister_hasEffect {bytes : Nat} {acc : AccType} {mode : Indexing} {n t : Reg} {offset : Addr} :
    s.HasEffect (storeRegister bytes acc mode n t offset s) :=
  atStoreWriteback_hasEffect fun _ => State.hasEffect_finish_ordinary <|
    State.checks_baseAddress.bind fun _ => State.yields_memWrite.bind fun _ h => h.drawn.writeBack

theorem loadIndexed_hasEffect {bytes : Nat} {ext : Extension} {rm : Reg} {option : BitVec 3} {shift : Nat} {n t : Reg} :
    s.HasEffect (loadIndexed bytes ext rm option shift n t s) := by
  unfold loadIndexed
  split
  · exact loadRegister_hasEffect
  · exact State.hasEffect_undefined

theorem storeIndexed_hasEffect {bytes : Nat} {rm : Reg} {option : BitVec 3} {shift : Nat} {n t : Reg} :
    s.HasEffect (storeIndexed bytes rm option shift n t s) := by
  unfold storeIndexed
  split
  · exact storeRegister_hasEffect
  · exact State.hasEffect_undefined

theorem loadLiteral_hasEffect {bytes : Nat} {ext : Extension} {imm19 : BitVec 19} {t : Reg} :
    s.HasEffect (loadLiteral bytes ext imm19 t s) :=
  State.hasEffect_finish_ordinary (State.checks_memRead.map fun _ => (SameControl.refl s).writeX)

theorem prefetchIndexed_hasEffect {rm : Reg} {option : BitVec 3} {shift : Nat} :
    s.HasEffect (prefetchIndexed rm option shift s) := by
  unfold prefetchIndexed
  split
  · exact State.hasEffect_advance
  · exact State.hasEffect_undefined

theorem loadPair_hasEffect {bytes : Nat} {ext : Extension} {acc : AccType} {mode : Indexing} {n t t2 : Reg}
    {offset : Addr} : s.HasEffect (loadPair bytes ext acc mode n t t2 offset s) :=
  atLoadWriteback_hasEffect fun _ => atLoadPair_hasEffect fun _ => State.hasEffect_finish_ordinary <|
    State.checks_baseAddress.bind fun _ => State.checks_memRead.bind fun _ => State.checks_memRead.bind fun _ =>
      (SameControl.refl s).writeX.writeX.drawn.writeBack

theorem storePair_hasEffect {bytes : Nat} {acc : AccType} {mode : Indexing} {n t t2 : Reg} {offset : Addr} :
    s.HasEffect (storePair bytes acc mode n t t2 offset s) :=
  atStoreWriteback_hasEffect fun _ => State.hasEffect_finish_ordinary <|
    State.checks_baseAddress.bind fun _ => State.checks_checkAccess.bind fun _ => State.checks_checkAccess.bind fun _ =>
      (SameControl.refl s).storeBytes.storeBytes.drawn.writeBack

theorem loadOrdered_hasEffect {bytes : Nat} {acc : AccType} {n t : Reg} : s.HasEffect (loadOrdered bytes acc n t s) :=
  State.hasEffect_finish_ordinary <|
    State.checks_baseAddress.bind fun _ => State.checks_memRead.bind fun _ => (SameControl.refl s).writeX

theorem storeOrdered_hasEffect {bytes : Nat} {acc : AccType} {n t : Reg} : s.HasEffect (storeOrdered bytes acc n t s) :=
  State.hasEffect_finish_ordinary <|
    State.checks_baseAddress.bind fun _ => State.yields_memWrite

theorem loadExclusive_hasEffect {bytes : Nat} {acc : AccType} {n t : Reg} :
    s.HasEffect (loadExclusive bytes acc n t s) :=
  State.hasEffect_finish_ordinary <|
    State.checks_baseAddress.bind fun _ => State.checks_memRead.bind fun _ => (SameControl.refl s).setMonitor.writeX

theorem loadExclusivePair_hasEffect {sz : BitVec 1} {acc : AccType} {n t t2 : Reg} :
    s.HasEffect (loadExclusivePair sz acc n t t2 s) :=
  atLoadPair_hasEffect fun isUnknown => State.hasEffect_finish_ordinary <| State.checks_baseAddress.bind fun _ => by
    split
    · exact (SameControl.refl s).setMonitor.writeX.drawn
    · refine State.checks_checkPair.bind fun _ => ?_
      split <;> exact (SameControl.refl s).setMonitor.writeX.writeX

theorem State.checks_checkExclusive {size : ExclusiveData} {a : Addr} {acc : AccType} :
    s.Checks (s.checkExclusive size a acc) := by
  cases size with
  | one n => exact State.checks_checkAccess
  | pair n => exact State.checks_checkPair

theorem State.yields_exclusiveStore {u : State} (h : SameControl s u) {w : Nat} {size : ExclusiveData} {acc : AccType}
    {address : Addr} {data : BitVec w} {rs : Reg} :
    s.Yields (u.exclusiveStore size acc address data rs) (SameControl s) := by
  have hcheck : s.Checks (u.checkExclusive size address acc) := h.yields State.checks_checkExclusive
  unfold State.exclusiveStore
  split
  · exact hcheck.bind fun _ => h.storeBytes.clearMonitor.writeX
  · split
    · exact hcheck.bind fun _ => h.clearMonitor.writeX
    · exact h.clearMonitor.writeX

theorem storeExclusive_hasEffect {w : Nat} {size : ExclusiveData} {acc : AccType} {rs n : Reg} {dataOverlap : Bool}
    {data : BitVec w} : s.HasEffect (storeExclusive size acc rs n dataOverlap data s) :=
  atStoreExclusive_hasEffect fun _ => atStoreExclusive_hasEffect fun _ => State.hasEffect_finish_ordinary <|
    State.checks_baseAddress.bind fun _ => State.yields_exclusiveStore (SameControl.refl s).drawn

/-! ## Atomic instructions -/

theorem State.checks_checkAtomic {a : Addr} {bytes : Nat} {ld st : AccType} : s.Checks (s.checkAtomic a bytes ld st) :=
  State.checks_checkAccess.bind fun _ => State.checks_checkAccess

theorem State.checks_checkAtomicPair {a : Addr} {bytes : Nat} {ld st : AccType} :
    s.Checks (s.checkAtomicPair a bytes ld st) :=
  (State.checks_require s.mayEnter_generalTarget).bind fun _ =>
    State.checks_checkAtomic.bind fun _ => State.checks_checkAtomic

theorem atomicLoad_hasEffect {op : AtomicOp} {bytes : Nat} {a r : BitVec 1} {rs n t : Reg} :
    s.HasEffect (atomicLoad op bytes a r rs n t s) :=
  whenFeature_hasEffect <| State.hasEffect_finish_ordinary <|
    State.checks_baseAddress.bind fun _ => State.checks_checkAtomic.bind fun _ =>
      (SameControl.refl s).storeBytes.writeX

theorem compareAndSwap_hasEffect {bytes : Nat} {l : BitVec 1} {rs : Reg} {o0 : BitVec 1} {n t : Reg} :
    s.HasEffect (compareAndSwap bytes l rs o0 n t s) :=
  whenFeature_hasEffect <| State.hasEffect_finish_ordinary <|
    State.checks_baseAddress.bind fun _ => State.checks_checkAtomic.bind fun _ =>
      (SameControl.ite (SameControl.refl s).storeBytes (.refl s)).writeX

theorem compareAndSwapPair_hasEffect {sz l : BitVec 1} {rs : Reg} {o0 : BitVec 1} {n t : Reg} :
    s.HasEffect (compareAndSwapPair sz l rs o0 n t s) :=
  whenFeature_hasEffect <| State.hasEffect_finish_ordinary <|
    (State.checks_require s.mayEnter_generalTarget).bind fun _ =>
    (State.checks_require s.mayEnter_generalTarget).bind fun _ =>
    State.checks_baseAddress.bind fun _ => State.checks_checkAtomicPair.bind fun _ =>
      (SameControl.ite (SameControl.refl s).storeBytes (.refl s)).writeX.writeX

/-! ## Moves to and from system registers -/

theorem State.checks_checkSysReg {op0 : BitVec 2} {op1 : BitVec 3} {crn crm : BitVec 4} {op2 : BitVec 3} {rt : Reg}
    {read : Bool} : s.Checks (s.checkSysReg op0 op1 crn crm op2 rt read) := by
  unfold State.checkSysReg
  split
  · exact State.yields_undefined
  · exact .ite (fun _ => State.yields_undefined) fun _ => .ite (fun _ => s.mayEnter_rerouted _ rfl) fun _ => trivial

theorem readSystem_hasEffect {o0 : BitVec 1} {op1 : BitVec 3} {crn crm : BitVec 4} {op2 : BitVec 3} {rt : Reg} :
    s.HasEffect (readSystem o0 op1 crn crm op2 rt s) :=
  State.hasEffect_finish_ordinary (State.checks_checkSysReg.map fun _ => (SameControl.refl s).writeX)

theorem writeSystem_hasEffect {o0 : BitVec 1} {op1 : BitVec 3} {crn crm : BitVec 4} {op2 : BitVec 3} {rt : Reg} :
    s.HasEffect (writeSystem o0 op1 crn crm op2 rt s) := by
  have hcheck := State.checks_checkSysReg (s := s) (op0 := 1#1 ++ o0) (op1 := op1) (crn := crn) (crm := crm) (op2 := op2)
    (rt := rt) (read := false)
  apply State.hasEffect_finish
  cases h : s.checkSysReg (1#1 ++ o0) op1 crn crm op2 rt false with
  | ok reg => exact .msrRegister h
  | error e => rwa [h] at hcheck

theorem writePState_hasEffect {op1 : BitVec 3} {crm : BitVec 4} {op2 : BitVec 3} :
    s.HasEffect (writePState op1 crm op2 s) := by
  apply State.hasEffect_finish
  split
  · exact State.yields_undefined
  · split
    · exact State.yields_undefined
    · split
      · exact s.mayEnter_rerouted _ rfl
      · exact .msrImmediate (by simp_all)

/-! ## Exception generation and return, debug -/

theorem State.mayEnter_hypervisorCall {imm16 : BitVec 16} (h2 : s.cfg.haveEL2 = true) (h0 : s.p.el ≠ .el0)
    (h1 : s.p.el = .el1 → s.isSecure = false) : s.MayEnter ((Exc.hypervisorCall imm16).target s) := by
  unfold Exc.target
  cases hel : s.p.el with
  | el0 => exact absurd hel h0
  | el1 => exact .el2 (by simp [State.el2Acts, h2, h1 hel])
  | el2 => exact .same hel nofun
  | el3 => exact .same hel nofun

theorem hypervisorCall_hasEffect {imm16 : BitVec 16} : s.HasEffect (hypervisorCall imm16 s) :=
  .ite (fun _ => State.hasEffect_undefined) fun h => .ite
    (fun _ => State.hasEffect_raise (State.mayEnter_hypervisorCall (by simp_all) (by simp_all) (by simp_all)))
    fun _ => State.hasEffect_undefined

theorem secureMonitorCall_hasEffect {imm16 : BitVec 16} : s.HasEffect (secureMonitorCall imm16 s) := by
  unfold secureMonitorCall
  split
  · exact State.hasEffect_undefined
  · split
    · exact State.hasEffect_raise (.el2 (by simp_all))
    · split
      · exact State.hasEffect_undefined
      · exact State.hasEffect_raise (.el3 (by simp_all))

theorem State.mayEnter_softwareBreakpoint {imm16 : BitVec 16} :
    s.MayEnter ((Exc.softwareBreakpoint imm16).target s) := by
  unfold Exc.target
  by_cases h : s.p.el.toNat < 2 ∧ s.tge = true
  · simp only [h, and_self, if_true]; exact .el2 (State.el2Acts_of_tge h.2)
  · simp only [h, if_false]; exact s.mayEnter_generalTarget

theorem exceptionReturn_hasEffect : s.HasEffect (exceptionReturn s) := by
  unfold exceptionReturn
  split
  · exact State.hasEffect_undefined
  · exact State.hasEffect_next (.eret ‹_›)

theorem halt_hasEffect : s.HasEffect (halt s) := by
  unfold halt
  split
  · exact State.hasEffect_next (.ordinary (by constructor <;> simp))
  · exact State.hasEffect_undefined

/-! Outside Debug state DCPS1 to DCPS3 and DRPS are Undefined (49 R706 to R709). -/

theorem State.hasEffect_of_eq_undefined {r : Result} (h : r = raise s .undefined) : s.HasEffect r :=
  h ▸ State.hasEffect_undefined

theorem debugChange1_eq_undefined (h : s.halted = false) : debugChange1 s = raise s .undefined := by
  simp [debugChange1, h]

theorem debugChange2_eq_undefined (h : s.halted = false) : debugChange2 s = raise s .undefined := by
  simp [debugChange2, h]

theorem debugChange3_eq_undefined (h : s.halted = false) : debugChange3 s = raise s .undefined := by
  simp [debugChange3, h]

theorem debugRestore_eq_undefined (h : s.halted = false) : debugRestore s = raise s .undefined := by
  simp [debugRestore, h]

/-! ## Hints and events -/

/-- A trapped WFE or WFI goes to the level that asks for the trap (60 R847). -/
theorem State.checks_checkWfx {isWfe : Bool} : s.Checks (s.checkWfx isWfe) := by
  unfold State.checkWfx
  split
  · exact s.mayEnter_rerouted _ rfl
  · split
    · exact .el2 (by simp_all)
    · split
      · exact .el3 (by simp_all)
      · trivial

theorem waitForEvent_hasEffect : s.HasEffect (waitForEvent s) := by
  apply State.hasEffect_finish_ordinary
  split
  · exact (by constructor <;> simp)
  · exact State.checks_checkWfx.map fun _ => .refl s

theorem waitForInterrupt_hasEffect : s.HasEffect (waitForInterrupt s) := by
  apply State.hasEffect_finish_ordinary
  split
  · exact SameControl.refl s
  · exact State.checks_checkWfx.map fun _ => .refl s

theorem SameControl.esbPhysical {t : State} (h : SameControl s t) : SameControl s t.esbPhysical :=
  .ite (h.trans (by constructor <;> simp)) h

theorem SameControl.esbVirtual {t : State} (h : SameControl s t) : SameControl s t.esbVirtual :=
  .ite (h.trans (by constructor <;> simp)) h

theorem errorBarrier_hasEffect : s.HasEffect (errorBarrier s) := by
  have hdeferred : SameControl s s.esbPhysical.esbVirtual := (SameControl.refl s).esbPhysical.esbVirtual
  unfold errorBarrier
  split
  · dsimp only
    split
    · exact State.hasEffect_next (.interrupt hdeferred (by simp_all))
    · exact State.hasEffect_next (.ordinary hdeferred.advance)
  · exact State.hasEffect_advance

/-! ## System instructions -/

theorem State.checks_checkSysOp {op1 : BitVec 3} {crn crm : BitVec 4} {op2 : BitVec 3} {rt : Reg} :
    s.Checks (s.checkSysOp op1 crn crm op2 rt) := by
  unfold State.checkSysOp
  split
  · exact State.yields_undefined
  · split
    · exact State.yields_undefined
    · split
      · exact s.mayEnter_rerouted _ rfl
      · trivial

theorem State.checks_checkCache {a : Addr} {n : Nat} {needsWrite : Bool} : s.Checks (s.checkCache a n needsWrite) := by
  unfold State.checkCache
  split
  · exact s.mayEnter_generalTarget
  · split
    · exact s.mayEnter_generalTarget
    · trivial

theorem State.yields_sysInstr {op : SysOp} {a : DWord} : s.Yields (s.sysInstr op a) (SameControl s) := by
  cases op with
  | translate level kind pan => exact (by constructor <;> simp)
  | dcZva => exact State.checks_checkCache.map fun _ => { SameControl.refl s with mem := fun hm => Memory.wf_zero hm _ _ }
  | dcAddress => exact State.checks_checkCache.map fun _ => .refl s
  | icAddress => exact State.checks_checkCache.map fun _ => .refl s
  | dcSetWay | icAll | tlbi => exact SameControl.refl s

theorem systemInstruction_hasEffect {op1 : BitVec 3} {crn crm : BitVec 4} {op2 : BitVec 3} {rt : Reg} :
    s.HasEffect (systemInstruction op1 crn crm op2 rt s) :=
  State.hasEffect_finish_ordinary (State.checks_checkSysOp.bind fun _ => State.yields_sysInstr)

/-! ## Every instruction -/

/-- Outside Debug state every instruction has one of the effects of `State.Effect`. -/
theorem exec_hasEffect (i : Instr) (hs : s.halted = false) : s.HasEffect (exec i s) := by
  cases i with dsimp only [exec]
  | adc | adcs | sbc | sbcs | ngc | ngcs => exact State.hasEffect_finish_ok (SameControl.refl s).writeSum
  | addShiftedRegister | addsShiftedRegister | subShiftedRegister | subsShiftedRegister | cmnShiftedRegister
  | cmpShiftedRegister | negShiftedRegister | negs =>
    exact State.hasEffect_operand fun _ => (SameControl.refl s).writeSum
  | addExtendedRegister | addsExtendedRegister | subExtendedRegister | subsExtendedRegister | cmnExtendedRegister
  | cmpExtendedRegister => exact State.hasEffect_operand fun _ => (SameControl.refl s).writeSumSp
  | addImmediate | addsImmediate | subImmediate | subsImmediate | cmnImmediate | cmpImmediate | movToFromSP =>
    exact addSubImmediate_hasEffect
  | ccmnImmediate | ccmnRegister | ccmpImmediate | ccmpRegister =>
    exact State.hasEffect_finish_ok (SameControl.refl s).writeFlags
  | adr | adrp | asrv | lslv | lsrv | rorv | asrRegister | lslRegister | lsrRegister | rorRegister | cls | clz
  | rbit | rev32Bit | rev64Bit | rev16 | rev32 | rev64 | csel | csinc | csinv | csneg | cinc | cinv | cneg | cset
  | csetm | madd | msub | mneg | mul | smaddl | smsubl | umaddl | umsubl | smnegl | smull | umnegl | umull | smulh
  | umulh | sdiv | udiv => exact State.hasEffect_finish_ok (SameControl.refl s).writeX
  | movk | movn | movz | movInvertedWideImmediate | movWideImmediate | bfm | bfc | bfi | bfxil | extr | rorImmediate
  => exact State.hasEffect_operand fun _ => (SameControl.refl s).writeX
  | sbfm | asrImmediate | sbfiz | sbfx | sxtb | sxth | sxtw => exact bitfieldSigned_hasEffect
  | ubfm | lslImmediate | lsrImmediate | ubfiz | ubfx | uxtb | uxth => exact bitfieldUnsigned_hasEffect
  | andImmediate | eorImmediate | orrImmediate | movBitmaskImmediate =>
    exact State.hasEffect_operand fun _ => (SameControl.refl s).writeXsp
  | andsImmediate | tstImmediate => exact State.hasEffect_operand fun _ => (SameControl.refl s).writeFlags.writeX
  | andShiftedRegister | andsShiftedRegister | bicShiftedRegister | bicsShiftedRegister | eonShiftedRegister
  | eorShiftedRegister | ornShiftedRegister | orrShiftedRegister | movRegister | mvn | tstShiftedRegister =>
    exact logicalShifted_hasEffect
  | crc32 | crc32c => exact crcUpdate_hasEffect
  | bCond | cbnz | cbz | tbnz | tbz => exact branchIf_hasEffect
  | b | bl | blr | br | ret => exact branchTo_hasEffect
  | ldrImmediatePostIndex | ldrImmediatePreIndex | ldrImmediateUnsignedOffset | ldrbImmediatePostIndex
  | ldrbImmediatePreIndex | ldrbImmediateUnsignedOffset | ldrhImmediatePostIndex | ldrhImmediatePreIndex
  | ldrhImmediateUnsignedOffset | ldrsbImmediatePostIndex | ldrsbImmediatePreIndex | ldrsbImmediateUnsignedOffset
  | ldrshImmediatePostIndex | ldrshImmediatePreIndex | ldrshImmediateUnsignedOffset | ldrswImmediatePostIndex
  | ldrswImmediatePreIndex | ldrswImmediateUnsignedOffset | ldtr | ldtrb | ldtrh | ldtrsb | ldtrsh | ldtrsw | ldur
  | ldurb | ldurh | ldursb | ldursh | ldursw => exact loadRegister_hasEffect
  | strImmediatePostIndex | strImmediatePreIndex | strImmediateUnsignedOffset | strbImmediatePostIndex
  | strbImmediatePreIndex | strbImmediateUnsignedOffset | strhImmediatePostIndex | strhImmediatePreIndex
  | strhImmediateUnsignedOffset | sttr | sttrb | sttrh | stur | sturb | sturh => exact storeRegister_hasEffect
  | ldrRegister | ldrbRegister | ldrhRegister | ldrsbRegister | ldrshRegister | ldrswRegister =>
    exact loadIndexed_hasEffect
  | strRegister | strbRegister | strhRegister => exact storeIndexed_hasEffect
  | ldrLiteral | ldrswLiteral => exact loadLiteral_hasEffect
  | prfmRegister => exact prefetchIndexed_hasEffect
  | ldnp | ldpPostIndex | ldpPreIndex | ldpSignedOffset | ldpswPostIndex | ldpswPreIndex | ldpswSignedOffset =>
    exact loadPair_hasEffect
  | stnp | stpPostIndex | stpPreIndex | stpSignedOffset => exact storePair_hasEffect
  | ldar | ldarb | ldarh => exact loadOrdered_hasEffect
  | ldlarb | ldlarh | ldlar => exact whenFeature_hasEffect loadOrdered_hasEffect
  | stlr | stlrb | stlrh => exact storeOrdered_hasEffect
  | stllrb | stllrh | stllr => exact whenFeature_hasEffect storeOrdered_hasEffect
  | ldaxr | ldaxrb | ldaxrh | ldxr | ldxrb | ldxrh => exact loadExclusive_hasEffect
  | ldaxp | ldxp => exact loadExclusivePair_hasEffect
  | stlxr | stlxrb | stlxrh | stxr | stxrb | stxrh | stlxp | stxp => exact storeExclusive_hasEffect
  | ldaddb | ldaddh | ldadd | ldclrb | ldclrh | ldclr | ldeorb | ldeorh | ldeor | ldsetb | ldseth | ldset | ldsmaxb
  | ldsmaxh | ldsmax | ldsminb | ldsminh | ldsmin | ldumaxb | ldumaxh | ldumax | lduminb | lduminh | ldumin | swpb
  | swph | swp | staddb | staddh | stadd | stclrb | stclrh | stclr | steorb | steorh | steor | stsetb | stseth
  | stset | stsmaxb | stsmaxh | stsmax | stsminb | stsminh | stsmin | stumaxb | stumaxh | stumax | stuminb | stuminh
  | stumin => exact atomicLoad_hasEffect
  | casb | cash | cas => exact compareAndSwap_hasEffect
  | casp => exact compareAndSwapPair_hasEffect
  | mrs => exact readSystem_hasEffect
  | msrRegister => exact writeSystem_hasEffect
  | msrImmediate => exact writePState_hasEffect
  | sys | sysAt | sysDc | sysIc | sysTlbi => exact systemInstruction_hasEffect
  | sysl => exact State.hasEffect_undefined
  | dcps1 => exact State.hasEffect_of_eq_undefined (debugChange1_eq_undefined hs)
  | dcps2 => exact State.hasEffect_of_eq_undefined (debugChange2_eq_undefined hs)
  | dcps3 => exact State.hasEffect_of_eq_undefined (debugChange3_eq_undefined hs)
  | drps => exact State.hasEffect_of_eq_undefined (debugRestore_eq_undefined hs)
  | hlt => exact halt_hasEffect
  | hvc => exact hypervisorCall_hasEffect
  | smc => exact secureMonitorCall_hasEffect
  | svc => exact State.hasEffect_raise s.mayEnter_generalTarget
  | brk => exact State.hasEffect_raise State.mayEnter_softwareBreakpoint
  | eret => exact exceptionReturn_hasEffect
  | dmb | dsb | hint | isb | nop | psbCsync | yield | prfmImmediate | prfmLiteral | prfum =>
    exact State.hasEffect_advance
  | wfe => exact waitForEvent_hasEffect
  | wfi => exact waitForInterrupt_hasEffect
  | sev | sevl => exact State.hasEffect_next (.ordinary (by constructor <;> simp))
  | clrex => exact State.hasEffect_next (.ordinary (SameControl.refl s).clearMonitor.advance)
  | esb => exact errorBarrier_hasEffect

end Sys2Proof.Machine
end

section
/-! What a step does to the control state: it keeps a legal state legal, and at EL0 it keeps the system control. -/

namespace Sys2Proof.Machine

variable {s t : State}

/-! ## One step -/

theorem SameControl.act (h : SameControl s t) (a : EnvAction) : SameControl s (t.act a) := by
  cases a with
  | store addr b =>
    exact h.trans { SameControl.refl t with mem := fun hm => Memory.wf_setByte hm addr b }
  | _ => exact h.trans (by constructor <;> simp [State.act])

theorem SameControl.foldl_act (actions : List EnvAction) (h : SameControl s t) :
    SameControl s (actions.foldl State.act t) := by
  induction actions generalizing t with
  | nil => exact h
  | cons a rest ih => exact ih (h.act a)

/-- The environment has no access to the control state (60 R850). -/
theorem SameControl.environment (s : State) : SameControl s s.environment := by
  unfold State.environment
  split
  · exact .refl s
  · exact .foldl_act _ (by constructor <;> simp)

theorem State.act_halted (s : State) (a : EnvAction) : (s.act a).halted = s.halted := by
  cases a <;> rfl

theorem State.foldl_act_halted (actions : List EnvAction) (s : State) :
    (actions.foldl State.act s).halted = s.halted := by
  induction actions generalizing s with
  | nil => rfl
  | cons a rest ih => exact (ih (s.act a)).trans (s.act_halted a)

theorem State.environment_halted (s : State) : s.environment.halted = s.halted := by
  unfold State.environment
  split
  · rfl
  · exact State.foldl_act_halted _ _

theorem State.interruptTaken_of_nextInterrupt {k : Interrupt} (h : s.nextInterrupt = some k) :
    s.interruptTaken k = true :=
  List.find?_some h

/-- Fetch and decode raise exceptions that may be taken (60 R803(2) to (5)). -/
theorem State.checks_fetch : s.Checks s.fetch := by
  have hcheck : s.Checks s.checkFetch :=
    .ite (fun _ => s.mayEnter_generalTarget) fun _ => .ite (fun _ => s.mayEnter_generalTarget) fun _ =>
      .ite (fun _ => s.mayEnter_generalTarget) fun _ => .ite (fun _ => s.mayEnter_generalTarget) fun _ => trivial
  unfold State.fetch
  split
  · rename_i he; rwa [he] at hcheck
  · split
    · trivial
    · exact State.yields_undefined

/-- A step is an effect on a state that has the control state of the one before. -/
theorem step_effect (h : step s = .next t) : ∃ u, SameControl s u ∧ u.Effect t := by
  obtain ⟨hs, ⟨k, hk, rfl⟩ | ⟨-, ⟨e, he, rfl⟩ | ⟨i, -, hi⟩⟩⟩ := step_cases h
  · refine ⟨s.environment, .environment s, ?_⟩
    rcases s.environment.interrupted_cases k with ⟨-, hw⟩ | ⟨-, ht⟩
    · rw [hw]; exact .ordinary (by constructor <;> simp)
    · rw [ht]; exact .interrupt (.refl _) (State.interruptTaken_of_nextInterrupt hk)
  · have hfetch := State.checks_fetch (s := s.environment.startStep)
    rw [he] at hfetch
    exact ⟨_, (SameControl.environment s).startStep, .raised hfetch⟩
  · have hrunning := (State.startStep_halted _).trans (s.environment_halted.trans hs)
    exact ⟨_, (SameControl.environment s).startStep, exec_hasEffect i hrunning t hi⟩

/-! ## Legal states -/

theorem State.Legal.elRegs (h : s.Legal) (level : EL) : (s.elRegs level).Legal s.cfg := by
  cases level with
  | el0 | el1 => exact h.el1Regs
  | el2 => exact h.el2Regs
  | el3 => exact h.el3Regs

theorem SameControl.legal (h : SameControl s t) (hs : s.Legal) : t.Legal where
  memory := h.mem hs.memory
  level := by rw [h.cfg, h.el]; exact hs.level
  el2 hel := by rw [h.el2Acts]; exact hs.el2 (h.el ▸ hel)
  sp hel := by rw [h.sp]; exact hs.sp (h.el ▸ hel)
  ss := h.ss.trans hs.ss
  pan hc := h.pan.trans (hs.pan (h.cfg ▸ hc))
  uao hc := h.uao.trans (hs.uao (h.cfg ▸ hc))
  el1Regs := by rw [h.cfg, h.el1]; exact hs.el1Regs
  el2Regs := by rw [h.cfg, h.el2]; exact hs.el2Regs
  el3Regs := by rw [h.cfg, h.el3]; exact hs.el3Regs

/-- Legal registers written to a level leave a legal state. -/
theorem State.Legal.setElRegs (h : s.Legal) (level : EL) {r : ELRegs} (hr : r.Legal s.cfg) : (s.setElRegs level r).Legal := by
  cases level with
  | el0 | el1 => exact { h with el1Regs := hr }
  | el2 => exact { h with el2Regs := hr }
  | el3 => exact { h with el3Regs := hr }

/-- A PSTATE that a legal state may have, whose other fields are those of `s`. -/
structure State.LegalPState (s : State) (p : PState) : Prop where
  level : s.cfg.haveEL p.el = true
  el2 : p.el = .el2 → { s with p := p }.el2Acts = true
  sp : p.el = .el0 → p.sp = false
  ss : p.ss = false
  pan : s.cfg.havePAN = false → p.pan = false
  uao : s.cfg.haveUAO = false → p.uao = false

theorem State.Legal.withPState (h : s.Legal) {p : PState} (hp : s.LegalPState p) : { s with p := p }.Legal :=
  { h with level := hp.level, el2 := hp.el2, sp := hp.sp, ss := hp.ss, pan := hp.pan, uao := hp.uao }

/-- At EL2 the level acts wherever EL2 acts (60 R804). -/
theorem State.el2Acts_withPState {p : PState} (hp : p.el = .el2) (h : s.el2Acts = true) :
    { s with p := p }.el2Acts = true := by
  simp only [State.el2Acts, State.isSecure, Bool.and_eq_true, Bool.not_eq_true', Bool.and_eq_false_iff, hp] at h ⊢
  exact ⟨h.1, h.2.imp_right fun hsec => by simpa using (Bool.or_eq_false_iff.mp hsec).2⟩

/-! ## Exception entry and return -/

theorem State.mayEnter_interruptTarget (k : Interrupt) : s.MayEnter (s.interruptTarget k) := by
  unfold State.interruptTarget
  split
  · exact .el3 (by simp_all)
  · split
    · exact .el2 (by simp_all)
    · exact .el1

theorem State.MayEnter.ne_el0 {level : EL} (h : s.MayEnter level) : level ≠ .el0 := by
  cases h with
  | el1 | el2 | el3 => nofun
  | same _ h0 => exact h0

/-- PSTATE after an exception entry (60 R830 step 6). -/
theorem State.Legal.legalPState_entry (h : s.Legal) {target : EL} (ht : s.MayEnter target) :
    s.LegalPState (s.entryPState target) where
  level := by
    change s.cfg.haveEL target = true
    cases ht with
    | el1 => rfl
    | el2 h2 => simp_all [State.el2Acts, Config.haveEL]
    | el3 h3 => exact h3
    | same hel _ => exact hel ▸ h.level
  el2 hel := by
    refine State.el2Acts_withPState hel ?_
    obtain rfl : target = .el2 := hel
    cases ht with
    | el2 h2 => exact h2
    | same hel _ => exact h.el2 hel
  sp h0 := absurd h0 ht.ne_el0
  ss := rfl
  pan hc := by simp [State.entryPState, hc, h.pan hc]
  uao hc := by simp [State.entryPState, h.uao hc]

theorem State.Legal.takeException (h : s.Legal) {target : EL} (ht : s.MayEnter target) {esr : Option DWord}
    {far : FarEffect} {ret : Addr} {vect : BitVec 11} : (s.takeException target esr far ret vect).Legal := by
  have hregs : (s.setElRegs target (s.entryRegs target esr far ret)).Legal :=
    h.setElRegs target ⟨(h.elRegs target).vbar, (h.elRegs target).sctlr⟩
  have hp := h.legalPState_entry ht
  have hentry : (s.setElRegs target (s.entryRegs target esr far ret)).LegalPState (s.entryPState target) := by
    cases target <;> exact ⟨hp.level, hp.el2, hp.sp, hp.ss, hp.pan, hp.uao⟩
  refine SameControl.legal ?_ (hregs.withPState hentry)
  constructor <;> simp [State.takeException]

theorem State.Legal.raised (h : s.Legal) {e : Exc} (he : s.MayEnter (e.target s)) : (s.raised e).Legal := by
  unfold State.raised
  split
  · exact h
  · exact h.takeException he

/-! ## Exception return -/

theorem EL.ofBits_toNat (b : BitVec 2) : (EL.ofBits b).toNat = b.toNat := by
  revert b; decide

theorem EL.ofBits_eq_iff (b : BitVec 2) (level : EL) : EL.ofBits b = level ↔ b = level.bits := by
  cases level <;> revert b <;> decide

/-- `IllegalReturn`, as the machine computes it and by the cases of 60 R841. -/
theorem State.illegalReturn_eq_true {spsr : DWord} : s.illegalReturn spsr = true ↔ s.ReturnIsIllegal spsr := by
  simp only [State.illegalReturn, State.ReturnIsIllegal, Bool.or_eq_true, Bool.and_eq_true, decide_eq_true_eq,
    Bool.not_eq_true', EL.ofBits_toNat, EL.ofBits_eq_iff, EL.bits, or_assoc, and_assoc]

/-- The mode bits of a return to EL0 that is legal select SP_EL0 (60 R841(d), (e)). -/
theorem getLsbD_zero_of_mode_ne_one {w : DWord} (hlevel : w.extractLsb' 2 2 = 0#2) (hbit1 : ¬w.getLsbD 1 = true)
    (hmode : w.extractLsb' 0 4 ≠ 1#4) : w.getLsbD 0 = false := by
  by_contra h0
  apply hmode
  have h2 : w.getLsbD 2 = false := by simpa using congrArg (·.getLsbD 0) hlevel
  have h3 : w.getLsbD 3 = false := by simpa using congrArg (·.getLsbD 1) hlevel
  apply BitVec.eq_of_getLsbD_eq
  intro i hi
  obtain rfl | rfl | rfl | rfl : i = 0 ∨ i = 1 ∨ i = 2 ∨ i = 3 := by omega
  all_goals simp_all

/-- PSTATE after a return (60 R840, R841). -/
theorem State.Legal.legalPState_return (h : s.Legal) (spsr : DWord) : s.LegalPState (s.returnPState spsr) := by
  have hpan (hc : s.cfg.havePAN = false) : (s.returnPState spsr).pan = false := by simp [State.returnPState, hc, h.pan hc]
  have huao (hc : s.cfg.haveUAO = false) : (s.returnPState spsr).uao = false := by simp [State.returnPState, hc, h.uao hc]
  cases hr : s.illegalReturn spsr with
  | true =>
    have hel : (s.returnPState spsr).el = s.p.el := by simp [State.returnPState, hr]
    have hsp : (s.returnPState spsr).sp = s.p.sp := by simp [State.returnPState, hr]
    exact ⟨hel ▸ h.level, fun he => State.el2Acts_withPState he (h.el2 (hel ▸ he)), fun he => hsp ▸ h.sp (hel ▸ he), rfl,
      hpan, huao⟩
  | false =>
    have hel : (s.returnPState spsr).el = EL.ofBits (spsr.extractLsb' 2 2) := by simp [State.returnPState, hr]
    have hsp : (s.returnPState spsr).sp = spsr.getLsbD 0 := by simp [State.returnPState, hr]
    have hlegal : ¬s.ReturnIsIllegal spsr := by rw [← State.illegalReturn_eq_true, hr]; simp
    simp only [State.ReturnIsIllegal, not_or] at hlegal
    obtain ⟨hlower, hhave, -, hbit1, hmode, hel2, -⟩ := hlegal
    refine ⟨by simpa [hel] using hhave, fun he => ?_, fun he => ?_, rfl, hpan, huao⟩
    · have hbits : spsr.extractLsb' 2 2 = 2#2 := (EL.ofBits_eq_iff _ .el2).mp (hel ▸ he)
      cases hfrom : s.p.el with
      | el0 | el1 => simp [hbits, hfrom, EL.toNat, EL.bits] at hlower
      | el2 => exact State.el2Acts_withPState he (h.el2 hfrom)
      | el3 =>
        have hns : s.scr.getLsbD 0 = true := by simpa [hbits, hfrom] using hel2
        have hhave2 : s.cfg.haveEL2 = true := by simpa [← hel, he, Config.haveEL] using hhave
        simp only [State.el2Acts, State.isSecure, he, hhave2, hns]
        simp
    · have hbits : spsr.extractLsb' 2 2 = 0#2 := (EL.ofBits_eq_iff _ .el0).mp (hel ▸ he)
      rw [hsp]
      exact getLsbD_zero_of_mode_ne_one hbits hbit1 hmode

variable {s t : State}

/-! ## Writes of PSTATE and of system registers -/

/-- A PSTATE of the same level. -/
theorem State.Legal.legalPState_sameLevel (h : s.Legal) {p : PState} (hel : p.el = s.p.el) (hss : p.ss = s.p.ss)
    (hsp : s.p.el = .el0 → p.sp = false) (hpan : s.cfg.havePAN = false → p.pan = false)
    (huao : s.cfg.haveUAO = false → p.uao = false) : s.LegalPState p where
  level := hel ▸ h.level
  el2 he := State.el2Acts_withPState he (h.el2 (hel ▸ he))
  sp he := hsp (hel ▸ he)
  ss := hss.trans h.ss
  pan := hpan
  uao := huao

/-- MSR (immediate) writes SPSel above EL0 only, and PAN and UAO only with their features (49 R732). -/
theorem State.Legal.legalPState_writeField (h : s.Legal) {field : PStateField} {operand : BitVec 4}
    (hf : s.pstateFieldPresent field = true) : s.LegalPState (s.p.writeField field operand) := by
  cases field with
  | uao => exact h.legalPState_sameLevel rfl rfl h.sp h.pan (by simp_all [State.pstateFieldPresent])
  | pan => exact h.legalPState_sameLevel rfl rfl h.sp (by simp_all [State.pstateFieldPresent]) h.uao
  | sp => exact h.legalPState_sameLevel rfl rfl (by simp_all [State.pstateFieldPresent]) h.pan h.uao
  | daifSet | daifClr => exact h.legalPState_sameLevel rfl rfl h.sp h.pan h.uao

/-- Only the bits of the mask change (49 R731). -/
theorem getLsbD_writeMasked (mask old new : DWord) (i : Nat) :
    (writeMasked mask old new).getLsbD i = if mask.getLsbD i then new.getLsbD i else old.getLsbD i := by
  simp only [writeMasked, BitVec.getLsbD_or, BitVec.getLsbD_and, BitVec.getLsbD_not]
  by_cases hi : i < 64
  · cases mask.getLsbD i <;> simp [hi]
  · simp [BitVec.getLsbD_of_ge _ i (Nat.le_of_not_lt hi)]

/-- A field outside the mask keeps its value. -/
theorem extractLsb'_writeMasked {mask old new : DWord} {start len : Nat} (h : mask.extractLsb' start len = 0#len) :
    (writeMasked mask old new).extractLsb' start len = old.extractLsb' start len := by
  apply BitVec.eq_of_getLsbD_eq
  intro i hi
  have hbit : mask.getLsbD (start + i) = false := by
    simpa [BitVec.getLsbD_extractLsb', hi] using congrArg (·.getLsbD i) h
  simp [BitVec.getLsbD_extractLsb', getLsbD_writeMasked, hbit, -BitVec.getElem_extractLsb']

/-- The level that a system register asks for (10 R61(2)). -/
theorem State.el_ge_of_checkSysReg {op0 : BitVec 2} {op1 : BitVec 3} {crn crm : BitVec 4} {op2 : BitVec 3} {rt : Reg}
    {read : Bool} {reg : SysReg} (h : s.checkSysReg op0 op1 crn crm op2 rt read = .ok reg) :
    minimumLevel (reg.address.extractLsb' 11 3) ≤ s.p.el.toNat := by
  have hallows := (State.checkSysReg_ok h).1
  rw [State.levelAllows, Bool.and_eq_true, decide_eq_true_eq] at hallows
  exact hallows.1

/-- A system register that a legal state lets MSR write keeps the state legal (10 R61; 20 R95; 60 R833). -/
theorem State.Legal.writeSysReg (h : s.Legal) {reg : SysReg} {v : DWord}
    (hlevel : minimumLevel (reg.address.extractLsb' 11 3) ≤ s.p.el.toNat) (hpresent : s.sysRegPresent reg = true) :
    (s.writeSysReg reg v).Legal := by
  cases reg with
  | nzcv => exact (SameControl.refl s).writeFlags.legal h
  | daif => exact h.withPState (h.legalPState_sameLevel rfl rfl h.sp h.pan h.uao)
  | spSel =>
    refine h.withPState (h.legalPState_sameLevel rfl rfl (fun h0 => ?_) h.pan h.uao)
    rw [h0] at hlevel
    exact absurd hlevel (by decide)
  | pan => exact h.withPState (h.legalPState_sameLevel rfl rfl h.sp (by simp_all [State.sysRegPresent]) h.uao)
  | uao => exact h.withPState (h.legalPState_sameLevel rfl rfl h.sp h.pan (by simp_all [State.sysRegPresent]))
  | spsr level | elr level | esr level | far level =>
    exact h.setElRegs level ⟨(h.elRegs level).vbar, (h.elRegs level).sctlr⟩
  | vbar level =>
    refine h.setElRegs level ⟨?_, (h.elRegs level).sctlr⟩
    exact (extractLsb'_writeMasked (by decide)).trans (h.elRegs level).vbar
  | sctlr level =>
    refine h.setElRegs level ⟨(h.elRegs level).vbar, fun hc => ?_⟩
    have hmask : s.sctlrMask.extractLsb' 24 2 = 0#2 := by rw [State.sctlrMask, hc]; decide
    exact (extractLsb'_writeMasked hmask).trans ((h.elRegs level).sctlr hc)
  | scr =>
    refine { h with el2 := fun h2 => ?_ }
    have h2 : s.p.el = .el2 := h2
    rw [h2] at hlevel
    exact absurd hlevel (by decide)
  | currentEL | dczid | isar0 => exact h
  | spEL0 | spEL1 | spEL2 | hcr | dlr | dspsr | disr | vdisr | par | tpidr | extra => exact { h with }

/-- Every effect keeps a legal state legal. -/
theorem State.Effect.legal (h : s.Effect t) (hs : s.Legal) : t.Legal := by
  cases h with
  | ordinary h => exact h.legal hs
  | raised h => exact hs.raised h
  | interrupt h hk => exact (h.legal hs).takeException (State.mayEnter_interruptTarget _)
  | @eret target spsr h =>
    refine SameControl.legal ?_ (hs.withPState (hs.legalPState_return spsr))
    constructor <;> simp [State.exceptionReturn]
  | msrImmediate h => exact (SameControl.refl _).advance.legal (hs.withPState (hs.legalPState_writeField h))
  | msrRegister h =>
    exact (SameControl.refl _).advance.legal (hs.writeSysReg (State.el_ge_of_checkSysReg h) (State.checkSysReg_ok h).2)

/-- Settles O9: a step is an effect on a state with the control state of the one before, and every effect keeps a legal
state legal. -/
theorem stepKeepsLegal : Obligations.StepKeepsLegal := fun _ _ hs hstep =>
  have ⟨_, hsame, heffect⟩ := step_effect hstep
  heffect.legal (hsame.legal hs)

/-! ## The system control registers at EL0 -/

/-- `t` has the vector bases and system control registers of `s`, and its HCR_EL2 and SCR_EL3. -/
def SameSystemControl (s t : State) : Prop :=
  t.hcr = s.hcr ∧ t.scr = s.scr ∧
    ∀ level, (t.elRegs level).vbar = (s.elRegs level).vbar ∧ (t.elRegs level).sctlr = (s.elRegs level).sctlr

theorem SameSystemControl.trans {u : State} (h : SameSystemControl s t) (k : SameSystemControl t u) :
    SameSystemControl s u :=
  ⟨k.1.trans h.1, k.2.1.trans h.2.1, fun level =>
    ⟨(k.2.2 level).1.trans (h.2.2 level).1, (k.2.2 level).2.trans (h.2.2 level).2⟩⟩

theorem SameControl.systemControl (h : SameControl s t) : SameSystemControl s t :=
  ⟨h.hcr, h.scr, fun level => by simp [State.elRegs_congr h.el1 h.el2 h.el3 level]⟩

/-- Registers of a level written with the same VBAR and SCTLR. -/
theorem State.sameSystemControl_setElRegs (s : State) (level : EL) {r : ELRegs} (hv : r.vbar = (s.elRegs level).vbar)
    (hc : r.sctlr = (s.elRegs level).sctlr) : SameSystemControl s (s.setElRegs level r) := by
  refine ⟨by simp, by simp, fun k => ?_⟩
  cases level <;> cases k <;> simp_all [State.setElRegs, State.elRegs]

theorem State.sameSystemControl_takeException (s : State) (target : EL) (esr : Option DWord) (far : FarEffect)
    (ret : Addr) (vect : BitVec 11) : SameSystemControl s (s.takeException target esr far ret vect) :=
  s.sameSystemControl_setElRegs target (r := s.entryRegs target esr far ret) rfl rfl

/-- EL0 reaches none of these registers: their `op1` is not 3 (10 R61, R62). -/
theorem State.sameSystemControl_writeSysReg (h0 : s.p.el = .el0) {reg : SysReg} {v : DWord}
    (hlevel : minimumLevel (reg.address.extractLsb' 11 3) ≤ s.p.el.toNat) : SameSystemControl s (s.writeSysReg reg v) := by
  rw [h0] at hlevel
  cases reg with
  | spsr level | elr level | esr level | far level => exact s.sameSystemControl_setElRegs level rfl rfl
  | vbar level | sctlr level => cases level <;> exact absurd hlevel (by decide)
  | hcr | scr => exact absurd hlevel (by decide)
  | _ => exact ⟨rfl, rfl, fun _ => ⟨rfl, rfl⟩⟩

theorem State.Effect.systemControl (h : s.Effect t) (h0 : s.p.el = .el0) : SameSystemControl s t := by
  cases h with
  | ordinary h => exact h.systemControl
  | raised h =>
    unfold State.raised
    split
    · exact (SameControl.refl s).systemControl
    · exact s.sameSystemControl_takeException _ _ _ _ _
  | interrupt h hk => exact h.systemControl.trans (State.sameSystemControl_takeException _ _ _ _ _ _)
  | eret h => exact absurd h0 h
  | msrImmediate h => exact ⟨rfl, rfl, fun _ => ⟨rfl, rfl⟩⟩
  | msrRegister h =>
    exact (State.sameSystemControl_writeSysReg h0 (State.el_ge_of_checkSysReg h)).trans
      (SameControl.refl _).advance.systemControl

/-- Settles O10: of the effects at EL0 only exception entries and MSR write banked registers, and neither writes a vector
base or a system control register. -/
theorem userCodeKeepsSystemControl : Obligations.UserCodeKeepsSystemControl := fun _ _ h0 hstep =>
  have ⟨_, hsame, heffect⟩ := step_effect hstep
  hsame.systemControl.trans (heffect.systemControl (hsame.el.trans h0))

end Sys2Proof.Machine
end

section
/-! The obligations about registers, reset and MRS and MSR (register). -/

namespace Sys2Proof.Machine

open Sys2Proof.Forms

variable {s : State}

/-! ## The register map -/

theorem SysReg.address_nodup_defaults : (SysReg.defaults.map SysReg.address).Nodup := by decide

/-- The table of 10 R62 lists the default registers at their addresses. -/
theorem mem_registerTable {b : BitVec 16} {reg : SysReg} :
    (b, reg) ∈ registerTable ↔ reg ∈ SysReg.defaults ∧ reg.address = b := by
  have hrows : ∀ row ∈ registerTable, row.2 ∈ SysReg.defaults ∧ row.2.address = row.1 := by decide
  have hregs : ∀ reg ∈ SysReg.defaults, (reg.address, reg) ∈ registerTable := by decide
  exact ⟨hrows _, fun ⟨hmem, haddr⟩ => haddr ▸ hregs reg hmem⟩

/-- Where no two registers share an address, the register at an address is the one with it. -/
theorem State.sysRegAt_eq_some (h : (s.cfg.sysRegs.map SysReg.address).Nodup) {b : BitVec 16} {reg : SysReg} :
    s.sysRegAt b = some reg ↔ reg ∈ s.cfg.sysRegs ∧ reg.address = b := by
  refine ⟨fun hat => ⟨List.mem_of_find?_eq_some hat, State.address_of_sysRegAt hat⟩, fun ⟨hmem, haddr⟩ => ?_⟩
  obtain ⟨r, hr⟩ : ∃ r, s.sysRegAt b = some r :=
    Option.isSome_iff_exists.mp (List.find?_isSome.mpr ⟨reg, hmem, by simpa using haddr⟩)
  rw [hr, List.inj_on_of_nodup_map h (List.mem_of_find?_eq_some hr) hmem ((State.address_of_sysRegAt hr).trans haddr.symm)]

/-! ## When an access is allowed, in the words of the statements -/

theorem State.levelAllows_eq_true {op1 : BitVec 3} : s.levelAllows op1 = true ↔ LevelAllows s op1 := by
  unfold State.levelAllows LevelAllows
  cases s.p.el <;> cases s.isSecure <;> revert op1 <;> decide

theorem State.sysRegPresent_eq_true {reg : SysReg} : s.sysRegPresent reg = true ↔ Forms.Exists s reg := by
  cases reg <;> simp [State.sysRegPresent, Forms.Exists]

theorem SysReg.readable_eq_true {reg : SysReg} : reg.readable = true ↔ MayRead reg := by
  cases reg <;> simp [SysReg.readable, MayRead]

theorem SysReg.writable_eq_true {reg : SysReg} : reg.writable = true ↔ MayWrite reg := by
  cases reg <;> simp [SysReg.writable, MayWrite]

theorem State.daifTrapped_eq_true : s.daifTrapped = true ↔ MasksTrapped s := by
  simp [State.daifTrapped, MasksTrapped, State.inHost_eq_true]

/-! ## What a register reads as -/

theorem State.readSysReg_eq_registerValue (s : State) (reg : SysReg) : s.readSysReg reg = registerValue s reg := by
  cases reg with
  | nzcv =>
    unfold State.readSysReg registerValue PState.flags Flags.toBits
    cases s.p.n <;> cases s.p.z <;> cases s.p.c <;> cases s.p.v <;> rfl
  | daif =>
    unfold State.readSysReg registerValue PState.daifImage
    cases s.p.d <;> cases s.p.a <;> cases s.p.i <;> cases s.p.f <;> rfl
  | currentEL => unfold State.readSysReg registerValue; cases s.p.el <;> rfl
  | spSel => unfold State.readSysReg registerValue; cases s.p.sp <;> rfl
  | pan => unfold State.readSysReg registerValue; cases s.p.pan <;> rfl
  | uao => unfold State.readSysReg registerValue; cases s.p.uao <;> rfl
  | isar0 => unfold State.readSysReg registerValue; cases s.cfg.haveCRC <;> cases s.cfg.haveAtomics <;> rfl
  | dczid => exact (BitVec.setWidth_eq_append (by decide))
  | _ => rfl

/-! ## What a write changes -/

theorem ofBool_getLsbD {w : Nat} (v : BitVec w) (i : Nat) : BitVec.ofBool (v.getLsbD i) = v.extractLsb' i 1 := by
  apply BitVec.eq_of_getLsbD_eq
  intro j hj
  obtain rfl : j = 0 := by omega
  simp

/-- A field of a register written from the same bits of a value, under the mask of the field (49 R731). -/
theorem shifted_field_eq_writeMasked {len lo : Nat} {mask : DWord}
    (hmask : ∀ i < 64, mask.getLsbD i = decide (lo ≤ i ∧ i < lo + len)) (old : BitVec len) (v : DWord) :
    (v.extractLsb' lo len).setWidth 64 <<< lo = writeMasked mask (old.setWidth 64 <<< lo) v := by
  apply BitVec.eq_of_getLsbD_eq
  intro i hi
  simp only [getLsbD_writeMasked, hmask i hi, BitVec.getLsbD_shiftLeft, BitVec.getLsbD_setWidth,
    BitVec.getLsbD_extractLsb', hi, decide_true, Bool.true_and]
  by_cases hlo : i < lo
  · simp [hlo, show ¬lo ≤ i by omega]
  · by_cases hlen : i < lo + len
    · simp [hlo, hlen, show lo ≤ i by omega, show i - lo < len by omega, show i - lo < 64 by omega,
        show lo + (i - lo) = i by omega]
    · simp [hlo, hlen, BitVec.getLsbD_of_ge old (i - lo) (by omega), show ¬i - lo < len by omega]

/-- A bit of a register. -/
theorem bitAt_eq_writeMasked {i : Nat} {mask : DWord} (hmask : ∀ k < 64, mask.getLsbD k = decide (i ≤ k ∧ k < i + 1))
    (old : Bool) (v : DWord) : bitAt (v.getLsbD i) i = writeMasked mask (bitAt old i) v := by
  rw [bitAt, ofBool_getLsbD]
  exact shifted_field_eq_writeMasked hmask _ v

/-- What an address holds after a write of the value at one (log 39). -/
theorem extraValue_setExtraValue (a b : BitVec 16) (v : DWord) (l : List (BitVec 16 × DWord)) :
    extraValue b (setExtraValue a v l) = if b = a then v else extraValue b l := by
  induction l with
  | nil => simp only [setExtraValue, extraValue, eq_comm]
  | cons row rest ih =>
    obtain ⟨k, w⟩ := row
    by_cases hk : k = a
    · subst hk
      simp only [setExtraValue, extraValue, if_true, eq_comm]
      split <;> rfl
    · by_cases hb : k = b
      · subst hb; simp [setExtraValue, extraValue, hk]
      · simp [setExtraValue, extraValue, hk, hb, ih]

theorem writeMasked_allOnes (old new : DWord) : writeMasked (BitVec.allOnes 64) old new = new := by
  rw [writeMasked, BitVec.and_allOnes, BitVec.not_allOnes, BitVec.and_zero, BitVec.zero_or]

theorem Flags.toBits_ofBits (w : BitVec 4) : (Flags.ofBits w).toBits = w := by
  revert w; decide

/-- The mask bits in bits 9:6, as one field. -/
theorem PState.daifImage_eq (p : PState) : p.daifImage = (Flags.mk p.d p.a p.i p.f).toBits.setWidth 64 <<< 6 := by
  unfold PState.daifImage Flags.toBits
  cases p.d <;> cases p.a <;> cases p.i <;> cases p.f <;> rfl

theorem Flags.toBits_of_bits (v : DWord) (lo : Nat) :
    (Flags.mk (v.getLsbD (lo + 3)) (v.getLsbD (lo + 2)) (v.getLsbD (lo + 1)) (v.getLsbD lo)).toBits = v.extractLsb' lo 4 := by
  rw [← Flags.toBits_ofBits (v.extractLsb' lo 4)]
  simp [Flags.ofBits]

/-- MSR writes the bits of the register that can be written (49 R731; log 18). -/
theorem State.readSysReg_writeSysReg_same {reg : SysReg} (h : MayWrite reg) (v : DWord) :
    (s.writeSysReg reg v).readSysReg reg = writeMasked (writable s reg) (s.readSysReg reg) v := by
  cases reg with
  | nzcv =>
    have hnew : (s.writeSysReg .nzcv v).p.flags.toBits = v.extractLsb' 28 4 := Flags.toBits_ofBits _
    change (s.writeSysReg .nzcv v).p.flags.toBits.setWidth 64 <<< 28 = _
    rw [hnew]
    exact shifted_field_eq_writeMasked (mask := 0xF0000000#64) (by decide) _ v
  | daif =>
    change PState.daifImage _ = writeMasked _ s.p.daifImage v
    rw [PState.daifImage_eq, PState.daifImage_eq s.p]
    have hnew : (Flags.mk (v.getLsbD 9) (v.getLsbD 8) (v.getLsbD 7) (v.getLsbD 6)).toBits = v.extractLsb' 6 4 :=
      Flags.toBits_of_bits v 6
    change (Flags.mk (v.getLsbD 9) (v.getLsbD 8) (v.getLsbD 7) (v.getLsbD 6)).toBits.setWidth 64 <<< 6 = _
    rw [hnew]
    exact shifted_field_eq_writeMasked (mask := 0x3C0#64) (by decide) _ v
  | spSel => exact bitAt_eq_writeMasked (mask := 1#64) (by decide) s.p.sp v
  | pan => exact bitAt_eq_writeMasked (mask := 0x400000#64) (by decide) s.p.pan v
  | uao => exact bitAt_eq_writeMasked (mask := 0x800000#64) (by decide) s.p.uao v
  | currentEL | dczid | isar0 => exact h.elim
  | spsr level | vbar level => cases level <;> rfl
  | sctlr level =>
    have hmask : s.sctlrMask = writable s (.sctlr level) := by unfold State.sctlrMask writable; split <;> rfl
    rw [← hmask]; cases level <;> rfl
  | elr level | esr level | far level => cases level <;> exact (writeMasked_allOnes _ v).symm
  | extra r => exact (extraValue_setExtraValue _ _ _ _).trans (if_pos rfl)
  | _ => exact (writeMasked_allOnes _ v).symm

/-- MSR keeps what every register at another address reads as. -/
theorem State.readSysReg_writeSysReg_other {reg other : SysReg} (h : other.address ≠ reg.address) (v : DWord) :
    (s.writeSysReg reg v).readSysReg other = s.readSysReg other := by
  have hne : other ≠ reg := fun e => h (e ▸ rfl)
  cases reg with
  | currentEL | dczid | isar0 => rfl
  | extra r =>
    cases other with
    | extra q => exact (extraValue_setExtraValue _ _ _ _).trans (if_neg h)
    | _ => rfl
  | spsr level | elr level | esr level | far level | vbar level | sctlr level =>
    cases other with
    | spsr k | elr k | esr k | far k | vbar k | sctlr k =>
      cases level <;> cases k <;> first | contradiction | rfl
    | _ => cases level <;> rfl
  | _ => cases other <;> first | contradiction | rfl

/-- MSR keeps all that no system register holds. -/
theorem State.writeSysReg_frame (s : State) (reg : SysReg) (v : DWord) :
    let t := s.writeSysReg reg v
    t.p.il = s.p.il ∧ t.p.ss = s.p.ss ∧
    t = { s with
      p := t.p, spEL0 := t.spEL0, spEL1 := t.spEL1, spEL2 := t.spEL2, el1 := t.el1, el2 := t.el2, el3 := t.el3
      hcr := t.hcr, scr := t.scr, dlr := t.dlr, dspsr := t.dspsr, disr := t.disr, vdisr := t.vdisr, par := t.par
      tpidr := t.tpidr, extra := t.extra } := by
  cases reg with
  | spsr level | elr level | esr level | far level | vbar level | sctlr level => cases level <;> exact ⟨rfl, rfl, rfl⟩
  | _ => exact ⟨rfl, rfl, rfl⟩

@[simp] theorem registerValue_advance (s : State) (reg : SysReg) : registerValue s.advance reg = registerValue s reg := by
  cases reg with
  | spsr level | elr level | esr level | far level | vbar level | sctlr level => cases level <;> rfl
  | _ => rfl

/-! ## MRS and MSR (register) -/

section

variable {o0 : BitVec 1} {op1 : BitVec 3} {crn crm : BitVec 4} {op2 : BitVec 3} {rt : Reg} {reg : SysReg}

theorem traps_mrs {e : Exc} (h : s.checkSysReg (1#1 ++ o0) op1 crn crm op2 rt true = .error e) :
    Traps (.mrs o0 op1 crn crm op2 rt) s e := by
  change finish s (Except.map _ _) = _
  rw [h]; rfl

theorem traps_msrRegister {e : Exc} (h : s.checkSysReg (1#1 ++ o0) op1 crn crm op2 rt false = .error e) :
    Traps (.msrRegister o0 op1 crn crm op2 rt) s e := by
  change finish s (Except.map _ _) = _
  rw [h]; rfl

theorem exec_mrs_of_ok (h : s.checkSysReg (1#1 ++ o0) op1 crn crm op2 rt true = .ok reg) :
    exec (.mrs o0 op1 crn crm op2 rt) s = .next (s.writeX rt (registerValue s reg)).advance := by
  change finish s (Except.map _ _) = _
  rw [h, ← State.readSysReg_eq_registerValue]; rfl

theorem exec_msrRegister_of_ok (h : s.checkSysReg (1#1 ++ o0) op1 crn crm op2 rt false = .ok reg) :
    exec (.msrRegister o0 op1 crn crm op2 rt) s = .next (s.writeSysReg reg (s.readX rt)).advance := by
  change finish s (Except.map _ _) = _
  rw [h]; rfl

open Classical in
/-- The checks of MRS in the words of the statements. -/
theorem State.checkSysReg_read (h : s.sysRegAt (sysAddress (1#1 ++ o0) op1 crn crm op2) = some reg) :
    s.checkSysReg (1#1 ++ o0) op1 crn crm op2 rt true =
      if (LevelAllows s op1 ∧ Forms.Exists s reg) ∧ MayRead reg then
        if reg = .daif ∧ MasksTrapped s then .error (.systemRegisterTrap .el1 (1#1 ++ o0) op2 op1 crn rt crm 1#1)
        else .ok reg
      else .error .undefined := by
  rw [State.checkSysReg_of_some h]
  exact if_congr
    ((and_congr State.levelAllows_eq_true (and_congr State.sysRegPresent_eq_true SysReg.readable_eq_true)).trans
      and_assoc.symm)
    (if_congr (and_congr_right' State.daifTrapped_eq_true) rfl rfl) rfl

open Classical in
/-- The checks of MSR (register) in the words of the statements. -/
theorem State.checkSysReg_write (h : s.sysRegAt (sysAddress (1#1 ++ o0) op1 crn crm op2) = some reg) :
    s.checkSysReg (1#1 ++ o0) op1 crn crm op2 rt false =
      if (LevelAllows s op1 ∧ Forms.Exists s reg) ∧ MayWrite reg then
        if reg = .daif ∧ MasksTrapped s then .error (.systemRegisterTrap .el1 (1#1 ++ o0) op2 op1 crn rt crm 0#1)
        else .ok reg
      else .error .undefined := by
  rw [State.checkSysReg_of_some h]
  exact if_congr
    ((and_congr State.levelAllows_eq_true (and_congr State.sysRegPresent_eq_true SysReg.writable_eq_true)).trans
      and_assoc.symm)
    (if_congr (and_congr_right' State.daifTrapped_eq_true) rfl rfl) rfl

end

/-- Settles O57: the checks of both moves in the words of the statement, then what a register reads as, and what a write of
it changes and keeps. -/
theorem systemRegisterMoves : Obligations.SystemRegisterMoves := by
  intro s o0 op1 crn crm op2 rt a mrs msr
  refine ⟨fun hmap b reg => ?_, fun hnone => ?_, fun reg hreg => ?_⟩
  · rw [State.sysRegAt_eq_some (hmap ▸ SysReg.address_nodup_defaults), hmap, mem_registerTable]
    rfl
  · have hcheck (read : Bool) : s.checkSysReg (1#1 ++ o0) op1 crn crm op2 rt read = .error .undefined := by
      rw [State.checkSysReg, hnone]
    exact ⟨traps_mrs (hcheck true), traps_msrRegister (hcheck false)⟩
  intro usable trapped
  have hread := State.checkSysReg_read (rt := rt) hreg
  have hwrite := State.checkSysReg_write (rt := rt) hreg
  refine ⟨fun h => ?_, fun h => ?_, fun hu ht => ⟨?_, ?_⟩, fun hu hr ht => ?_, fun hu hw ht => ?_⟩
  · exact traps_mrs (hread.trans (if_neg h))
  · exact traps_msrRegister (hwrite.trans (if_neg h))
  · have hr : MayRead reg := by rw [ht.1]; trivial
    exact traps_mrs (hread.trans ((if_pos ⟨hu, hr⟩).trans (if_pos ht)))
  · have hw : MayWrite reg := by rw [ht.1]; trivial
    exact traps_msrRegister (hwrite.trans ((if_pos ⟨hu, hw⟩).trans (if_pos ht)))
  · exact ⟨_, exec_mrs_of_ok (hread.trans ((if_pos ⟨hu, hr⟩).trans (if_neg ht))), s.becomes_writeX rt _⟩
  · obtain ⟨hil, hss, hrest⟩ := s.writeSysReg_frame reg (s.readX rt)
    have hok := hwrite.trans ((if_pos ⟨hu, hw⟩).trans (if_neg ht))
    refine ⟨_, exec_msrRegister_of_ok hok, ?_, fun other ho => ?_, hil, hss, congrArg State.advance hrest⟩
    · have hsame := State.readSysReg_writeSysReg_same (s := s) hw (s.readX rt)
      rw [State.readSysReg_eq_registerValue, State.readSysReg_eq_registerValue] at hsame
      exact (registerValue_advance _ _).trans hsame
    · have hkept := State.readSysReg_writeSysReg_other (s := s) (State.address_of_sysRegAt hreg ▸ ho) (s.readX rt)
      rw [State.readSysReg_eq_registerValue, State.readSysReg_eq_registerValue] at hkept
      exact (registerValue_advance _ _).trans hkept

/-! ## The zero register -/

/-- A write of register 31 is discarded (10 R42). -/
@[simp] theorem State.writeX_zero {w : Nat} (s : State) (v : BitVec w) : s.writeX 31#5 v = s :=
  dif_neg (by decide)

/-- Settles O12, by the rules of a register read and of a read after a write. -/
theorem zeroRegister : Obligations.ZeroRegister := by
  intro s w v
  refine ⟨s.readXW_zero 64, s.readXW_zero 32, s.writeX_zero v, fun r hr => ⟨?_, fun q hq => ?_⟩⟩
  · rw [State.readX_writeX, if_neg hr, if_pos rfl]
  · rw [State.readX_writeX, if_neg hq]
    split
    · next hzero => rw [hzero, State.readX_zero]
    · rfl

/-! ## The state after reset -/

theorem highestEL_ne_el0 (c : Config) : c.highestEL ≠ .el0 := by
  unfold Config.highestEL; split_ifs <;> decide

theorem haveEL_highestEL (c : Config) : c.haveEL c.highestEL = true := by
  unfold Config.highestEL
  split_ifs with h3 h2
  · exact h3
  · exact h2
  · rfl

/-- The level after reset is EL2 only where there is no EL3. -/
theorem haveEL3_of_highestEL {c : Config} (h : c.highestEL = .el2) : c.haveEL3 = false ∧ c.haveEL2 = true := by
  unfold Config.highestEL at h
  split_ifs at h with h3 h2
  exact ⟨by simpa using h3, h2⟩

/-- Above EL0 every level has its own registers after reset. -/
theorem State.elRegs_resetWith (c : Config) {level : EL} (h : level ≠ .el0) :
    (State.resetWith c).elRegs level = ELRegs.reset c level := by
  cases level with
  | el0 => exact absurd rfl h
  | _ => rfl

/-- Settles O7: the fields of the reset state, and SCTLR of the level that the reset goes to. -/
theorem resetState : Obligations.ResetState := by
  intro c s
  refine ⟨rfl, rfl, rfl, rfl, rfl, rfl, rfl, rfl, rfl, rfl, rfl, rfl, rfl, ?_⟩
  have hregs : s.elRegs s.p.el = ELRegs.reset c c.highestEL := State.elRegs_resetWith c (highestEL_ne_el0 c)
  rw [hregs, ELRegs.reset]
  cases c.resetEE <;> cases c.bigEndianSupported <;> simp

/-- The RES0 bits of a level's registers after reset (log 3). -/
theorem ELRegs.reset_legal (c : Config) (level : EL) : (ELRegs.reset c level).Legal c where
  vbar := rfl
  sctlr h := by rw [ELRegs.reset, if_neg fun hset => by simp [h] at hset]; rfl

theorem State.resetWith_legal (c : Config) : (State.resetWith c).Legal where
  memory := Memory.wf_nil
  level := haveEL_highestEL c
  el2 h := by
    obtain ⟨h3, h2⟩ := haveEL3_of_highestEL h
    simp [State.el2Acts, State.resetWith, State.isSecure, h3, h2]
  sp h := absurd h (highestEL_ne_el0 c)
  ss := rfl
  pan _ := rfl
  uao _ := rfl
  el1Regs := ELRegs.reset_legal c .el1
  el2Regs := ELRegs.reset_legal c .el2
  el3Regs := ELRegs.reset_legal c .el3

/-- Settles O8: the reset state of every configuration is legal, that of the default one too. -/
theorem resetIsLegal : Obligations.ResetIsLegal := ⟨State.resetWith_legal _, State.resetWith_legal⟩

end Sys2Proof.Machine
end

section
/-! Memory: where each byte of a value lies, and the bytes that loads and stores read and write (20 R92, R93). -/

namespace Sys2Proof.Machine

/-! ## The bytes of a value -/

theorem getLsbD_byteOf {w : Nat} (v : BitVec w) (i j : Nat) (hj : j < 8) :
    (byteOf v i).getLsbD j = v.getLsbD (8 * i + j) := by
  simp [byteOf, hj]

theorem byteOf_append_zero {w : Nat} (v : BitVec w) (b : Byte) : byteOf (v ++ b) 0 = b := by
  apply BitVec.eq_of_getLsbD_eq
  intro j hj
  rw [getLsbD_byteOf _ _ _ hj, BitVec.getLsbD_append, if_pos (by omega)]
  simp

theorem byteOf_append_succ {w : Nat} (v : BitVec w) (b : Byte) (i : Nat) : byteOf (v ++ b) (i + 1) = byteOf v i := by
  apply BitVec.eq_of_getLsbD_eq
  intro j hj
  rw [getLsbD_byteOf _ _ _ hj, getLsbD_byteOf _ _ _ hj, BitVec.getLsbD_append, if_neg (by omega)]
  congr 1
  omega

/-- A value of whole bytes is known by its bytes. -/
theorem eq_of_byteOf_eq {n : Nat} {v w : BitVec (8 * n)} (h : ∀ i, i < n → byteOf v i = byteOf w i) : v = w := by
  apply BitVec.eq_of_getLsbD_eq
  intro k hk
  have hbyte := congrArg (·.getLsbD (k % 8)) (h (k / 8) (by omega))
  simpa only [getLsbD_byteOf _ _ _ (Nat.mod_lt k (by omega : 8 > 0)), Nat.div_add_mod] using hbyte

/-! ## Where a byte lies -/

/-- The address of byte `i` of a value of `n` bytes at `a` (20 R92). -/
def byteAddress (big : Bool) (a : Addr) (n i : Nat) : Addr := a + BitVec.ofNat 64 (if big then n - 1 - i else i)

theorem byteAddress_sub_toNat {big : Bool} {a : Addr} {n i : Nat} (hn : n ≤ 2 ^ 64) (hi : i < n) :
    (byteAddress big a n i - a).toNat = if big then n - 1 - i else i := by
  rw [byteAddress, BitVec.add_comm, BitVec.add_sub_cancel, BitVec.toNat_ofNat]
  apply Nat.mod_eq_of_lt
  split <;> omega

/-- Every address less than `n` above `a` is that of a byte. -/
theorem byteAddress_of_lt (big : Bool) {a b : Addr} {n : Nat} (h : (b - a).toNat < n) :
    byteAddress big a n (if big then n - 1 - (b - a).toNat else (b - a).toNat) = b := by
  have hoffset : (if big then n - 1 - (if big then n - 1 - (b - a).toNat else (b - a).toNat)
      else if big then n - 1 - (b - a).toNat else (b - a).toNat) = (b - a).toNat := by
    cases big
    · rfl
    · simp only [if_true]; omega
  rw [byteAddress, hoffset, BitVec.ofNat_toNat, BitVec.setWidth_eq, BitVec.add_comm, BitVec.sub_add_cancel]

/-! ## Loads and stores -/

variable {m : Memory}

theorem Memory.byteOf_readLE (m : Memory) (a : Addr) {n i : Nat} (hi : i < n) :
    byteOf (m.readLE a n) i = m.byte (a + BitVec.ofNat 64 i) := by
  induction n generalizing a i with
  | zero => omega
  | succ n ih =>
    rw [Memory.readLE]
    cases i with
    | zero => simpa using byteOf_append_zero (m.readLE (a + 1#64) n) (m.byte a)
    | succ i =>
      have hnext : a + 1#64 + BitVec.ofNat 64 i = a + BitVec.ofNat 64 (i + 1) := by
        rw [BitVec.add_assoc, Nat.add_comm i 1, BitVec.ofNat_add]
      rw [← hnext, ← ih (a + 1#64) (by omega : i < n)]
      exact byteOf_append_succ _ _ _

theorem Memory.byteOf_readBE (m : Memory) (a : Addr) {n i : Nat} (hi : i < n) :
    byteOf (m.readBE a n) i = m.byte (a + BitVec.ofNat 64 (n - 1 - i)) := by
  induction n generalizing i with
  | zero => omega
  | succ n ih =>
    rw [Memory.readBE]
    cases i with
    | zero => exact byteOf_append_zero _ _
    | succ i =>
      rw [show n + 1 - 1 - (i + 1) = n - 1 - i by omega, ← ih (by omega : i < n)]
      exact byteOf_append_succ _ _ _

/-- What a load reads, byte by byte (20 R92). -/
theorem Memory.byteOf_load (m : Memory) (big : Bool) (a : Addr) {n i : Nat} (hi : i < n) :
    byteOf (m.load big a n) i = m.byte (byteAddress big a n i) := by
  cases big with
  | false => exact m.byteOf_readLE a hi
  | true => exact m.byteOf_readBE a hi

/-- What a store writes, byte by byte (20 R93). -/
theorem Memory.byte_store_byteAddress {w : Nat} (hm : m.wf) (big : Bool) (a : Addr) (v : BitVec w) {n i : Nat}
    (hn : n ≤ 2 ^ 64) (hi : i < n) : (m.store big a v n).byte (byteAddress big a n i) = byteOf v i := by
  rw [Memory.byte_store hm big a v n hn, byteAddress_sub_toNat hn hi]
  cases big with
  | false => simp [hi]
  | true => simp [show n - 1 - i < n by omega, show n - 1 - (n - 1 - i) = i by omega]

/-- What a store leaves alone (20 R93). -/
theorem Memory.byte_store_of_ne {w : Nat} (hm : m.wf) (big : Bool) (a : Addr) (v : BitVec w) {n : Nat} (hn : n ≤ 2 ^ 64)
    {b : Addr} (hb : ∀ i, i < n → b ≠ byteAddress big a n i) : (m.store big a v n).byte b = m.byte b := by
  rw [Memory.byte_store hm big a v n hn, if_neg]
  intro hlt
  refine hb _ ?_ (byteAddress_of_lt big hlt).symm
  split <;> omega

/-- A load of what a store of whole bytes wrote, in the same byte order (20 R98). -/
theorem Memory.load_store {n : Nat} (hm : m.wf) (big : Bool) (a : Addr) (v : BitVec (8 * n)) (hn : n ≤ 2 ^ 64) :
    (m.store big a v n).load big a n = v :=
  eq_of_byteOf_eq fun i hi => by
    rw [Memory.byteOf_load _ big a hi, Memory.byte_store_byteAddress hm big a v hn hi]

/-! ## Accesses that are refused -/

theorem State.memRead_error {s : State} {a : Addr} {n : Nat} {acc : AccType} (h : ¬s.Allowed a n acc .read) :
    ∃ e, s.memRead a n acc = .error e := by
  obtain ⟨b, fault, wnr, he⟩ := State.checkAccess_eq_error (rmw := false) h
  exact ⟨_, by rw [State.memRead, he]⟩

theorem State.memWrite_error {w : Nat} {s : State} {a : Addr} {n : Nat} {v : BitVec w} {acc : AccType}
    (h : ¬s.Allowed a n acc .write) : ∃ e, s.memWrite a n v acc = .error e := by
  obtain ⟨b, fault, wnr, he⟩ := State.checkAccess_eq_error (rmw := false) h
  exact ⟨_, by rw [State.memWrite, he]⟩

/-! ## The obligations -/

/-- Settles O46: the byte order of the rules is the machine's, and an access passes its checks exactly if it is allowed. -/
theorem memoryBytes : Obligations.MemoryBytes := by
  intro s a n v acc hm hn place
  have hplace : place = byteAddress s.bigEndian a n := by
    funext i
    simp only [place, byteAddress, ← State.bigEndian_eq_true]
    split <;> rfl
  rw [hplace]
  have hn64 : n ≤ 2 ^ 64 := by omega
  exact ⟨fun h => ⟨_, State.memRead_ok h, fun _ hi => Memory.byteOf_load _ _ a hi⟩, State.memRead_error,
    fun h => ⟨_, State.memWrite_ok h, fun _ hi => Memory.byte_store_byteAddress hm _ a v hn64 hi,
      fun _ hb => Memory.byte_store_of_ne hm _ a v hn64 hb⟩, State.memWrite_error⟩

/-- Settles O47: the load reads in the byte order of the store. -/
theorem loadAfterStore : Obligations.LoadAfterStore := fun s a _ v hm hn => by
  rw [State.loadBytes, State.bigEndian_storeBytes, State.storeBytes_mem]
  exact Memory.load_store hm s.bigEndian a v (by omega)

end Sys2Proof.Machine
end

section
/-! What a fetch gives, and when it gives a WFI (20 R97; 30 R140, R145; 60 R803(2) to (5)). -/

namespace Sys2Proof.Machine

open Sys2Proof.Forms

variable {s : State}

/-! ## The word of WFI -/

/-- All words of a row build the same form of instruction; only its operands differ. -/
theorem ctorIdx_build {r : Row} (hr : r ∈ decodeTable) (w : Word) : (r.build w).ctorIdx = (r.build 0#32).ctorIdx :=
  List.map_inj_left.mp
    (show decodeTable.map (fun q => (q.build w).ctorIdx) = decodeTable.map fun q => (q.build 0#32).ctorIdx from rfl) r hr

/-- The row of WFI fixes every bit (49 R715). -/
theorem row_of_ctorIdx_wfi : ∀ r ∈ decodeTable, (r.build 0#32).ctorIdx = Instr.wfi.ctorIdx →
    r.mask = BitVec.allOnes 32 ∧ r.mat = 0xD503207F#32 := by
  decide +kernel

theorem decode_eq_wfi {w : Word} : decode w = .ok .wfi ↔ w = 0xD503207F#32 := by
  constructor
  · intro h
    obtain ⟨r, hrow, hbuild, -⟩ := (Laws.decode_eq_ok w .wfi).mp h
    rcases Laws.rowOf_cases w r hrow with ⟨hr, hhits⟩ | ⟨rfl, -⟩
    · obtain ⟨hmask, hmat⟩ := row_of_ctorIdx_wfi r hr (by rw [← ctorIdx_build hr w, hbuild])
      rwa [Row.hits, hmask, hmat, BitVec.and_allOnes, decide_eq_true_eq] at hhits
    · cases hbuild
  · rintro rfl
    decide

/-! ## The fetch -/

/-- The checks before decode, as the machine makes them and in the words of 60 R803(2) to (4). -/
theorem State.checkFetch_eq_ok : s.checkFetch = .ok () ↔ FetchesWord s := by
  have haligned : s.pc.extractLsb' 0 2 = 0#2 ↔ s.pc.toNat % 4 = 0 := by simp [← BitVec.toNat_inj]
  have hmapped : (firstByte (fun b => !s.mapped b) s.pc 4).isSome = false ↔
      ∀ k, k < 4 → s.mapped (s.pc + BitVec.ofNat 64 k) = true := by simp [firstByte_eq_none]
  have hexecutable : (firstByte (fun b => !s.platformAllows s.p.el .execute b) s.pc 4).isSome = false ↔
      ∀ k, k < 4 → s.platformAllows s.p.el .execute (s.pc + BitVec.ofNat 64 k) = true := by simp [firstByte_eq_none]
  simp only [FetchesWord, forall_and, ← haligned, ← hmapped, ← hexecutable, State.checkFetch]
  split_ifs <;> simp_all

/-- A fetch gives what the word at the pc decodes to. -/
theorem State.fetch_eq_ok {i : Instr} : s.fetch = .ok i ↔ FetchesWord s ∧ decode (wordAt s) = .ok i := by
  have hword : decodeBytes s.fetchBytes = decode (wordAt s) := rfl
  rw [← State.checkFetch_eq_ok, State.fetch, hword]
  cases s.checkFetch with
  | error e => simp
  | ok u => cases decode (wordAt s) <;> simp

/-- A WFI that completes before a due interrupt, in the words of the statements (49 R715; log 37). -/
theorem State.waitCompletesFirst_eq_true :
    s.waitCompletesFirst = true ↔ FetchesWord s ∧ wordAt s = 0xD503207F#32 ∧ s.interruptFirst = false := by
  rw [State.waitCompletesFirst_iff, State.fetch_eq_ok, decode_eq_wfi]
  tauto

end Sys2Proof.Machine
end

section
/-! The registers and PSTATE after an exception entry (60 R830, R833). -/

namespace Sys2Proof.Machine

/-! ## The image of PSTATE -/

/-- The fields of PSTATE and their places in a saved program status register; the other bits are 0 (10 R65). -/
def PState.imageBit (p : PState) : Nat → Bool
  | 31 => p.n
  | 30 => p.z
  | 29 => p.c
  | 28 => p.v
  | 23 => p.uao
  | 22 => p.pan
  | 21 => p.ss
  | 20 => p.il
  | 9 => p.d
  | 8 => p.a
  | 7 => p.i
  | 6 => p.f
  | 3 => p.el.bits.getLsbD 1
  | 2 => p.el.bits.getLsbD 0
  | 0 => p.sp
  | _ => false

theorem PState.getLsbD_image (p : PState) {i : Nat} (hi : i < 64) : p.image.getLsbD i = p.imageBit i := by
  rw [PState.image]
  simp only [PState.flags, Flags.toBits, BitVec.getLsbD_append]
  interval_cases i <;> simp [PState.imageBit]

/-- Four adjacent bits of the image. -/
theorem PState.extractLsb'_image (p : PState) {lo : Nat} (hlo : lo + 3 < 64) :
    p.image.extractLsb' lo 4 = BitVec.ofBool (p.imageBit (lo + 3)) ++ BitVec.ofBool (p.imageBit (lo + 2)) ++
      BitVec.ofBool (p.imageBit (lo + 1)) ++ BitVec.ofBool (p.imageBit lo) := by
  rw [← Flags.toBits_of_bits, p.getLsbD_image hlo, p.getLsbD_image (by omega), p.getLsbD_image (by omega),
    p.getLsbD_image (by omega)]
  rfl

theorem PState.extractLsb'_image_mode (p : PState) :
    p.image.extractLsb' 0 5 = 0#1 ++ p.el.bits ++ 0#1 ++ BitVec.ofBool p.sp := by
  apply BitVec.eq_of_getLsbD_eq
  intro i hi
  rw [BitVec.getLsbD_extractLsb', p.getLsbD_image (by omega)]
  simp only [BitVec.getLsbD_append]
  interval_cases i <;> simp [PState.imageBit]

theorem PState.image_reserved (p : PState) : p.image &&& ~~~0xF0F003DF#64 = 0#64 := by
  apply BitVec.eq_of_getLsbD_eq
  intro i hi
  rw [BitVec.getLsbD_and, p.getLsbD_image hi]
  interval_cases i <;> simp [PState.imageBit]

/-! ## The entry -/

theorem vectorOffset_eq (vect : BitVec 11) (target source : EL) (sp : Bool) :
    vectorOffset vect target source sp =
      vect + if source.toNat < target.toNat then 0x400#11 else if sp then 0x200#11 else 0#11 := by
  unfold vectorOffset
  split_ifs <;> simp

theorem State.elRegs_takeException (s : State) (target : EL) (esr : Option DWord) (far : FarEffect) (ret : Addr)
    (vect : BitVec 11) : (s.takeException target esr far ret vect).elRegs target = s.entryRegs target esr far ret := by
  cases target <;> rfl

/-- Taking an exception is what 60 R830 says. -/
theorem State.enters_takeException (s : State) (target : EL) (esr : Option DWord) (far : FarEffect) (ret : Addr)
    (vect : BitVec 11) : s.Enters target esr far ret vect (s.takeException target esr far ret vect) where
  flags := by rw [State.elRegs_takeException]; exact s.p.extractLsb'_image (by decide)
  extensions := by rw [State.elRegs_takeException]; exact s.p.extractLsb'_image (by decide)
  masks := by rw [State.elRegs_takeException]; exact s.p.extractLsb'_image (by decide)
  mode := by rw [State.elRegs_takeException]; exact s.p.extractLsb'_image_mode
  reserved := by rw [State.elRegs_takeException]; exact s.p.image_reserved
  elr := by rw [State.elRegs_takeException]; rfl
  esr := by rw [State.elRegs_takeException]; rfl
  far := by rw [State.elRegs_takeException]; cases far <;> trivial
  pstate := by
    change s.entryPState target = _
    simp [State.entryPState, Bool.and_assoc, Bool.or_comm s.p.pan, Bool.and_comm s.p.uao]
  pc := by rw [← vectorOffset_eq]; rfl
  monitor := rfl
  control := by rw [State.elRegs_takeException]; exact ⟨rfl, rfl⟩
  interruptFirst := rfl
  rest := by rw [State.elRegs_takeException]; rfl

end Sys2Proof.Machine
end

section
/-! What comes before the instruction of a step: the environment's actions, and an interrupt that is due (60 R803(1), R820
to R822, R850). -/

namespace Sys2Proof.Machine

open Sys2Proof.Forms

variable {s : State}

/-! ## Interrupts -/

/-- The level that takes an interrupt, as the machine computes it and in the words of 60 R821. -/
theorem State.interruptTarget_eq_interruptLevel (s : State) (k : Interrupt) :
    s.interruptTarget k = interruptLevel s k.routingBits.1 k.routingBits.2 := by
  simp only [State.interruptTarget, interruptLevel, State.el2Acts, Bool.and_eq_true, Bool.or_eq_true, decide_eq_true_eq,
    Bool.not_eq_true', and_assoc, or_assoc]

/-- When an interrupt is taken, as the machine computes it and in the words of 60 R821. -/
theorem State.interruptTaken_eq_true {k : Interrupt} :
    s.interruptTaken k = true ↔ Due s (s.pending k) (s.masked k) (interruptLevel s k.routingBits.1 k.routingBits.2) := by
  simp only [State.interruptTaken, Due, ← State.interruptTarget_eq_interruptLevel, Bool.and_eq_true, Bool.or_eq_true,
    decide_eq_true_eq, Bool.not_eq_true', and_assoc]

theorem State.interruptTaken_serror : s.interruptTaken .serror = true ↔ SErrorDue s := State.interruptTaken_eq_true

theorem State.interruptTaken_fiq :
    s.interruptTaken .fiq = true ↔ Due s s.fiqPending s.p.f (interruptLevel s 2 3) := State.interruptTaken_eq_true

theorem State.interruptTaken_irq :
    s.interruptTaken .irq = true ↔ Due s s.irqPending s.p.i (interruptLevel s 1 4) := State.interruptTaken_eq_true

/-- The order of the interrupts (60 R803(1)). -/
theorem State.nextInterrupt_eq (s : State) :
    s.nextInterrupt = if s.interruptTaken .serror then some .serror else if s.interruptTaken .fiq then some .fiq
      else if s.interruptTaken .irq then some .irq else none := by
  simp only [State.nextInterrupt, List.find?_cons, List.find?_nil]
  cases s.interruptTaken .serror <;> cases s.interruptTaken .fiq <;> cases s.interruptTaken .irq <;> rfl

/-- Taking an interrupt is what 60 R830 says, with ESR written for SError only (60 R802, R822). -/
theorem State.enters_takeInterrupt (s : State) (k : Interrupt) (ret : Addr) :
    s.Enters (interruptLevel s k.routingBits.1 k.routingBits.2)
      (if k = .serror then some (syndrome 0x2F#6 s.serrorIss) else none) .keep ret k.vector (s.takeInterrupt k ret) :=
  s.interruptTarget_eq_interruptLevel k ▸ s.enters_takeException _ _ _ _ _

/-- The syndrome of an SError: class 0x2F and IL (60 R802). -/
theorem syndrome_serror (iss : BitVec 25) : syndrome 0x2F#6 iss = 0xBE000000#64 ||| iss.setWidth 64 := by
  apply BitVec.eq_of_toNat_eq
  have hiss : iss.toNat % 2 ^ 64 = iss.toNat := Nat.mod_eq_of_lt (by omega)
  simp only [syndrome, BitVec.toNat_append, BitVec.toNat_or, BitVec.toNat_setWidth, hiss]
  rfl

/-! ## A step without actions of the environment -/

theorem State.environment_of_nil (h : s.env = []) : s.environment = s := by
  simp [State.environment, h]

theorem step_of_due (hrun : s.halted = false) (henv : s.env = []) {k : Interrupt} (hk : s.nextInterrupt = some k) :
    step s = .next (s.interrupted k) := by
  simp [step, hrun, State.environment_of_nil henv, hk]

theorem step_of_not_due (hrun : s.halted = false) (henv : s.env = []) (hk : s.nextInterrupt = none) :
    step s = s.startStep.runInstruction := by
  simp [step, hrun, State.environment_of_nil henv, hk]

/-- An interrupt that is due and that no WFI at the pc precedes is taken. -/
theorem step_takes_interrupt (hrun : s.halted = false) (henv : s.env = []) {k : Interrupt}
    (hk : s.nextInterrupt = some k) (hwait : ¬s.waitCompletesFirst = true) :
    ∃ t, step s = .next t ∧ s.Enters (interruptLevel s k.routingBits.1 k.routingBits.2)
      (if k = .serror then some (syndrome 0x2F#6 s.serrorIss) else none) .keep s.pc k.vector t :=
  ⟨s.takeInterrupt k s.pc, by rw [step_of_due hrun henv hk, State.interrupted, if_neg hwait], s.enters_takeInterrupt k s.pc⟩

/-! ## The environment -/

/-- No action of the environment looks at the actions to come. -/
theorem State.act_withEnv (s : State) (env : List (List EnvAction)) (a : EnvAction) :
    { s with env := env }.act a = { s.act a with env := env } := by
  cases a <;> rfl

/-- The first action of a step, then the others (log 10). -/
theorem State.environment_of_cons {action : EnvAction} {actions : List EnvAction} {rest : List (List EnvAction)}
    (h : s.env = (action :: actions) :: rest) :
    s.environment = (State.act { s with env := actions :: rest } action).environment := by
  simp only [State.environment, h, State.act_withEnv, List.foldl_cons]

/-- The monitor is Exclusive for a granule, as the machine computes it and in the words of 20 R126. -/
theorem State.monitorPasses_eq_true {a : Addr} : s.monitorPasses a = true ↔ MonitorHolds s a := by
  unfold State.monitorPasses MonitorHolds
  cases s.monitor <;> simp [State.sameGranule]

theorem State.monitorPasses_eq_decide (s : State) (a : Addr) : s.monitorPasses a = decide (MonitorHolds s a) :=
  Bool.eq_iff_iff.mpr (State.monitorPasses_eq_true.trans decide_eq_true_iff.symm)

/-- A store by another observer (20 R127; 60 R846(e), R850). -/
theorem State.act_store (hm : s.mem.wf) (a : Addr) (b : Byte) : ∃ m, s.act (.store a b) = { s with
      mem := m, monitor := if MonitorHolds s a then none else s.monitor
      event := s.event || decide (MonitorHolds s a) } ∧ m.wf ∧ ∀ c, m.byte c = if c = a then b else s.mem.byte c := by
  refine ⟨s.mem.setByte a b, ?_, Memory.wf_setByte hm a b, fun c => Memory.byte_setByte hm a c b⟩
  simp only [State.act, State.foreignStore, State.monitorPasses_eq_decide, decide_eq_true_eq]

/-! ## The obligation -/

/-- Settles O54: the first interrupt in the order of the rules that is due has its turn, which a WFI at the pc may precede. -/
theorem interruptsAndEnvironment : Obligations.InterruptsAndEnvironment := by
  intro s
  refine ⟨State.environment_of_nil, fun rest h => by simp [State.environment, h], fun _ _ _ => State.environment_of_cons,
    fun a b hm => State.act_store hm a b, rfl, ?_, rfl, fun _ _ => rfl, fun _ => ⟨rfl, rfl, fun _ => ⟨rfl, rfl⟩⟩, ?_⟩
  · cases hmon : s.monitor <;> simp [State.act, hmon]
  intro hrun henv fiqLevel irqLevel fiq irq waits
  have hwaits : s.waitCompletesFirst = true ↔ waits := State.waitCompletesFirst_eq_true
  have hnext : s.nextInterrupt = if SErrorDue s then some .serror else if fiq then some .fiq
      else if irq then some .irq else none := by
    simp only [State.nextInterrupt_eq, State.interruptTaken_serror, State.interruptTaken_fiq, State.interruptTaken_irq,
      fiq, irq, fiqLevel, irqLevel]
  refine ⟨fun hdue hw => ?_, fun hserror hw => ?_, fun hserror hfiq hw => ?_, fun hserror hfiq hirq hw => ?_,
    fun hserror hfiq hirq => ?_⟩
  · obtain ⟨k, hk⟩ : ∃ k, s.nextInterrupt = some k := by rw [hnext]; split_ifs <;> simp_all
    rw [step_of_due hrun henv hk, State.interrupted, if_pos (hwaits.mpr hw)]
    rfl
  · rw [← syndrome_serror]
    exact step_takes_interrupt hrun henv (k := .serror) (by rw [hnext, if_pos hserror]) (hwaits.not.mpr hw)
  · exact step_takes_interrupt hrun henv (k := .fiq) (by rw [hnext, if_neg hserror, if_pos hfiq]) (hwaits.not.mpr hw)
  · exact step_takes_interrupt hrun henv (k := .irq) (by rw [hnext, if_neg hserror, if_neg hfiq, if_pos hirq])
      (hwaits.not.mpr hw)
  · exact step_of_not_due hrun henv (by rw [hnext, if_neg hserror, if_neg hfiq, if_neg hirq])

end Sys2Proof.Machine
end

section
/-! Encoding and decoding (30 R144, R145, R149): a field of a word read and put back, the row of the word that an
instruction encodes to, and what the decoder reads from it. -/

namespace Sys2Proof.Encoding

open Sys2Proof.Forms

/-! ## One field of a word -/

/-- The bits of a field of `n` bits from bit `lo`. -/
def fieldMask (lo n : Nat) : Word := put lo (BitVec.allOnes n)

section Field

variable (w : Word) {lo n : Nat} (f : BitVec n)

theorem getElem_put {i : Nat} (hi : i < 32) : (put lo f)[i] = (!decide (i < lo) && f.getLsbD (i - lo)) := by
  simp [put]

theorem getElem_fieldMask {i : Nat} (hi : i < 32) :
    (fieldMask lo n)[i] = (!decide (i < lo) && decide (i - lo < n)) := by
  simp [fieldMask, getElem_put]

/-- A field read from a word and put back is the word on the bits of the field. -/
theorem put_extractLsb' : put lo (w.extractLsb' lo n) = w &&& fieldMask lo n := by
  ext i hi
  simp only [getElem_put, getElem_fieldMask, BitVec.getLsbD_extractLsb', BitVec.getElem_and]
  grind

/-- A field that was put into a word reads back, over what the word had there. -/
theorem extractLsb'_or_put (h : lo + n ≤ 32) : (w ||| put lo f).extractLsb' lo n = w.extractLsb' lo n ||| f := by
  ext i hi
  simp [put]
  grind

/-- A field put elsewhere is not read. -/
theorem extractLsb'_or_put_of_disjoint {lo' n' : Nat} (h : lo' + n' ≤ lo ∨ lo + n ≤ lo') :
    (w ||| put lo f).extractLsb' lo' n' = w.extractLsb' lo' n' := by
  ext i hi
  simp [put]
  grind

/-- A mask that leaves out the bits of a field does not see the field. -/
theorem or_put_and {mask : Word} (h : fieldMask lo n &&& mask = 0#32) : (w ||| put lo f) &&& mask = w &&& mask := by
  ext i hi
  have hbit := congrArg (·.getLsbD i) h
  simp [getElem_put, getElem_fieldMask, hi] at hbit ⊢
  grind

end Field

/-! ## The row of an encoding -/

/-- `w` is the opcode `c` with fields put into it, whose bits are those of `m`. -/
inductive Puts (c : Word) : (m w : Word) → Prop
  | opcode : Puts c 0#32 c
  | field {m w : Word} (lo : Nat) {n : Nat} (f : BitVec n) (h : Puts c m w) :
    Puts c (m ||| fieldMask lo n) (w ||| put lo f)

/-- A mask that leaves out the fields sees the opcode only. -/
theorem Puts.and_eq {c m w mask : Word} (h : Puts c m w) (hm : m &&& mask = 0#32) : w &&& mask = c &&& mask := by
  induction h with
  | opcode => rfl
  | field lo f _ ih =>
    rw [BitVec.and_or_distrib_right, BitVec.or_eq_zero_iff] at hm
    rw [or_put_and _ f hm.2, ih hm.1]

/-- The table in its groups. -/
def rowGroups : List (List Row) :=
  [arithRows, logicalRows, shiftRows, condRows, mulDivRows, branchRows, loadStoreRows1, loadStoreRows2, pairRows,
    exclusiveRows, atomicRows, systemRows]

theorem mem_decodeTable_of_mem_rowGroups {rows : List Row} {r : Row} (hrows : rows ∈ rowGroups) (hr : r ∈ rows) :
    r ∈ decodeTable := by
  have hflatten : rowGroups.flatten = decodeTable := by
    simp [rowGroups, decodeTable, loadStoreRows]
  exact hflatten ▸ List.mem_flatten.mpr ⟨rows, hrows, hr⟩

/-- The row of an opcode, by a search that evaluates to the row itself: group by group, and on natural numbers. -/
def opcodeRow (c : Word) : Option Row :=
  rowGroups.findSome? fun rows => rows.find? fun r => (c &&& r.mask).toNat.beq r.mat.toNat

theorem mem_and_hits_of_opcodeRow {c : Word} {r : Row} (h : opcodeRow c = some r) :
    r ∈ decodeTable ∧ c &&& r.mask = r.mat := by
  obtain ⟨rows, hrows, hfind⟩ := List.exists_of_findSome?_eq_some h
  have hbeq : (c &&& r.mask).toNat.beq r.mat.toNat = true := by simpa using List.find?_some hfind
  exact ⟨mem_decodeTable_of_mem_rowGroups hrows (List.mem_of_find?_eq_some hfind),
    BitVec.eq_of_toNat_eq (Nat.eq_of_beq_eq_true hbeq)⟩

/-- The row of an opcode is the row of every word that differs in fields only. -/
theorem Puts.rowOf_eq {c m w : Word} {r : Row} (h : Puts c m w) (hrow : opcodeRow c = some r)
    (hm : m &&& r.mask = 0#32) : rowOf w = some r := by
  obtain ⟨hmem, hhits⟩ := mem_and_hits_of_opcodeRow hrow
  exact Laws.rowOf_of_hits r w hmem (decide_eq_true ((h.and_eq hm).trans hhits))

/-! ## What the decoder reads from an encoding -/

/-- The word of the instruction has a row, and the row builds the instruction from it. -/
def ReadsBack (i : Instr) : Prop := ∃ r, rowOf (encode i) = some r ∧ r.build (encode i) = i

/-- A hint without a name matches no row but that of the general hint (30 R152). -/
theorem not_hits_encode_hint : ∀ (crm : BitVec 4) (op2 : BitVec 3), WellFormed.validHint crm op2 = true →
    ∀ r ∈ decodeTable, r.hits (encode (.hint crm op2)) = false := by
  decide +kernel

theorem readsBack_hint {crm : BitVec 4} {op2 : BitVec 3} (h : (Instr.hint crm op2).wellFormed = true) :
    ReadsBack (.hint crm op2) := by
  have hnone : decodeTable.find? (fun r => r.hits (encode (.hint crm op2))) = none :=
    List.find?_eq_none.mpr fun r hr => Bool.not_eq_true _ ▸ not_hits_encode_hint crm op2 h r hr
  have hputs : Puts 0xD503201F#32 (0#32 ||| fieldMask 8 4 ||| fieldMask 5 3) (encode (.hint crm op2)) :=
    .field 5 op2 (.field 8 crm .opcode)
  have hhits : hintRow.hits (encode (.hint crm op2)) = true := decide_eq_true (hputs.and_eq (by decide))
  refine ⟨hintRow, by rw [rowOf, hnone, hhits]; rfl, ?_⟩
  dsimp only [encode, hintRow]
  simp (disch := decide) only [extractLsb'_or_put, extractLsb'_or_put_of_disjoint, BitVec.reduceExtractLsb',
    BitVec.zero_or]

/-- The decoder reads a well-formed base instruction back: its opcode has a row, whose mask leaves out the fields, and
each field reads back from its place. -/
theorem readsBack_of_core {i : Instr} (hcore : i.core = i) (hwf : i.wellFormed = true) : ReadsBack i := by
  cases i
  case hint => exact readsBack_hint hwf
  all_goals try cases hcore
  all_goals
    dsimp only [ReadsBack, encode]
    refine ⟨_, Puts.rowOf_eq (by repeat' apply Puts.field
                                 exact .opcode) rfl (by decide), ?_⟩
    simp (disch := decide) only [extractLsb'_or_put, extractLsb'_or_put_of_disjoint, BitVec.reduceExtractLsb',
      BitVec.zero_or]

theorem decode_encode_of_core {i : Instr} (hcore : i.core = i) (hwf : i.wellFormed = true) :
    decode (encode i) = .ok i := by
  obtain ⟨r, hrow, hbuild⟩ := readsBack_of_core hcore hwf
  exact (Laws.decode_eq_ok _ i).mpr ⟨r, hrow, hbuild, hwf⟩

/-! ## Base instructions -/

open Laws.Encodes in
/-- An instruction and its base instruction have one word (30 R145, R196): the laws of the constructors together. -/
theorem encodes (i : Instr) : Statement i := by
  cases i
  all_goals try exact of_core _ rfl
  exacts [asrRegister .., asrImmediate .., sysAt .., bfc .., bfi .., bfxil .., cinc .., cinv .., cmnExtendedRegister ..,
    cmnImmediate .., cmnShiftedRegister .., cmpExtendedRegister .., cmpImmediate .., cmpShiftedRegister .., cneg ..,
    cset .., csetm .., sysDc .., sysIc .., lslRegister .., lslImmediate .., lsrRegister .., lsrImmediate .., mneg ..,
    movToFromSP .., movInvertedWideImmediate .., movWideImmediate .., movBitmaskImmediate .., movRegister .., mul ..,
    mvn .., negShiftedRegister .., negs .., ngc .., ngcs .., rev64 .., rorImmediate .., rorRegister .., sbfiz ..,
    sbfx .., smnegl .., smull .., staddb .., staddh .., stadd .., stclrb .., stclrh .., stclr .., steorb ..,
    steorh .., steor .., stsetb .., stseth .., stset .., stsmaxb .., stsmaxh .., stsmax .., stsminb .., stsminh ..,
    stsmin .., stumaxb .., stumaxh .., stumax .., stuminb .., stuminh .., stumin .., sxtb .., sxth .., sxtw ..,
    sysTlbi .., tstImmediate .., tstShiftedRegister .., ubfiz .., ubfx .., umnegl .., umull .., uxtb .., uxth ..]

/-- Settles O2: the word is that of the base instruction, which the decoder reads back. -/
theorem decodeOfEncodeIsBase : Obligations.DecodeOfEncodeIsBase := by
  intro i hwf
  obtain ⟨hcore, hword, hwfCore⟩ := encodes i
  rw [← hword]
  exact decode_encode_of_core hcore (hwfCore hwf)

/-! ## The word of what the decoder reads -/

/-- `e` is the opcode `c` with fields of `w` put into their own places, whose bits are those of `m`. -/
inductive Copies (w c : Word) : (m e : Word) → Prop
  | opcode : Copies w c 0#32 c
  | field {m e : Word} (lo n : Nat) (h : Copies w c m e) :
    Copies w c (m ||| fieldMask lo n) (e ||| put lo (w.extractLsb' lo n))

theorem Copies.eq_or_and {w c m e : Word} (h : Copies w c m e) : e = c ||| w &&& m := by
  induction h with
  | opcode => simp
  | field lo n _ ih => rw [ih, put_extractLsb', BitVec.and_or_distrib_left, BitVec.or_assoc]

theorem and_or_of_or_eq_allOnes {w m ones : Word} (h : m ||| ones = BitVec.allOnes 32) :
    w &&& m ||| ones = w ||| ones := by
  ext i hi
  have hbit : (m ||| ones)[i] = (BitVec.allOnes 32)[i] := congrArg (·[i]) h
  rw [BitVec.getElem_or, BitVec.getElem_allOnes, Bool.or_eq_true] at hbit
  rcases hbit with hbit | hbit <;> simp [hbit]

/-- The pattern of the row, the fields and the bits that the encoder sets cover the word, so that the copy is the word
with those bits set. -/
theorem Copies.eq_or {w c m e ones mask mat : Word} (h : Copies w c m e) (hw : w &&& mask = mat)
    (hc : c = mat ||| ones) (hcover : mask ||| m ||| ones = BitVec.allOnes 32) : e = w ||| ones :=
  calc e = c ||| w &&& m := h.eq_or_and
    _ = w &&& (mask ||| m) ||| ones := by rw [hc, ← hw, BitVec.and_or_distrib_left]; ac_rfl
    _ = w ||| ones := and_or_of_or_eq_allOnes hcover

/-- The instruction that the row builds from one of its words encodes to that word with its should-be-one fields set. -/
def KeepsBits (r : Row) : Prop := ∀ w, r.hits w = true → encode (r.build w) = w ||| shouldBeOne (r.build w)

/-- Every row reads each bit of the word that neither its pattern fixes nor the encoder sets (30 R144, R160 to R190). -/
theorem keepsBits_of_mem : ∀ r ∈ decodeTable, KeepsBits r := by
  simp only [decodeTable, arithRows, logicalRows, shiftRows, condRows, mulDivRows, branchRows, loadStoreRows,
    loadStoreRows1, loadStoreRows2, pairRows, exclusiveRows, atomicRows, systemRows, List.forall_mem_append,
    List.forall_mem_cons, List.not_mem_nil, false_imp_iff, implies_true, and_true]
  and_intros
  all_goals
    intro w hw
    dsimp only [encode, shouldBeOne]
    exact Copies.eq_or (by repeat' apply Copies.field
                           exact .opcode) (of_decide_eq_true hw) (by decide) (by decide)

theorem keepsBits_hintRow : KeepsBits hintRow := fun _ hw =>
  (Copies.field 5 3 (.field 8 4 .opcode)).eq_or (ones := 0#32) (of_decide_eq_true hw) (by decide) (by decide)

/-- A row of the table builds base instructions only (30 R145; log 25). -/
theorem core_build {r : Row} (hr : r ∈ decodeTable) (w : Word) : (r.build w).core = r.build w :=
  List.map_inj_left.mp
    (show decodeTable.map (fun q => (q.build w).core) = decodeTable.map fun q => q.build w from rfl) r hr

/-- Settles O3: the row of the word builds a base instruction and keeps every bit. -/
theorem decodeKeepsEveryBit : Obligations.DecodeKeepsEveryBit := by
  intro w i h
  obtain ⟨r, hrow, rfl, hwf⟩ := (Laws.decode_eq_ok w i).mp h
  rcases Laws.rowOf_cases w r hrow with ⟨hr, hhits⟩ | ⟨rfl, hhits⟩
  · exact ⟨hwf, core_build hr w, keepsBits_of_mem r hr w hhits⟩
  · exact ⟨hwf, rfl, keepsBits_hintRow w hhits⟩

/-! ## Sample words -/

theorem decode_of_encode_eq {w : Word} {i : Instr} (hword : encode i = w) (hcore : i.core = i)
    (hwf : i.wellFormed = true) : decode w = .ok i :=
  hword ▸ decode_encode_of_core hcore hwf

/-- Settles O1: each word is the encoding of its instruction. -/
theorem decodedSampleWords : Obligations.DecodedSampleWords := by
  unfold Obligations.DecodedSampleWords
  and_intros
  all_goals exact decode_of_encode_eq (by decide) rfl rfl

end Sys2Proof.Encoding
end

section
/-! Operands with a reserved or unallocated value (30 R150, R151): the operand forms answer `none` for them, and every
instruction whose operand is `none` is Undefined. -/

namespace Sys2Proof.Machine

open Sys2Proof.WellFormed

/-! ## The operand forms -/

section Operands

variable {s : State} {sf n : BitVec 1} {rm : Reg} {immr imms imm6 : BitVec 6}

theorem ne_one_iff_eq_zero (b : BitVec 1) : b ≠ 1#1 ↔ b = 0#1 := by
  revert b
  decide

theorem extendedRegister_eq_none {w : Nat} {option imm3 : BitVec 3} (h : validExtendShift imm3 = false) :
    s.extendedRegister w rm option imm3 = none :=
  if_pos (Nat.lt_of_not_le (of_decide_eq_false h))

theorem arithImmediate_eq_none {w : Nat} {shift : BitVec 2} {imm12 : BitVec 12} (h : validArithShift shift = false) :
    arithImmediate w shift imm12 = none := by
  have hshift : shift ≠ 0#2 ∧ shift ≠ 1#2 := by
    revert shift
    decide
  rw [arithImmediate, if_neg hshift.1, if_neg hshift.2]

theorem shiftAmount_eq_none (h : validShiftAmount sf imm6 = false) : shiftAmount sf imm6 = none := by
  simp only [validShiftAmount, Bool.or_eq_false_iff, decide_eq_false_iff_not, Bool.not_eq_false'] at h
  exact if_pos ⟨(ne_one_iff_eq_zero sf).mp h.1, h.2⟩

theorem shiftedRegister_eq_none {shift : BitVec 2} (h : validShiftAmount sf imm6 = false) :
    s.shiftedRegister sf rm shift imm6 = none := by
  rw [State.shiftedRegister, shiftAmount_eq_none h, Option.map_none]

theorem shiftedAddend_eq_none {shift : BitVec 2} (h : validAddend sf shift imm6 = false) :
    s.shiftedAddend sf rm shift imm6 = none := by
  rcases Bool.and_eq_false_iff.mp h with hror | hamount
  · exact if_pos (not_not.mp (of_decide_eq_false hror))
  · rw [State.shiftedAddend, shiftedRegister_eq_none hamount, ite_self]

/-- The static check of a bit mask immediate says that its run leaves room in its element; the rotation does not
matter. -/
theorem validBitMask_eq_true_iff (sf n : BitVec 1) (immr imms : BitVec 6) : validBitMask sf n immr imms = true ↔
    (sf = 0#1 → n = 0#1) ∧ 2 ≤ bitMaskElement n imms ∧
      imms.toNat % bitMaskElement n imms + 1 < bitMaskElement n imms := by
  change validBitMask sf n 0#6 imms = true ↔ _
  revert sf n imms
  decide +kernel

theorem logicalImmediate_eq_none (h : validBitMask sf n immr imms = false) :
    logicalImmediate sf n imms immr = none := by
  rw [logicalImmediate_eq]
  exact if_neg fun hmask => Bool.false_ne_true (h.symm.trans ((validBitMask_eq_true_iff sf n immr imms).mpr hmask))

theorem bitfieldMasks_eq_none (h : validBitfield sf n immr imms = false) : bitfieldMasks sf n immr imms = none := by
  refine if_pos ?_
  simp only [validBitfield, Bool.and_eq_false_iff, Bool.or_eq_false_iff, decide_eq_false_iff_not,
    Bool.not_eq_false', ne_one_iff_eq_zero] at h
  exact h

theorem extractPosition_eq_none (h : validExtract sf n imms = false) : extractPosition sf n imms = none := by
  refine if_pos ?_
  simp only [validExtract, Bool.and_eq_false_iff, Bool.or_eq_false_iff, decide_eq_false_iff_not,
    Bool.not_eq_false'] at h
  exact h.imp_right (And.imp_left (ne_one_iff_eq_zero sf).mp)

theorem widePosition_eq_none {hw : BitVec 2} (h : validHalfword sf hw = false) : widePosition sf hw = none := by
  simp only [validHalfword, Bool.or_eq_false_iff, decide_eq_false_iff_not, Bool.not_eq_false'] at h
  exact if_pos ⟨(ne_one_iff_eq_zero sf).mp h.1, h.2⟩

theorem crcSize_eq_none {sz : BitVec 2} (h : validCrc sf sz = false) : crcSize sf sz = none := by
  refine if_neg ?_
  simpa [validCrc] using h

theorem indexOffset_eq_none {option : BitVec 3} {shift : Nat} (h : validIndexOption option = false) :
    s.indexOffset rm option shift = none :=
  if_neg (Bool.not_eq_true _ ▸ h)

theorem pstateField_eq_none {op1 op2 : BitVec 3} (h : validPStateField op1 op2 = false) :
    pstateField op1 op2 = none := by
  revert op1 op2
  decide

end Operands

/-! ## The instructions -/

section Traps

variable {i : Instr} {s : State}

/-- An instruction that ends with the operand of a form that answers `none` is Undefined. -/
theorem Traps.of_orUndefined {α : Type} {o : Option α} {f : α → State}
    (hexec : exec i s = finish s ((orUndefined o).map f)) (ho : o = none) : Traps i s .undefined :=
  .of_raise (by rw [hexec, ho]; rfl)

theorem loadIndexed_of_none {bytes shift : Nat} {ext : Extension} {rm n t : Reg} {option : BitVec 3}
    (h : s.indexOffset rm option shift = none) : loadIndexed bytes ext rm option shift n t s = raise s .undefined := by
  rw [loadIndexed, h]

theorem storeIndexed_of_none {bytes shift : Nat} {rm n t : Reg} {option : BitVec 3}
    (h : s.indexOffset rm option shift = none) : storeIndexed bytes rm option shift n t s = raise s .undefined := by
  rw [storeIndexed, h]

theorem prefetchIndexed_of_none {shift : Nat} {rm : Reg} {option : BitVec 3}
    (h : s.indexOffset rm option shift = none) : prefetchIndexed rm option shift s = raise s .undefined := by
  rw [prefetchIndexed, h]

theorem crcUpdate_of_none {poly : BitVec 32} {sf : BitVec 1} {sz : BitVec 2} {rm rn rd : Reg}
    (h : crcSize sf sz = none) : crcUpdate poly sf rm sz rn rd s = raise s .undefined := by
  rw [crcUpdate, h]
  rfl

theorem writePState_of_none {op1 op2 : BitVec 3} {crm : BitVec 4} (h : pstateField op1 op2 = none) :
    writePState op1 crm op2 s = raise s .undefined := by
  rw [writePState, h]
  rfl

/-- An odd register of a pair is refused before any access (48 R613), as the whole instruction is without the
feature. -/
theorem compareAndSwapPair_of_odd {sz l o0 : BitVec 1} {rs n t : Reg} (h : (validEven rs && validEven t) = false) :
    compareAndSwapPair sz l rs o0 n t s = raise s .undefined := by
  have hodd : rs.getLsbD 0 = true ∨ t.getLsbD 0 = true := by
    simpa [validEven] using Bool.and_eq_false_iff.mp h
  unfold compareAndSwapPair whenFeature
  split
  · cases hrs : rs.getLsbD 0 with
    | true => rfl
    | false =>
      rw [hodd.resolve_left (hrs ▸ Bool.false_ne_true)]
      rfl
  · rfl

end Traps

/-- Settles O6: for each form, the operand that its static check refuses is one that its meaning refuses. -/
theorem reservedOperandsAreUndefined : Obligations.ReservedOperandsAreUndefined := by
  intro i s hcore hwf hhint
  cases i
  case hint => exact absurd rfl (hhint _ _)
  case addExtendedRegister | addsExtendedRegister | subExtendedRegister | subsExtendedRegister =>
    exact .of_orUndefined rfl (extendedRegister_eq_none hwf)
  case addImmediate | addsImmediate | subImmediate | subsImmediate =>
    exact .of_orUndefined rfl (arithImmediate_eq_none hwf)
  case addShiftedRegister | addsShiftedRegister | subShiftedRegister | subsShiftedRegister =>
    exact .of_orUndefined rfl (shiftedAddend_eq_none hwf)
  case andImmediate | andsImmediate | eorImmediate | orrImmediate =>
    exact .of_orUndefined rfl (logicalImmediate_eq_none hwf)
  case andShiftedRegister | andsShiftedRegister | bicShiftedRegister | bicsShiftedRegister | eonShiftedRegister |
      eorShiftedRegister | ornShiftedRegister | orrShiftedRegister =>
    exact .of_orUndefined rfl (shiftedRegister_eq_none hwf)
  case movk | movn | movz => exact .of_orUndefined rfl (widePosition_eq_none hwf)
  case bfm | sbfm | ubfm => exact .of_orUndefined rfl (bitfieldMasks_eq_none hwf)
  case extr => exact .of_orUndefined rfl (extractPosition_eq_none hwf)
  case crc32 | crc32c => exact .of_raise (crcUpdate_of_none (crcSize_eq_none hwf))
  case ldrRegister | ldrbRegister | ldrhRegister | ldrsbRegister | ldrshRegister | ldrswRegister =>
    exact .of_raise (loadIndexed_of_none (indexOffset_eq_none hwf))
  case strRegister | strbRegister | strhRegister => exact .of_raise (storeIndexed_of_none (indexOffset_eq_none hwf))
  case prfmRegister => exact .of_raise (prefetchIndexed_of_none (indexOffset_eq_none hwf))
  case msrImmediate => exact .of_raise (writePState_of_none (pstateField_eq_none hwf))
  case casp => exact .of_raise (compareAndSwapPair_of_odd hwf)
  all_goals try cases hcore
  all_goals exact absurd hwf Bool.noConfusion

end Sys2Proof.Machine
end

section
/-! How an instruction completes whose meaning ends with `finish`, and the operand forms on the values that they accept
(00 R14, R15; 30 R150; 40 R204). -/

namespace Sys2Proof.Machine

open Sys2Proof.Forms

/-! ## How an instruction completes -/

section Completes

variable {i : Instr} {s t : State} {w : Writes}

theorem Completes.of_finish (hexec : exec i s = finish s (.ok t)) (h : s.Becomes w t.advance) : Completes i s w :=
  ⟨t.advance, hexec, h⟩

/-- An instruction that ends with an operand of a form that exists completes. -/
theorem Completes.of_operand {α : Type} {o : Option α} {a : α} {f : α → State}
    (hexec : exec i s = finish s ((orUndefined o).map f)) (ho : o = some a) (h : s.Becomes w (f a).advance) :
    Completes i s w :=
  .of_finish (hexec.trans (by rw [ho]; rfl)) h

/-- A result that goes to register 31 is discarded, and only the flags are written (10 R43). -/
theorem State.Becomes.flags_of_toReg_zero {n m : Nat} {v : BitVec n} {result : BitVec m} {c o : Bool}
    (h : s.Becomes ((Writes.toReg 31#5 v).flags s result c o) t) : s.Becomes (Writes.nothing.flags s result c o) t :=
  { h with reg := fun r hr => (h.reg r hr).trans (congrArg (Option.getD · _) (if_neg hr)) }

end Completes

/-! ## Shifted registers (00 R14) -/

theorem datasize_pos (sf : BitVec 1) : 0 < datasize sf := by
  revert sf
  decide

theorem datasize_le (sf : BitVec 1) : datasize sf ≤ 64 := by
  revert sf
  decide

theorem shiftValue_decodeShift {w : Nat} (v : BitVec w) (shift : BitVec 2) (amount : Nat) :
    shiftValue (decodeShift shift) v amount = shifted v shift amount := by
  unfold decodeShift shifted
  split_ifs <;> rfl

section Shifted

variable {sf : BitVec 1} {shift : BitVec 2} {imm6 : BitVec 6}

/-- An amount below the width has bit 5 clear in a 32-bit form. -/
theorem shiftAmount_eq_some (h : imm6.toNat < datasize sf) : shiftAmount sf imm6 = some imm6.toNat := by
  refine if_neg fun ⟨hsf, hbit⟩ => ?_
  subst hsf
  exact Bool.false_ne_true ((Nat.testBit_lt_two_pow h).symm.trans hbit)

theorem shiftedRegister_eq_some (s : State) (rm : Reg) (h : imm6.toNat < datasize sf) :
    s.shiftedRegister sf rm shift imm6 = some (shifted (s.readXW (datasize sf) rm) shift imm6.toNat) := by
  rw [State.shiftedRegister, shiftAmount_eq_some h, Option.map_some, shiftValue_decodeShift]

theorem shiftedAddend_eq_some (s : State) (rm : Reg) (hror : shift ≠ 3#2) (h : imm6.toNat < datasize sf) :
    s.shiftedAddend sf rm shift imm6 = some (shifted (s.readXW (datasize sf) rm) shift imm6.toNat) := by
  rw [State.shiftedAddend, if_neg hror, shiftedRegister_eq_some s rm h]

end Shifted

/-! ## Extended registers (00 R15) -/

section Extended

variable {w : Nat} (v : BitVec w)

/-- The bits that the limit on the length takes from a zero extension are those that the shift drops. -/
theorem setWidth_min_shiftLeft (len k : Nat) :
    (v.setWidth (min len (w - k))).setWidth w <<< k = (v.setWidth len).setWidth w <<< k := by
  apply BitVec.eq_of_getLsbD_eq
  intro i hi
  simp only [BitVec.getLsbD_shiftLeft, BitVec.getLsbD_setWidth]
  grind

/-- The same of a sign extension: no bit above the limit is left after the shift. -/
theorem signExtend_min_shiftLeft (len k : Nat) :
    (v.setWidth (min len (w - k))).signExtend w <<< k = (v.setWidth len).signExtend w <<< k := by
  by_cases h : len ≤ w - k
  · rw [Nat.min_eq_left h]
  · apply BitVec.eq_of_getLsbD_eq
    intro i hi
    simp only [BitVec.getLsbD_shiftLeft, BitVec.getLsbD_signExtend, BitVec.getLsbD_setWidth]
    grind

theorem signExtend_setWidth_of_le {len : Nat} (h : w ≤ len) : (v.setWidth len).signExtend w = v := by
  rw [BitVec.signExtend_eq_setWidth_of_le _ h, BitVec.setWidth_setWidth_of_le _ h, BitVec.setWidth_eq]

theorem extendOption_cases (option : BitVec 3) : option = 0#3 ∨ option = 1#3 ∨ option = 2#3 ∨ option = 3#3 ∨
    option = 4#3 ∨ option = 5#3 ∨ option = 6#3 ∨ option = 7#3 := by
  revert option
  decide

/-- `ExtendReg` extends from the length that `option` names, at any amount: UXTX and SXTX keep the value whole. -/
theorem extendValue_eq_extended (hw : w ≤ 64) (option : BitVec 3) (k : Nat) :
    extendValue v option k = extended v option k := by
  have huxtx : (v.setWidth 64).setWidth w = v := by rw [BitVec.setWidth_setWidth_of_le v hw, BitVec.setWidth_eq]
  have hsxtx : (v.setWidth 64).signExtend w = v := signExtend_setWidth_of_le v hw
  rcases extendOption_cases option with rfl | rfl | rfl | rfl | rfl | rfl | rfl | rfl
  · exact setWidth_min_shiftLeft v 8 k
  · exact setWidth_min_shiftLeft v 16 k
  · exact setWidth_min_shiftLeft v 32 k
  · exact (setWidth_min_shiftLeft v 64 k).trans (by rw [huxtx]; rfl)
  · exact signExtend_min_shiftLeft v 8 k
  · exact signExtend_min_shiftLeft v 16 k
  · exact signExtend_min_shiftLeft v 32 k
  · exact (signExtend_min_shiftLeft v 64 k).trans (by rw [hsxtx]; rfl)

theorem extendedRegister_eq_some (s : State) (rm : Reg) (hw : w ≤ 64) {option imm3 : BitVec 3} (h : imm3.toNat ≤ 4) :
    s.extendedRegister w rm option imm3 = some (extended (s.readXW w rm) option imm3.toNat) := by
  rw [State.extendedRegister, if_neg (Nat.not_lt.mpr h), extendValue_eq_extended _ hw]

end Extended

/-! ## Immediates (40 R204, R210) -/

theorem setWidth_append_zero {n w k : Nat} (v : BitVec n) :
    (v ++ 0#k).setWidth w = BitVec.ofNat w (v.toNat * 2 ^ k) := by
  rw [← BitVec.ofNat_toNat, BitVec.toNat_append, BitVec.toNat_ofNat, Nat.zero_mod, Nat.or_zero, Nat.shiftLeft_eq]

theorem arithImmediate_eq_some (w : Nat) {shift : BitVec 2} (imm12 : BitVec 12) (h : shift = 0#2 ∨ shift = 1#2) :
    arithImmediate w shift imm12 =
      some (BitVec.ofNat w (if shift = 1#2 then imm12.toNat * 4096 else imm12.toNat)) := by
  rcases h with rfl | rfl
  · exact congrArg some (BitVec.ofNat_toNat w imm12).symm
  · exact congrArg some (setWidth_append_zero imm12)

/-- Dropping the low bits of a value clears them. -/
theorem extractLsb'_append_zero (v : DWord) : v.extractLsb' 12 52 ++ 0#12 = BitVec.ofNat 64 (v.toNat / 4096 * 4096) := by
  have := v.isLt
  apply BitVec.eq_of_toNat_eq
  simp only [BitVec.toNat_append, BitVec.extractLsb'_toNat, BitVec.toNat_ofNat, Nat.shiftRight_eq_div_pow,
    Nat.shiftLeft_eq, Nat.zero_mod, Nat.or_zero]
  omega

theorem signExtend_append_zero {n k : Nat} (v : BitVec n) :
    (v ++ 0#k).signExtend 64 = BitVec.ofInt 64 (v.toInt * 2 ^ k) := by
  rw [BitVec.signExtend, BitVec.toInt_append_zero, Int.mul_comm]

end Sys2Proof.Machine
end

section
/-! Addition, subtraction and address formation (40 R200 to R228). -/

namespace Sys2Proof.Machine

open Sys2Proof.Forms

/-! ## Sums and differences with a carry (00 R13) -/

section Sums

variable {w : Nat} (x y : BitVec w) (c : Bool)

theorem addWithCarry_fst : (addWithCarry x y c).1 = x + y + carryIn c := by
  apply BitVec.eq_of_toNat_eq
  simp [addWithCarry_toNat, carryIn, BitVec.toNat_add]

theorem addWithCarry_c : (addWithCarry x y c).2.c = decide (2 ^ w ≤ x.toNat + y.toNat + c.toNat) := by
  rw [Bool.eq_iff_iff, addWithCarry_c_eq_true, decide_eq_true_iff]

theorem addWithCarry_v :
    (addWithCarry x y c).2.v = decide ((x + y + carryIn c).toInt ≠ x.toInt + y.toInt + c.toNat) := by
  rw [← addWithCarry_fst]
  rfl

/-- Adding the complement of `y` with a carry subtracts `y`, and 1 more when the carry is clear. -/
theorem addWithCarry_not_fst : (addWithCarry x (~~~y) c).1 = x - y - carryIn (!c) := by
  cases c with
  | false =>
    rw [addWithCarry_fst, BitVec.not_eq_neg_add]
    change x + (-y - 1#w) + 0#w = x - y - 1#w
    rw [BitVec.add_zero]
    ring
  | true => exact (addWithCarry_not_true x y).trans (BitVec.sub_zero _).symm

/-- The carry of a subtraction is set when there is no borrow, the borrow into it counted. -/
theorem addWithCarry_not_c :
    (addWithCarry x (~~~y) c).2.c = decide (y.toNat + (!c).toNat ≤ x.toNat) := by
  have := y.isLt
  rw [addWithCarry_c, BitVec.toNat_not, decide_eq_decide]
  cases c <;> simp only [Bool.not_true, Bool.not_false, Bool.toNat_true, Bool.toNat_false] <;> omega

/-- As a signed value the complement of `y` is `-1 - y`; a vector of no bits is its own complement. -/
theorem toInt_not_of_pos (hw : 0 < w) : (~~~y).toInt = -1 - y.toInt := by
  have hnot : ((~~~y).toNat : Int) = 2 ^ w - 1 - y.toNat := by
    rw [BitVec.toNat_not, Nat.sub_sub, Nat.cast_sub (by have := y.isLt; omega)]
    push_cast
    ring
  rw [BitVec.toInt_eq_msb_cond, BitVec.toInt_eq_msb_cond, BitVec.msb_not, hnot]
  cases y.msb <;> simp [hw] <;> ring

theorem addWithCarry_not_v (hw : 0 < w) : (addWithCarry x (~~~y) c).2.v =
    decide ((x - y - carryIn (!c)).toInt ≠ x.toInt - y.toInt - (!c).toNat) := by
  have hexact : x.toInt + (~~~y).toInt + c.toNat = x.toInt - y.toInt - (!c).toNat := by
    rw [toInt_not_of_pos y hw]
    cases c <;> simp only [Bool.not_true, Bool.not_false, Bool.toNat_true, Bool.toNat_false] <;> omega
  rw [addWithCarry_v, ← addWithCarry_fst, addWithCarry_not_fst, hexact]

end Sums

/-! ## Sums and differences without a carry (40 R200) -/

section AddSub

variable {w : Nat} (x y : BitVec w)

/-- A signed sum overflows exactly when it is not the exact sum. -/
theorem toInt_add_ne_iff : (x + y).toInt ≠ x.toInt + y.toInt ↔ x.saddOverflow y = true := by
  rw [← not_iff_not, not_not]
  refine ⟨fun h => ?_, BitVec.toInt_add_of_not_saddOverflow⟩
  have := BitVec.toInt_lt (x := x + y)
  have := BitVec.le_toInt (x := x + y)
  rw [BitVec.saddOverflow, ← h]
  simp only [Bool.or_eq_true, decide_eq_true_eq]
  omega

theorem toInt_sub_ne_iff : (x - y).toInt ≠ x.toInt - y.toInt ↔ x.ssubOverflow y = true := by
  rw [← not_iff_not, not_not]
  refine ⟨fun h => ?_, BitVec.toInt_sub_of_not_ssubOverflow⟩
  have := BitVec.toInt_lt (x := x - y)
  have := BitVec.le_toInt (x := x - y)
  rw [BitVec.ssubOverflow, ← h]
  simp only [Bool.or_eq_true, decide_eq_true_eq]
  omega

theorem addSub_false : addSub false x y = addWithCarry x y false := rfl

theorem addSub_true : addSub true x y = addWithCarry x (~~~y) true := rfl

theorem addSub_false_fst : (addSub false x y).1 = x + y :=
  (addWithCarry_fst x y false).trans (BitVec.add_zero _)

theorem addSub_false_c : (addSub false x y).2.c = decide (2 ^ w ≤ x.toNat + y.toNat) :=
  addWithCarry_c x y false

theorem addSub_false_v : (addSub false x y).2.v = x.saddOverflow y := by
  rw [Bool.eq_iff_iff, ← toInt_add_ne_iff, addSub_false, addWithCarry_v, decide_eq_true_iff]
  simp [carryIn]

theorem addSub_true_fst : (addSub true x y).1 = x - y := addWithCarry_not_true x y

theorem addSub_true_c : (addSub true x y).2.c = decide (y.toNat ≤ x.toNat) := addWithCarry_not_c x y true

theorem addSub_true_v (hw : 0 < w) : (addSub true x y).2.v = x.ssubOverflow y := by
  rw [Bool.eq_iff_iff, ← toInt_sub_ne_iff, addSub_true, addWithCarry_not_v x y true hw, decide_eq_true_iff]
  simp [carryIn]

end AddSub

/-! ## What an addition or subtraction writes -/

section

variable (s : State) (rd : Reg) {w : Nat} (x y : BitVec w) (c : Bool)

/-- The flags that `AddWithCarry` gives are those of its own result. -/
theorem State.becomes_writeSum_addWithCarry :
    s.Becomes ((Writes.toReg rd (addWithCarry x y c).1).flags s (addWithCarry x y c).1
      (addWithCarry x y c).2.c (addWithCarry x y c).2.v) (s.writeSum true rd (addWithCarry x y c)).advance :=
  s.becomes_writeFlags_writeX rd _ _ _

theorem State.becomes_adcs : s.Becomes ((Writes.toReg rd (x + y + carryIn c)).flags s (x + y + carryIn c)
      (decide (2 ^ w ≤ x.toNat + y.toNat + c.toNat))
      (decide ((x + y + carryIn c).toInt ≠ x.toInt + y.toInt + c.toNat)))
    (s.writeSum true rd (addWithCarry x y c)).advance := by
  rw [← addWithCarry_c, ← addWithCarry_v, ← addWithCarry_fst]
  exact s.becomes_writeSum_addWithCarry rd x y c

theorem State.becomes_sbcs (hw : 0 < w) :
    s.Becomes ((Writes.toReg rd (x - y - carryIn (!c))).flags s (x - y - carryIn (!c))
      (decide (y.toNat + (!c).toNat ≤ x.toNat))
      (decide ((x - y - carryIn (!c)).toInt ≠ x.toInt - y.toInt - (!c).toNat)))
    (s.writeSum true rd (addWithCarry x (~~~y) c)).advance := by
  rw [← addWithCarry_not_c, ← addWithCarry_not_v x y c hw, ← addWithCarry_not_fst]
  exact s.becomes_writeSum_addWithCarry rd x (~~~y) c

theorem State.becomes_adds :
    s.Becomes (sumFlags (.toReg rd (x + y)) s x y) (s.writeSum true rd (addSub false x y)).advance := by
  rw [sumFlags, ← addSub_false_c, ← addSub_false_v, ← addSub_false_fst]
  exact s.becomes_writeSum_addWithCarry rd x y false

theorem State.becomes_subs (hw : 0 < w) :
    s.Becomes (diffFlags (.toReg rd (x - y)) s x y) (s.writeSum true rd (addSub true x y)).advance := by
  rw [diffFlags, ← addSub_true_c, ← addSub_true_v x y hw, ← addSub_true_fst]
  exact s.becomes_writeSum_addWithCarry rd x (~~~y) true

theorem State.becomes_adc :
    s.Becomes (.toReg rd (x + y + carryIn c)) (s.writeSum false rd (addWithCarry x y c)).advance :=
  addWithCarry_fst x y c ▸ s.becomes_writeX rd _

theorem State.becomes_sbc :
    s.Becomes (.toReg rd (x - y - carryIn (!c))) (s.writeSum false rd (addWithCarry x (~~~y) c)).advance :=
  addWithCarry_not_fst x y c ▸ s.becomes_writeX rd _

theorem State.becomes_add : s.Becomes (.toReg rd (x + y)) (s.writeSum false rd (addSub false x y)).advance :=
  addSub_false_fst x y ▸ s.becomes_writeX rd _

theorem State.becomes_sub : s.Becomes (.toReg rd (x - y)) (s.writeSum false rd (addSub true x y)).advance :=
  addSub_true_fst x y ▸ s.becomes_writeX rd _

theorem State.becomes_addSp : s.Becomes (.toXsp rd (x + y)) (s.writeSumSp false rd (addSub false x y)).advance :=
  addSub_false_fst x y ▸ s.becomes_writeXsp rd _

theorem State.becomes_subSp : s.Becomes (.toXsp rd (x - y)) (s.writeSumSp false rd (addSub true x y)).advance :=
  addSub_true_fst x y ▸ s.becomes_writeXsp rd _

end

/-! ## The obligations -/

namespace Arith

/-- Settles O15: NGC and NGCS are SBC and SBCS from the zero register. -/
theorem addSubCarry : Obligations.AddSubCarry := by
  intro s sf rm rn rd n x y sum difference flags
  have hn : 0 < n := datasize_pos sf
  have hzero : s.readXW n 31#5 = 0#n := s.readXW_zero n
  exact ⟨.of_finish rfl (s.becomes_adc rd x y s.p.c), .of_finish rfl (s.becomes_adcs rd x y s.p.c),
    .of_finish rfl (s.becomes_sbc rd x y s.p.c), .of_finish rfl (s.becomes_sbcs rd x y s.p.c hn),
    .of_finish rfl (hzero ▸ s.becomes_sbc rd _ y s.p.c), .of_finish rfl (hzero ▸ s.becomes_sbcs rd _ y s.p.c hn)⟩

/-- Settles O16: CMN and CMP discard the result, and MOV (to/from SP) adds 0. -/
theorem addSubImmediate : Obligations.AddSubImmediate := by
  intro s sf shift imm12 rn rd hshift n x y
  have hn : 0 < n := datasize_pos sf
  have hy : arithImmediate n shift imm12 = some y := arithImmediate_eq_some n imm12 hshift
  have hzero : arithImmediate n 0#2 0#12 = some 0#n := arithImmediate_eq_some n 0#12 (.inl rfl)
  have hadd {shift : BitVec 2} {imm12 : BitVec 12} {y : BitVec n} (hy : arithImmediate n shift imm12 = some y) :
      Completes (.addImmediate sf shift imm12 rn rd) s (.toXsp rd (x + y)) := .of_operand rfl hy (s.becomes_addSp rd x y)
  have hmov : Completes (.addImmediate sf 0#2 0#12 rn rd) s (.toXsp rd x) := by
    simpa only [BitVec.add_zero] using hadd hzero
  exact ⟨hadd hy, .of_operand rfl hy (s.becomes_adds rd x y),
    .of_operand rfl hy (s.becomes_subSp rd x y), .of_operand rfl hy (s.becomes_subs rd x y hn),
    .of_operand rfl hy (s.becomes_adds 31#5 x y).flags_of_toReg_zero,
    .of_operand rfl hy (s.becomes_subs 31#5 x y hn).flags_of_toReg_zero,
    hmov⟩

/-- Settles O17: CMN and CMP discard the result, and NEG and NEGS subtract from the zero register. -/
theorem addSubShifted : Obligations.AddSubShifted := by
  intro s sf shift rm imm6 rn rd hror himm n x y
  have hn : 0 < n := datasize_pos sf
  have hy : s.shiftedAddend sf rm shift imm6 = some y := shiftedAddend_eq_some s rm hror himm
  have hzero : s.readXW n 31#5 = 0#n := s.readXW_zero n
  exact ⟨.of_operand rfl hy (s.becomes_add rd x y), .of_operand rfl hy (s.becomes_adds rd x y),
    .of_operand rfl hy (s.becomes_sub rd x y), .of_operand rfl hy (s.becomes_subs rd x y hn),
    .of_operand rfl hy (s.becomes_adds 31#5 x y).flags_of_toReg_zero,
    .of_operand rfl hy (s.becomes_subs 31#5 x y hn).flags_of_toReg_zero,
    .of_operand rfl hy (hzero ▸ s.becomes_sub rd _ y), .of_operand rfl hy (hzero ▸ s.becomes_subs rd _ y hn)⟩

/-- Settles O18: CMN and CMP discard the result. -/
theorem addSubExtended : Obligations.AddSubExtended := by
  intro s sf rm option imm3 rn rd himm n x y
  have hn : 0 < n := datasize_pos sf
  have hy : s.extendedRegister n rm option imm3 = some y := extendedRegister_eq_some s rm (datasize_le sf) himm
  exact ⟨.of_operand rfl hy (s.becomes_addSp rd x y), .of_operand rfl hy (s.becomes_adds rd x y),
    .of_operand rfl hy (s.becomes_subSp rd x y), .of_operand rfl hy (s.becomes_subs rd x y hn),
    .of_operand rfl hy (s.becomes_adds 31#5 x y).flags_of_toReg_zero,
    .of_operand rfl hy (s.becomes_subs 31#5 x y hn).flags_of_toReg_zero⟩

/-- Settles O19: a page offset is a signed count of 4 KB pages, and a page starts where the low 12 bits are 0. -/
theorem addressFormation : Obligations.AddressFormation := by
  intro s immlo immhi rd
  have hpage : s.pc.extractLsb' 12 52 ++ 0#12 = BitVec.ofNat 64 (s.pc.toNat / 4096 * 4096) :=
    extractLsb'_append_zero s.pc
  have hoffset : (immhi ++ immlo ++ 0#12).signExtend 64 = BitVec.ofInt 64 ((immhi ++ immlo).toInt * 4096) :=
    signExtend_append_zero (immhi ++ immlo)
  exact ⟨.of_finish rfl (s.becomes_writeX rd _),
    .of_finish rfl (hpage ▸ hoffset ▸ s.becomes_writeX rd _)⟩

end Arith

end Sys2Proof.Machine
end

section
/-! Logical operations and moves (41 R250 to R273). -/

namespace Sys2Proof.Machine

open Sys2Proof.Forms

/-! ## What a logical operation writes -/

/-- The flags of a logical result are its sign and whether it is 0; C and V are clear (10 R49). -/
theorem State.becomes_logicalFlags (s : State) (rd : Reg) {w : Nat} (v : BitVec w) :
    s.Becomes (logicalWrites rd s v) ((s.writeFlags (logicalFlags v)).writeX rd v).advance :=
  s.becomes_writeFlags_writeX rd v false false

/-- MOV and MVN take the zero register as the first operand of ORR and ORN, and so keep the second (41 R263, R264, R268). -/
theorem State.readXW_zero_or (s : State) {w : Nat} (v : BitVec w) : s.readXW w 31#5 ||| v = v := by
  rw [s.readXW_zero, BitVec.zero_or]

/-- The shift of a MOV between registers changes nothing (41 R264). -/
theorem shifted_zero {w : Nat} (v : BitVec w) : shifted v 0#2 0 = v := BitVec.shiftLeft_zero v

/-! ## Wide immediates (41 R265) -/

/-- A position below the width has `hw<1>` clear in a 32-bit form. -/
theorem widePosition_eq_some {sf : BitVec 1} {hw : BitVec 2} (h : 16 * hw.toNat < datasize sf) :
    widePosition sf hw = some (16 * hw.toNat) := by
  refine if_neg fun ⟨hsf, hbit⟩ => ?_
  subst hsf
  have hlow : hw.toNat < 2 ^ 1 := Nat.lt_of_mul_lt_mul_left (a := 16) h
  exact Bool.false_ne_true ((Nat.testBit_lt_two_pow hlow).symm.trans hbit)

section InsertWide

variable {w : Nat} (imm16 : BitVec 16)

theorem insertWide_zero (pos : Nat) : insertWide 0#w pos imm16 = imm16.setWidth w <<< pos := by
  rw [insertWide, BitVec.zero_and, BitVec.zero_or]

/-- The bits from `pos` to `pos + 15` come from the immediate, and the others stay. -/
theorem getLsbD_insertWide (v : BitVec w) (pos : Nat) {i : Nat} (hi : i < w) :
    (insertWide v pos imm16).getLsbD i =
      if pos ≤ i ∧ i < pos + 16 then imm16.getLsbD (i - pos) else v.getLsbD i := by
  have hmask : ∀ j, (0xFFFF#16).getLsbD j = decide (j < 16) := fun _ => BitVec.getLsbD_allOnes
  simp only [insertWide, BitVec.getLsbD_or, BitVec.getLsbD_and, BitVec.getLsbD_not, BitVec.getLsbD_shiftLeft,
    BitVec.getLsbD_setWidth, hmask]
  grind

/-- The same at a multiple of 16, where the field is one of the halfwords of the register. -/
theorem getLsbD_insertWide_halfword (v : BitVec w) (k : Nat) {i : Nat} (hi : i < w) :
    (insertWide v (16 * k) imm16).getLsbD i = if i / 16 = k then imm16.getLsbD (i % 16) else v.getLsbD i := by
  rw [getLsbD_insertWide imm16 v (16 * k) hi]
  by_cases hk : i / 16 = k
  · rw [if_pos hk, if_pos (by omega), show i - 16 * k = i % 16 by omega]
  · rw [if_neg hk, if_neg (by omega)]

end InsertWide

/-! ## The obligations -/

namespace LogicalMove

/-- Settles O20: TST is ANDS to the zero register; MVN and MOV are ORN and ORR from it, MOV with a shift by 0. -/
theorem logicalShifted : Obligations.LogicalShifted := by
  intro s sf shift rm imm6 rn rd himm n x y
  have hy : s.shiftedRegister sf rm shift imm6 = some y := shiftedRegister_eq_some s rm himm
  have hrm : s.shiftedRegister sf rm 0#2 0#6 = some (s.readXW n rm) :=
    (shiftedRegister_eq_some (imm6 := 0#6) s rm (datasize_pos sf)).trans (congrArg some (shifted_zero _))
  have hor (v : BitVec n) : s.Becomes (.toReg rd v) (s.writeX rd (s.readXW n 31#5 ||| v)).advance :=
    (s.readXW_zero_or v).symm ▸ s.becomes_writeX rd v
  exact ⟨.of_operand rfl hy (s.becomes_writeX rd (x &&& y)), .of_operand rfl hy (s.becomes_logicalFlags rd (x &&& y)),
    .of_operand rfl hy (s.becomes_writeX rd (x &&& ~~~y)), .of_operand rfl hy (s.becomes_logicalFlags rd (x &&& ~~~y)),
    .of_operand rfl hy (s.becomes_writeX rd (x ||| y)), .of_operand rfl hy (s.becomes_writeX rd (x ||| ~~~y)),
    .of_operand rfl hy (s.becomes_writeX rd (x ^^^ y)), .of_operand rfl hy (s.becomes_writeX rd (x ^^^ ~~~y)),
    .of_operand rfl hy (s.becomes_logicalFlags 31#5 (x &&& y)),
    .of_operand rfl hy (hor (~~~y)), .of_operand rfl hrm (hor (s.readXW n rm))⟩

/-- Settles O21: TST is ANDS to the zero register, and MOV is ORR from it. -/
theorem logicalImmediate : Obligations.LogicalImmediate := by
  intro s sf n immr imms rn rd y hy x
  have hmov : s.Becomes (.toXsp rd y) (s.writeXsp rd (s.readXW (datasize sf) 31#5 ||| y)).advance :=
    (s.readXW_zero_or y).symm ▸ s.becomes_writeXsp rd y
  exact ⟨.of_operand rfl hy (s.becomes_writeXsp rd (x &&& y)), .of_operand rfl hy (s.becomes_writeXsp rd (x ||| y)),
    .of_operand rfl hy (s.becomes_writeXsp rd (x ^^^ y)), .of_operand rfl hy hmov,
    .of_operand rfl hy (s.becomes_logicalFlags rd (x &&& y)),
    .of_operand rfl hy (s.becomes_logicalFlags 31#5 (x &&& y))⟩

/-- Settles O23: MOVZ and MOVN insert the immediate in 0, and MOVK in the old value. -/
theorem moveWide : Obligations.MoveWide := by
  intro s sf hw imm16 rd hpos n v
  have hp : widePosition sf hw = some (16 * hw.toNat) := widePosition_eq_some hpos
  have hv : insertWide 0#n (16 * hw.toNat) imm16 = v := insertWide_zero imm16 _
  have hmov : s.Becomes (.toReg rd v) (s.writeX rd (insertWide 0#n (16 * hw.toNat) imm16)).advance :=
    hv ▸ s.becomes_writeX rd _
  have hmovn : s.Becomes (.toReg rd (~~~v)) (s.writeX rd (~~~insertWide 0#n (16 * hw.toNat) imm16)).advance :=
    hv ▸ s.becomes_writeX rd _
  exact ⟨.of_operand rfl hp hmov, .of_operand rfl hp hmov, .of_operand rfl hp hmovn, .of_operand rfl hp hmovn,
    _, .of_operand rfl hp (s.becomes_writeX rd _), fun _ => getLsbD_insertWide_halfword imm16 _ _⟩

end LogicalMove

end Sys2Proof.Machine
end

section
/-! Variable shifts, extraction and bitfield moves (42 R300 to R335). -/

namespace Sys2Proof.Machine

open Sys2Proof.Forms

/-! ## Extraction (42 R310) -/

/-- A position below the width has bit 5 clear in a 32-bit form. -/
theorem extractPosition_eq_some {sf : BitVec 1} {imms : BitVec 6} (h : imms.toNat < datasize sf) :
    extractPosition sf sf imms = some imms.toNat := by
  refine if_neg (not_or.mpr ⟨not_not.mpr rfl, fun ⟨hsf, hbit⟩ => ?_⟩)
  subst hsf
  exact Bool.false_ne_true ((Nat.testBit_lt_two_pow h).symm.trans hbit)

/-- A field of a register after itself is a rotation (42 R322). -/
theorem extractLsb'_append_self {w : Nat} (x : BitVec w) {k : Nat} (hk : k < w) :
    (x ++ x).extractLsb' k w = x.rotateRight k := by
  apply BitVec.eq_of_getLsbD_eq
  intro i hi
  rw [BitVec.getLsbD_extractLsb', BitVec.getLsbD_append, BitVec.getLsbD_rotateRight_of_lt hk]
  by_cases h : k + i < w
  · simp [h, hi, show i < w - k by omega]
  · simp [h, hi, show ¬i < w - k by omega, show k + i - w = i - (w - k) by omega]

/-! ## The masks of a bitfield move (00 R16) -/

/-- `wmask` at the operand width: the bits of the rotated source that come from bits `m` to 0 of the source. -/
def sourceMask (w r m : Nat) : BitVec w := bitsOf w fun i => decide ((i + r) % w ≤ m)

/-- `tmask` at the operand width: the bits up to the top of the field. -/
def topMask (w r m : Nat) : BitVec w := bitsOf w fun i => decide (i % w ≤ (m + w - r) % w)

theorem lt_datasize (sf : BitVec 1) {k : Nat} (hk : k < 32) : k < datasize sf := by
  refine hk.trans_le ?_
  clear hk
  revert sf
  decide

section Masks

variable {sf : BitVec 1} {immr imms : BitVec 6}

/-- The element of a bitfield move is the whole operand. -/
theorem bitMaskElement_of_lt (h : imms.toNat < datasize sf) : bitMaskElement sf imms = datasize sf := by
  revert sf imms
  decide +kernel

theorem bitfieldMasks_eq_some (hr : immr.toNat < datasize sf) (hm : imms.toNat < datasize sf) :
    bitfieldMasks sf sf immr imms = some (sourceMask (datasize sf) immr.toNat imms.toNat,
      topMask (datasize sf) immr.toNat imms.toNat) := by
  have hbits : ¬(sf = 0#1 ∧ (immr.getLsbD 5 ∨ imms.getLsbD 5)) := by
    rintro ⟨rfl, hbit | hbit⟩
    · exact Bool.false_ne_true ((Nat.testBit_lt_two_pow hr).symm.trans hbit)
    · exact Bool.false_ne_true ((Nat.testBit_lt_two_pow hm).symm.trans hbit)
  rw [bitfieldMasks, if_neg (not_or.mpr ⟨not_not.mpr rfl, hbits⟩), decodeBitMasks_eq, bitMaskElement_of_lt hm,
    Nat.mod_eq_of_lt hr, Nat.mod_eq_of_lt hm,
    if_pos ⟨lt_datasize sf (by decide : 1 < 32), fun h => absurd h Bool.false_ne_true⟩]
  rfl

end Masks

/-! ## The fields -/

section Fields

variable {w r m i : Nat}

theorem getLsbD_topMask (hr : r < w) (hm : m < w) (hi : i < w) :
    (topMask w r m).getLsbD i = decide (i ≤ if r ≤ m then m - r else w - r + m) := by
  rw [topMask, getLsbD_bitsOf, Nat.mod_eq_of_lt hi, decide_eq_true hi, Bool.true_and]
  split
  case isTrue h => rw [Nat.mod_eq_sub_mod (by omega), Nat.mod_eq_of_lt (by omega)]; congr 2; omega
  case isFalse h => rw [Nat.mod_eq_of_lt (by omega)]; congr 2; omega

theorem getLsbD_rotateRight_and_sourceMask (x : BitVec w) (hr : r < w) (hi : i < w) :
    (x.rotateRight r &&& sourceMask w r m).getLsbD i =
      if i < w - r then decide (r + i ≤ m) && x.getLsbD (r + i)
      else decide (i - (w - r) ≤ m) && x.getLsbD (i - (w - r)) := by
  rw [BitVec.getLsbD_and, BitVec.getLsbD_rotateRight_of_lt hr, sourceMask, getLsbD_bitsOf, decide_eq_true hi,
    Bool.true_and, Bool.true_and, Bool.and_comm]
  split
  case isTrue h => rw [decide_eq_true h, Nat.mod_eq_of_lt (by omega), Nat.add_comm]; rfl
  case isFalse h =>
    rw [decide_eq_false h, Nat.mod_eq_sub_mod (by omega), Nat.mod_eq_of_lt (by omega),
      show i + r - w = i - (w - r) by omega]
    rfl

theorem unsignedField_eq (x : BitVec w) (hr : r < w) (hm : m < w) :
    unsignedField x r m = x.rotateRight r &&& sourceMask w r m &&& topMask w r m := by
  apply BitVec.eq_of_getLsbD_eq
  intro i hi
  rw [BitVec.getLsbD_and, getLsbD_rotateRight_and_sourceMask x hr hi, getLsbD_topMask hr hm hi, unsignedField]
  split
  case isTrue h =>
    simp only [BitVec.getLsbD_setWidth, BitVec.getLsbD_ushiftRight]
    grind
  case isFalse h =>
    simp only [BitVec.getLsbD_setWidth, BitVec.getLsbD_shiftLeft]
    grind

theorem signedField_eq (x : BitVec w) (hr : r < w) (hm : m < w) :
    signedField x r m = ((if x.getLsbD m then BitVec.allOnes w else 0#w) &&& ~~~topMask w r m) |||
      (x.rotateRight r &&& sourceMask w r m &&& topMask w r m) := by
  have hsign : ∀ i, i < w → (if x.getLsbD m then BitVec.allOnes w else 0#w).getLsbD i = x.getLsbD m := by
    intro i hi
    cases x.getLsbD m <;> simp [hi]
  apply BitVec.eq_of_getLsbD_eq
  intro i hi
  rw [BitVec.getLsbD_or, BitVec.getLsbD_and, BitVec.getLsbD_and, BitVec.getLsbD_not, hsign i hi,
    getLsbD_rotateRight_and_sourceMask x hr hi, getLsbD_topMask hr hm hi, signedField]
  split
  case isTrue h =>
    simp only [BitVec.getLsbD_signExtend, BitVec.getLsbD_setWidth, BitVec.getLsbD_ushiftRight,
      BitVec.msb_eq_getLsbD_last]
    grind
  case isFalse h =>
    simp only [BitVec.getLsbD_signExtend, BitVec.getLsbD_setWidth, BitVec.getLsbD_shiftLeft,
      BitVec.msb_eq_getLsbD_last]
    grind

theorem unsignedField_allOnes (hr : r < w) (hm : m < w) :
    unsignedField (BitVec.allOnes w) r m = sourceMask w r m &&& topMask w r m := by
  have hrot : (BitVec.allOnes w).rotateRight r = BitVec.allOnes w := by
    apply BitVec.eq_of_getLsbD_eq
    intro i hi
    rw [BitVec.getLsbD_rotateRight_of_lt hr]
    simp only [BitVec.getLsbD_allOnes]
    grind
  rw [unsignedField_eq _ hr hm, hrot, BitVec.allOnes_and]

/-- BFM keeps a bit of `Rd` that either mask leaves out. -/
theorem insertedField_eq (old x : BitVec w) (hr : r < w) (hm : m < w) :
    insertedField old x r m = (old &&& ~~~topMask w r m) |||
      (((old &&& ~~~sourceMask w r m) ||| (x.rotateRight r &&& sourceMask w r m)) &&& topMask w r m) := by
  rw [insertedField, unsignedField_allOnes hr hm, unsignedField_eq x hr hm]
  generalize x.rotateRight r = y, sourceMask w r m = source, topMask w r m = top
  apply BitVec.eq_of_getLsbD_eq
  intro i hi
  simp only [BitVec.getLsbD_or, BitVec.getLsbD_and, BitVec.getLsbD_not, hi, decide_true, Bool.true_and]
  cases old.getLsbD i <;> cases source.getLsbD i <;> cases top.getLsbD i <;> simp

/-! ## The fields of the aliases -/

/-- A field that ends where the rotation starts is a shift to the left (42 R312). -/
theorem unsignedField_add_one (x : BitVec w) (h : m + 1 ≤ w) : unsignedField x (m + 1) m = x <<< (w - (m + 1)) := by
  have hdrop := setWidth_min_shiftLeft x w (w - (m + 1))
  rw [Nat.sub_sub_self h, Nat.min_eq_right h, BitVec.setWidth_eq, BitVec.setWidth_eq] at hdrop
  rw [unsignedField, if_neg (Nat.not_succ_le_self m), hdrop]

/-- A field up to the top bit is a shift to the right (42 R315). -/
theorem unsignedField_last (x : BitVec w) (hr : r < w) : unsignedField x r (w - 1) = x >>> r := by
  apply BitVec.eq_of_getLsbD_eq
  intro i hi
  rw [unsignedField, if_pos (by omega)]
  simp only [BitVec.getLsbD_setWidth, BitVec.getLsbD_ushiftRight]
  grind

/-- With its sign above it, it is an arithmetic shift (42 R302). -/
theorem signedField_last (x : BitVec w) (hr : r < w) : signedField x r (w - 1) = x.sshiftRight r := by
  apply BitVec.eq_of_getLsbD_eq
  intro i hi
  rw [signedField, if_pos (by omega)]
  simp only [BitVec.getLsbD_signExtend, BitVec.getLsbD_setWidth, BitVec.getLsbD_ushiftRight, BitVec.getLsbD_sshiftRight,
    BitVec.msb_eq_getLsbD_last]
  grind

/-- A field that starts at bit 0 is a zero extension (42 R334, R335). -/
theorem unsignedField_zero (x : BitVec w) (m : Nat) : unsignedField x 0 m = (x.setWidth (m + 1)).setWidth w := by
  rw [unsignedField, if_pos (Nat.zero_le m), BitVec.ushiftRight_zero]
  rfl

/-- With its sign above it, it is a sign extension (42 R328 to R330). -/
theorem signedField_zero (x : BitVec w) (m : Nat) : signedField x 0 m = (x.setWidth (m + 1)).signExtend w := by
  rw [signedField, if_pos (Nat.zero_le m), BitVec.ushiftRight_zero]
  rfl

end Fields

/-! ## How the instructions complete -/

section Completes

variable {i : Instr} {s : State} {sf : BitVec 1} {immr imms : BitVec 6} {rm rn rd : Reg}

/-- A value in a wider operand is written as it is: the register takes it zero-extended either way (10 R43). -/
theorem Writes.toReg_setWidth (rd : Reg) {n m : Nat} (v : BitVec n) (h : n ≤ m) :
    Writes.toReg rd (v.setWidth m) = Writes.toReg rd v := by
  rw [Writes.toReg, BitVec.setWidth_setWidth (fun hm => Nat.not_lt.mpr h hm.1)]
  rfl

theorem State.setWidth_readXW (s : State) (rn : Reg) {n m : Nat} (h : m ≤ n) :
    (s.readXW n rn).setWidth m = (s.readX rn).setWidth m :=
  BitVec.setWidth_setWidth_of_le _ h

theorem Completes.of_shiftVariable {t : ShiftType} (hexec : exec i s = shiftVariable t sf rm rn rd s) :
    Completes i s (.toReg rd
      (shiftValue t (s.readXW (datasize sf) rn) ((s.readXW (datasize sf) rm).toNat % datasize sf))) :=
  .of_finish hexec (s.becomes_writeX rd _)

theorem Completes.of_extractPair (hexec : exec i s = extractPair sf sf rm imms rn rd s)
    (hm : imms.toNat < datasize sf) : Completes i s (.toReg rd
      ((s.readXW (datasize sf) rn ++ s.readXW (datasize sf) rm).extractLsb' imms.toNat (datasize sf))) :=
  .of_operand hexec (extractPosition_eq_some hm) (s.becomes_writeX rd _)

theorem Completes.of_bitfieldUnsigned (hexec : exec i s = bitfieldUnsigned sf sf immr imms rn rd s)
    (hr : immr.toNat < datasize sf) (hm : imms.toNat < datasize sf) :
    Completes i s (.toReg rd (unsignedField (s.readXW (datasize sf) rn) immr.toNat imms.toNat)) :=
  unsignedField_eq _ hr hm ▸ .of_operand hexec (bitfieldMasks_eq_some hr hm) (s.becomes_writeX rd _)

theorem Completes.of_bitfieldSigned (hexec : exec i s = bitfieldSigned sf sf immr imms rn rd s)
    (hr : immr.toNat < datasize sf) (hm : imms.toNat < datasize sf) :
    Completes i s (.toReg rd (signedField (s.readXW (datasize sf) rn) immr.toNat imms.toNat)) :=
  signedField_eq _ hr hm ▸ .of_operand hexec (bitfieldMasks_eq_some hr hm) (s.becomes_writeX rd _)

/-- A field that starts at bit 0 is extended from its width (42 R334, R335). -/
theorem Completes.of_bitfieldUnsigned_zero (hexec : exec i s = bitfieldUnsigned sf sf 0#6 imms rn rd s)
    (hm : imms.toNat < datasize sf) : Completes i s (.toReg rd ((s.readX rn).setWidth (imms.toNat + 1))) := by
  have hfield := unsignedField_zero (s.readXW (datasize sf) rn) imms.toNat
  rw [← Writes.toReg_setWidth rd _ hm, ← s.setWidth_readXW rn hm, ← hfield]
  exact .of_bitfieldUnsigned hexec (datasize_pos sf) hm

/-- The same with its sign above it (42 R328 to R330). -/
theorem Completes.of_bitfieldSigned_zero (hexec : exec i s = bitfieldSigned sf sf 0#6 imms rn rd s)
    (hm : imms.toNat < datasize sf) : Completes i s (.toReg rd
      (((s.readXW (datasize sf) rn).setWidth (imms.toNat + 1)).signExtend (datasize sf))) :=
  signedField_zero (s.readXW (datasize sf) rn) imms.toNat ▸ .of_bitfieldSigned hexec (datasize_pos sf) hm

theorem Completes.of_bitfieldInsert (hexec : exec i s = bitfieldInsert sf sf immr imms rn rd s)
    (hr : immr.toNat < datasize sf) (hm : imms.toNat < datasize sf) :
    Completes i s (.toReg rd
      (insertedField (s.readXW (datasize sf) rd) (s.readXW (datasize sf) rn) immr.toNat imms.toNat)) :=
  insertedField_eq _ _ hr hm ▸ .of_operand hexec (bitfieldMasks_eq_some hr hm) (s.becomes_writeX rd _)

end Completes

/-! ## The obligations -/

namespace Bitfield

/-- The `imms` of ASR and LSR (immediate) is the number of the top bit (42 R302, R315). -/
theorem toNat_append_ones (sf : BitVec 1) : (sf ++ 31#5 : BitVec 6).toNat = datasize sf - 1 := by
  revert sf
  decide

theorem toNat_append_ones_lt (sf : BitVec 1) : (sf ++ 31#5 : BitVec 6).toNat < datasize sf := by
  rw [toNat_append_ones]
  exact Nat.sub_one_lt (datasize_pos sf).ne'

/-- Settles O24: a field of one register twice is a rotation. -/
theorem shiftsAndExtracts : Obligations.ShiftsAndExtracts := by
  intro s sf rm rn rd imms n x y k
  refine ⟨.of_shiftVariable (t := .lsl) rfl, .of_shiftVariable (t := .lsl) rfl,
    .of_shiftVariable (t := .lsr) rfl, .of_shiftVariable (t := .lsr) rfl,
    .of_shiftVariable (t := .asr) rfl, .of_shiftVariable (t := .asr) rfl,
    .of_shiftVariable (t := .ror) rfl, .of_shiftVariable (t := .ror) rfl, fun hm => ⟨?_, ?_⟩⟩
  · rw [BitVec.setWidth_ushiftRight_eq_extractLsb]
    exact .of_extractPair rfl hm
  · rw [← extractLsb'_append_self x hm]
    exact .of_extractPair rfl hm

/-- Settles O25: the aliases are UBFM, with the fields that a shift and an extension select. -/
theorem unsignedBitfield : Obligations.UnsignedBitfield := by
  intro s sf immr imms rn rd hr hm n x v
  have hlsr : Completes (.lsrImmediate sf sf immr sf rn rd) s (.toReg rd (unsignedField x immr.toNat (n - 1))) :=
    toNat_append_ones sf ▸ .of_bitfieldUnsigned rfl hr (toNat_append_ones_lt sf)
  refine ⟨.of_bitfieldUnsigned rfl hr hm, .of_bitfieldUnsigned rfl hr hm, .of_bitfieldUnsigned rfl hr hm,
    fun hlsl => ?_, unsignedField_last x hr ▸ hlsr,
    .of_bitfieldUnsigned_zero (sf := 0#1) (imms := 7#6) rfl (by decide),
    .of_bitfieldUnsigned_zero (sf := 0#1) (imms := 15#6) rfl (by decide)⟩
  rw [← hlsl, ← unsignedField_add_one x hm, hlsl]
  exact .of_bitfieldUnsigned rfl hr hm

/-- Settles O26: the aliases are SBFM, with the fields that a shift and an extension select. -/
theorem signedBitfield : Obligations.SignedBitfield := by
  intro s sf immr imms rn rd hr hm n x v
  have hasr : Completes (.asrImmediate sf sf immr sf rn rd) s (.toReg rd (signedField x immr.toNat (n - 1))) :=
    toNat_append_ones sf ▸ .of_bitfieldSigned rfl hr (toNat_append_ones_lt sf)
  exact ⟨.of_bitfieldSigned rfl hr hm, .of_bitfieldSigned rfl hr hm, .of_bitfieldSigned rfl hr hm,
    signedField_last x hr ▸ hasr,
    .of_bitfieldSigned_zero (imms := 7#6) rfl (lt_datasize sf (by decide)),
    .of_bitfieldSigned_zero (imms := 15#6) rfl (lt_datasize sf (by decide)),
    s.setWidth_readXW rn (by decide : 32 ≤ 64) ▸ .of_bitfieldSigned_zero (sf := 1#1) (imms := 31#6) rfl (by decide)⟩

/-- Settles O27: BFC inserts the zero register. -/
theorem bitfieldInsert : Obligations.BitfieldInsert := by
  intro s sf immr imms rn rd hr hm n old v
  have hzero : s.readXW n 31#5 = 0#n := s.readXW_zero n
  refine ⟨.of_bitfieldInsert rfl hr hm, .of_bitfieldInsert rfl hr hm, .of_bitfieldInsert rfl hr hm, ?_⟩
  rw [← hzero]
  exact .of_bitfieldInsert rfl hr hm

end Bitfield

end Sys2Proof.Machine
end

section
/-! Counting and reversing bits (00 R19; 42 R308, R309, R317 to R321). -/

namespace Sys2Proof.Machine

open Sys2Proof.Forms

/-! ## Leading zeros -/

section LeadingZeros

variable {w : Nat} (v : BitVec w)

theorem highestSetBit_eq_some {k : Nat} (h : highestSetBit v = some k) :
    v.getLsbD k = true ∧ ∀ i, k < i → v.getLsbD i = false := by
  obtain ⟨hv, hk⟩ := Option.ite_none_left_eq_some.mp h
  have hnat : v.toNat ≠ 0 := fun h0 => hv (BitVec.eq_of_toNat_eq h0)
  rw [← Option.some.inj hk]
  exact ⟨Nat.testBit_log2 hnat, fun i hi => Nat.testBit_lt_two_pow ((Nat.log2_lt hnat).mp hi)⟩

theorem highestSetBit_eq_none (h : highestSetBit v = none) : v = 0#w := by
  by_contra hv
  exact Option.some_ne_none _ ((if_neg hv).symm.trans h)

/-- The count says where the highest set bit is, or that there is none. -/
theorem countLeadingZeroBits_cases :
    (v = 0#w ∧ countLeadingZeroBits v = w) ∨
      ∃ k, k < w ∧ countLeadingZeroBits v = w - 1 - k ∧ v.getLsbD k = true ∧
        ∀ i, k < i → v.getLsbD i = false := by
  unfold countLeadingZeroBits
  split
  case h_1 h => exact .inl ⟨highestSetBit_eq_none v h, rfl⟩
  case h_2 k h =>
    obtain ⟨hset, habove⟩ := highestSetBit_eq_some v h
    exact .inr ⟨k, BitVec.lt_of_getLsbD hset, rfl, hset, habove⟩

theorem countLeadingZeroBits_le : countLeadingZeroBits v ≤ w := by
  rcases countLeadingZeroBits_cases v with ⟨_, hcount⟩ | ⟨k, _, hcount, _⟩ <;> omega

theorem getLsbD_eq_false_of_countLeadingZeroBits {i : Nat} (h : w - countLeadingZeroBits v ≤ i) :
    v.getLsbD i = false := by
  rcases countLeadingZeroBits_cases v with ⟨rfl, _⟩ | ⟨k, hk, hcount, _, habove⟩
  · exact BitVec.getLsbD_zero
  · exact habove i (by omega)

theorem getLsbD_eq_true_of_countLeadingZeroBits (h : countLeadingZeroBits v < w) :
    v.getLsbD (w - 1 - countLeadingZeroBits v) = true := by
  rcases countLeadingZeroBits_cases v with ⟨_, hcount⟩ | ⟨k, hk, hcount, hset, _⟩
  · exact absurd hcount h.ne
  · rw [hcount, Nat.sub_sub_self (by omega)]
    exact hset

end LeadingZeros

/-! ## Leading sign bits -/

section LeadingSigns

variable {w : Nat} (v : BitVec w)

/-- Where two neighbouring bits differ: the leading zeros of this are the leading sign bits. -/
theorem getLsbD_neighbours {i : Nat} (hi : i < w - 1) :
    (v.extractLsb' 1 (w - 1) ^^^ v.extractLsb' 0 (w - 1)).getLsbD i = (v.getLsbD (i + 1) ^^ v.getLsbD i) := by
  simp only [BitVec.getLsbD_xor, BitVec.getLsbD_extractLsb', hi, decide_true, Bool.true_and, Nat.zero_add,
    Nat.add_comm 1 i]

/-- Bits that are equal to their neighbour above, up to the top, are all the sign. -/
theorem getLsbD_eq_msb_of_neighbours {low : Nat}
    (h : ∀ i, low ≤ i → i < w - 1 → v.getLsbD (i + 1) = v.getLsbD i) {i : Nat} (hlow : low ≤ i) (hi : i ≤ w - 1) :
    v.getLsbD i = v.msb := by
  induction hi using Nat.decreasingInduction with
  | self => exact (BitVec.msb_eq_getLsbD_last v).symm
  | of_succ i hi ih => exact (h i hlow hi).symm.trans (ih (Nat.le_succ_of_le hlow))

theorem countLeadingSignBits_le : countLeadingSignBits v ≤ w - 1 := countLeadingZeroBits_le _

theorem getLsbD_eq_msb_of_countLeadingSignBits {i : Nat} (h : w - 1 - countLeadingSignBits v ≤ i) (hi : i ≤ w - 1) :
    v.getLsbD i = v.msb :=
  getLsbD_eq_msb_of_neighbours v (fun j hj hw => by
    have hequal := getLsbD_eq_false_of_countLeadingZeroBits _ hj
    rw [getLsbD_neighbours v hw] at hequal
    exact bne_eq_false_iff_eq.mp hequal) h hi

theorem getLsbD_eq_not_msb_of_countLeadingSignBits (h : countLeadingSignBits v < w - 1) :
    v.getLsbD (w - 2 - countLeadingSignBits v) = !v.msb := by
  have hdiffer : (v.extractLsb' 1 (w - 1) ^^^ v.extractLsb' 0 (w - 1)).getLsbD
      (w - 2 - countLeadingSignBits v) = true :=
    getLsbD_eq_true_of_countLeadingZeroBits _ h
  rw [getLsbD_neighbours v (by omega),
    getLsbD_eq_msb_of_countLeadingSignBits v (i := w - 2 - countLeadingSignBits v + 1) (by omega) (by omega)] at hdiffer
  exact Bool.eq_not.mpr (bne_iff_ne.mp hdiffer).symm

end LeadingSigns

/-! ## Reversals -/

theorem getLsbD_bitReverse {w : Nat} (v : BitVec w) {i : Nat} (hi : i < w) :
    (bitReverse v).getLsbD i = v.getLsbD (w - 1 - i) := by
  rw [bitReverse, getLsbD_bitsOf, decide_eq_true hi, Bool.true_and]

theorem byteOf_reverseBytes {w : Nat} (c : Nat) (v : BitVec w) {k : Nat} (hk : k < w / 8) :
    byteOf (reverseBytes c v) k = byteOf v (c * (k / c) + (c - 1 - k % c)) := by
  apply BitVec.eq_of_getLsbD_eq
  intro j hj
  have hbyte : (8 * k + j) / 8 = k := by omega
  have hbit : (8 * k + j) % 8 = j := by omega
  rw [getLsbD_byteOf _ _ _ hj, getLsbD_byteOf _ _ _ hj, reverseBytes, getLsbD_bitsOf,
    decide_eq_true (by omega), Bool.true_and, hbyte, hbit]

/-- In a register, the byte that a container of 2, 4 or 8 bytes holds in the place of byte `k`. -/
theorem mirror_eq_xor {c k : Nat} (hc : c = 1 ∨ c = 3 ∨ c = 7) (hk : k < 8) :
    (c + 1) * (k / (c + 1)) + (c - k % (c + 1)) = k ^^^ c := by
  rcases hc with rfl | rfl | rfl <;> revert k <;> decide

section

variable {i : Instr} {s : State} {w : Nat} {rn rd : Reg}

theorem Completes.of_oneSource {f : BitVec w → BitVec w} (hexec : exec i s = oneSource w f rn rd s) :
    Completes i s (.toReg rd (f (s.readXW w rn))) :=
  .of_finish hexec (s.becomes_writeX rd _)

theorem reverses_of_oneSource {c : Nat} (hexec : exec i s = oneSource w (reverseBytes (c + 1)) rn rd s)
    (hw : w ≤ 64) (hc : c = 1 ∨ c = 3 ∨ c = 7) : Reverses i s w c rn rd :=
  ⟨_, .of_oneSource hexec, fun k hk => by
    rw [byteOf_reverseBytes (c + 1) _ hk, Nat.add_sub_cancel, mirror_eq_xor hc (by omega)]⟩

end

/-! ## The obligations -/

namespace Counting

/-- Settles O28: each count by where its highest set bit, or differing neighbour, is; each reversal byte by byte. -/
theorem countAndReverse : Obligations.CountAndReverse := by
  intro s sf rn rd n x
  have hn : 0 < n := datasize_pos sf
  have hsign := countLeadingSignBits_le x
  have hclz : Completes (.clz sf rn rd) s (.toReg rd (BitVec.ofNat n (countLeadingZeroBits x))) :=
    .of_oneSource (f := fun v => BitVec.ofNat n (countLeadingZeroBits v)) rfl
  have hcls : Completes (.cls sf rn rd) s (.toReg rd (BitVec.ofNat n (countLeadingSignBits x))) :=
    .of_oneSource (f := fun v => BitVec.ofNat n (countLeadingSignBits v)) rfl
  exact ⟨⟨_, countLeadingZeroBits_le x, hclz, fun _ h _ => getLsbD_eq_false_of_countLeadingZeroBits x h,
      getLsbD_eq_true_of_countLeadingZeroBits x⟩,
    ⟨_, by omega, hcls, fun _ h hi => getLsbD_eq_msb_of_countLeadingSignBits x h (Nat.le_sub_one_of_lt hi),
      getLsbD_eq_not_msb_of_countLeadingSignBits x⟩,
    ⟨bitReverse x, .of_oneSource (f := bitReverse) rfl, fun _ => getLsbD_bitReverse x⟩,
    reverses_of_oneSource rfl (datasize_le sf) (.inl rfl),
    reverses_of_oneSource rfl (by decide) (.inr (.inl rfl)), reverses_of_oneSource rfl (by decide) (.inr (.inl rfl)),
    reverses_of_oneSource rfl (by decide) (.inr (.inr rfl)), reverses_of_oneSource rfl (by decide) (.inr (.inr rfl))⟩

end Counting

end Sys2Proof.Machine
end

section
/-! Conditional compare and conditional select (43 R360 to R373). -/

namespace Sys2Proof.Machine

open Sys2Proof.Forms

section

variable {i : Instr} {s : State} {w : Nat} {rm rn rd : Reg} {cond nzcv : BitVec 4}

/-- The four flags, and no register. -/
theorem State.becomes_writeFlags (s : State) (f : Flags) :
    s.Becomes { pstate := some (s.p.withFlags f) } (s.writeFlags f).advance where
  reg r _ := by simp
  zero := by simp
  sp level := by simp
  pstate := by simp
  pc := by simp
  monitor := by simp
  mem a := by simp
  system := (SameSystem.writeFlags s f).trans (SameSystem.advance _)

theorem State.becomes_givenFlags (s : State) (nzcv : BitVec 4) :
    s.Becomes (givenFlags s nzcv) (s.writeFlags (Flags.ofBits nzcv)).advance :=
  s.becomes_writeFlags (Flags.ofBits nzcv)

/-- CCMN compares as ADDS to the zero register does (43 R362). -/
theorem State.becomes_ccmn (s : State) (x y : BitVec w) :
    s.Becomes (sumFlags .nothing s x y) (s.writeFlags (addSub false x y).2).advance :=
  (s.becomes_adds 31#5 x y).flags_of_toReg_zero

/-- CCMP compares as SUBS to the zero register does (43 R364). -/
theorem State.becomes_ccmp (s : State) (x y : BitVec w) (hw : 0 < w) :
    s.Becomes (diffFlags .nothing s x y) (s.writeFlags (addSub true x y).2).advance :=
  (s.becomes_subs 31#5 x y hw).flags_of_toReg_zero

/-- A conditional compare writes what its comparison writes, or the given flags (43 R360(e)). -/
theorem Completes.of_conditionalCompare {sub : Bool} {y : BitVec w} {compared : Writes}
    (hexec : exec i s = conditionalCompare sub w y cond rn nzcv s)
    (hcompared : s.Becomes compared (s.writeFlags (addSub sub (s.readXW w rn) y).2).advance) :
    Completes i s (if conditionHolds s.p.flags cond then compared else givenFlags s nzcv) := by
  refine .of_finish hexec ?_
  split
  case isTrue => exact hcompared
  case isFalse => exact s.becomes_givenFlags nzcv

theorem Completes.of_conditionalSelect {f : BitVec w → BitVec w}
    (hexec : exec i s = conditionalSelect w f rm cond rn rd s) :
    Completes i s (.toReg rd (if conditionHolds s.p.flags cond then s.readXW w rn else f (s.readXW w rm))) :=
  .of_finish hexec (s.becomes_writeX rd _)

/-- CSET and CSETM select between the zero register and a function of it (43 R369, R370). -/
theorem Completes.of_conditionalSelect_zero {f : BitVec w → BitVec w}
    (hexec : exec i s = conditionalSelect w f 31#5 cond 31#5 rd s) :
    Completes i s (.toReg rd (if conditionHolds s.p.flags cond then 0#w else f 0#w)) := by
  simpa only [State.readXW_zero] using Completes.of_conditionalSelect hexec

/-- CSNEG negates by inverting and adding 1 (43 R373). -/
theorem Completes.of_conditionalNegate
    (hexec : exec i s = conditionalSelect w (fun v => ~~~v + BitVec.ofNat w 1) rm cond rn rd s) :
    Completes i s (.toReg rd (if conditionHolds s.p.flags cond then s.readXW w rn else -s.readXW w rm)) :=
  BitVec.neg_eq_not_add (s.readXW w rm) ▸ .of_conditionalSelect hexec

end

/-! ## The obligations -/

namespace Conditional

/-- Settles O29: each comparison is the flag-setting sum or difference whose result goes to the zero register. -/
theorem conditionalCompare : Obligations.ConditionalCompare := by
  intro s sf rm rn imm5 cond nzcv n x y z choose
  have hn : 0 < n := datasize_pos sf
  have hz : imm5.setWidth n = z := (BitVec.ofNat_toNat n imm5).symm
  exact ⟨.of_conditionalCompare rfl (s.becomes_ccmn x y), .of_conditionalCompare rfl (s.becomes_ccmp x y hn),
    .of_conditionalCompare rfl (hz ▸ s.becomes_ccmn x _), .of_conditionalCompare rfl (hz ▸ s.becomes_ccmp x _ hn)⟩

/-- Settles O30: the aliases have the meanings of their bases, and CSET and CSETM those of CSINC and CSINV of the zero
register. -/
theorem conditionalSelect : Obligations.ConditionalSelect := by
  intro s sf rm cond rn rd n x y select
  have hcset : Completes (.cset sf cond rd) s (select 0#n (0#n + 1#n)) :=
    .of_conditionalSelect_zero (f := (· + 1#n)) rfl
  have hcsetm : Completes (.csetm sf cond rd) s (select 0#n (~~~0#n)) :=
    .of_conditionalSelect_zero (f := (~~~·)) rfl
  rw [BitVec.zero_add] at hcset
  rw [BitVec.not_zero] at hcsetm
  exact ⟨.of_conditionalSelect (f := id) rfl, .of_conditionalSelect (f := (· + 1#n)) rfl,
    .of_conditionalSelect (f := (~~~·)) rfl, .of_conditionalNegate rfl,
    .of_conditionalSelect (f := (· + 1#n)) rfl, .of_conditionalSelect (f := (~~~·)) rfl, .of_conditionalNegate rfl,
    hcset, hcsetm⟩

end Conditional

end Sys2Proof.Machine
end

section
/-! Multiplication and division (44 R393 to R408). -/

namespace Sys2Proof.Machine

open Sys2Proof.Forms

/-! ## Operands as exact integers (44 R390(c)) -/

section Operands

/-- An operand that is zero- or sign-extended. -/
def extended {w : Nat} (unsigned : Bool) (n : Nat) (v : BitVec w) : BitVec n :=
  if unsigned then v.setWidth n else v.signExtend n

theorem ofInt_intOf {w : Nat} (unsigned : Bool) (n : Nat) (v : BitVec w) :
    BitVec.ofInt n (intOf unsigned v) = extended unsigned n v := by
  cases unsigned with
  | true => exact (BitVec.ofInt_natCast n v.toNat).trans (BitVec.ofNat_toNat n v)
  | false => rfl

theorem extended_self {w : Nat} (unsigned : Bool) (v : BitVec w) : extended unsigned w v = v := by
  cases unsigned with
  | true => exact BitVec.setWidth_eq v
  | false => exact BitVec.signExtend_eq v

/-- What a multiply-add computes with exact integers is the same computation modulo `2 ^ n`. -/
theorem ofInt_multiplyAdd {w : Nat} (unsigned sub : Bool) {n : Nat} (x y : BitVec w) (a : BitVec n) :
    BitVec.ofInt n (if sub then intOf unsigned a - intOf unsigned x * intOf unsigned y
      else intOf unsigned a + intOf unsigned x * intOf unsigned y) =
    if sub then a - extended unsigned n x * extended unsigned n y
      else a + extended unsigned n x * extended unsigned n y := by
  have hproduct : BitVec.ofInt n (intOf unsigned x * intOf unsigned y) =
      extended unsigned n x * extended unsigned n y := by
    rw [BitVec.ofInt_mul, ofInt_intOf, ofInt_intOf]
  have haddend : BitVec.ofInt n (intOf unsigned a) = a := (ofInt_intOf unsigned n a).trans (extended_self unsigned a)
  cases sub with
  | true =>
    simp only [if_true]
    rw [Int.sub_eq_add_neg, BitVec.ofInt_add, BitVec.ofInt_neg, hproduct, haddend, BitVec.sub_eq_add_neg]
  | false =>
    simp only [Bool.false_eq_true, if_false]
    rw [BitVec.ofInt_add, hproduct, haddend]

/-- The high half of a 128-bit integer is its quotient by `2 ^ 64`, rounded down (44 R401, R407). -/
theorem extractLsb'_ofInt_high (p : Int) :
    (BitVec.ofInt 128 p).extractLsb' 64 64 = BitVec.ofInt 64 (p / 2 ^ 64) := by
  apply BitVec.eq_of_toNat_eq
  rw [BitVec.extractLsb'_toNat, BitVec.toNat_ofInt, BitVec.toNat_ofInt, Nat.shiftRight_eq_div_pow]
  omega

end Operands

/-! ## How the instructions complete -/

section Completes

variable {i : Instr} {s : State} {rm ra rn rd : Reg} {sf : BitVec 1} {sub unsigned : Bool}

theorem Completes.of_multiplyAdd (hexec : exec i s = multiplyAdd sub sf rm ra rn rd s) :
    Completes i s (.toReg rd
      (if sub then s.readXW (datasize sf) ra - s.readXW (datasize sf) rn * s.readXW (datasize sf) rm
        else s.readXW (datasize sf) ra + s.readXW (datasize sf) rn * s.readXW (datasize sf) rm)) := by
  have hvalue := ofInt_multiplyAdd true sub (s.readXW (datasize sf) rn) (s.readXW (datasize sf) rm)
    (s.readXW (datasize sf) ra)
  rw [extended_self, extended_self] at hvalue
  exact hvalue ▸ .of_finish hexec (s.becomes_writeX rd _)

/-- A multiply-add with the zero register only multiplies (44 R394, R396). -/
theorem Completes.of_multiply (hexec : exec i s = multiplyAdd sub sf rm 31#5 rn rd s) :
    Completes i s (.toReg rd (if sub then -(s.readXW (datasize sf) rn * s.readXW (datasize sf) rm)
      else s.readXW (datasize sf) rn * s.readXW (datasize sf) rm)) := by
  simpa only [State.readXW_zero, BitVec.zero_sub, BitVec.zero_add] using Completes.of_multiplyAdd hexec

theorem Completes.of_multiplyAddLong (hexec : exec i s = multiplyAddLong unsigned sub rm ra rn rd s) :
    Completes i s (.toReg rd
      (if sub then s.readX ra - extended unsigned 64 (s.readXW 32 rn) * extended unsigned 64 (s.readXW 32 rm)
        else s.readX ra + extended unsigned 64 (s.readXW 32 rn) * extended unsigned 64 (s.readXW 32 rm))) :=
  ofInt_multiplyAdd unsigned sub (s.readXW 32 rn) (s.readXW 32 rm) (s.readX ra) ▸
    .of_finish hexec (s.becomes_writeX rd _)

/-- A long multiply-add with the zero register only multiplies (44 R399, R402, R405, R408). -/
theorem Completes.of_multiplyLong (hexec : exec i s = multiplyAddLong unsigned sub rm 31#5 rn rd s) :
    Completes i s (.toReg rd
      (if sub then -(extended unsigned 64 (s.readXW 32 rn) * extended unsigned 64 (s.readXW 32 rm))
        else extended unsigned 64 (s.readXW 32 rn) * extended unsigned 64 (s.readXW 32 rm))) := by
  simpa only [State.readX_zero, BitVec.zero_sub, BitVec.zero_add] using Completes.of_multiplyAddLong hexec

theorem Completes.of_multiplyHigh (hexec : exec i s = multiplyHigh unsigned rm rn rd s) :
    Completes i s (.toReg rd
      (BitVec.ofInt 64 (intOf unsigned (s.readX rn) * intOf unsigned (s.readX rm) / 2 ^ 64))) :=
  extractLsb'_ofInt_high _ ▸ .of_finish hexec (s.becomes_writeX rd _)

/-- The division towards zero gives 0 for a divisor of 0 by itself (44 R397, R403). -/
theorem Completes.of_divide (hexec : exec i s = divide unsigned sf rm rn rd s) :
    Completes i s (.toReg rd (BitVec.ofInt (datasize sf)
      ((intOf unsigned (s.readXW (datasize sf) rn)).tdiv (intOf unsigned (s.readXW (datasize sf) rm))))) := by
  have hzero (x y : Int) : (if y = 0 then 0 else x.tdiv y) = x.tdiv y :=
    ite_eq_right_iff.mpr fun hy => by rw [hy, Int.tdiv_zero]
  exact hzero _ _ ▸ .of_finish hexec (s.becomes_writeX rd _)

end Completes

/-! ## The obligation -/

namespace MulDiv

/-- Settles O31: each result is an exact integer, taken modulo the operand size. -/
theorem multiplyDivide : Obligations.MultiplyDivide := by
  intro s sf rm ra rn rd n x y a long signed unsigned high
  have hudiv : BitVec.ofInt n ((x.toNat : Int).tdiv y.toNat) = BitVec.ofNat n (x.toNat / y.toNat) := by
    rw [← Int.ofNat_tdiv, BitVec.ofInt_natCast]
  exact ⟨.of_multiplyAdd (sub := false) rfl, .of_multiplyAdd (sub := true) rfl,
    .of_multiply (sub := false) rfl, .of_multiply (sub := true) rfl,
    .of_multiplyAddLong (sub := false) (unsigned := false) rfl,
    .of_multiplyAddLong (sub := true) (unsigned := false) rfl,
    .of_multiplyLong (sub := false) (unsigned := false) rfl, .of_multiplyLong (sub := true) (unsigned := false) rfl,
    .of_multiplyAddLong (sub := false) (unsigned := true) rfl,
    .of_multiplyAddLong (sub := true) (unsigned := true) rfl,
    .of_multiplyLong (sub := false) (unsigned := true) rfl, .of_multiplyLong (sub := true) (unsigned := true) rfl,
    .of_multiplyHigh (unsigned := false) rfl, .of_multiplyHigh (unsigned := true) rfl,
    hudiv ▸ .of_divide (unsigned := true) rfl, .of_divide (unsigned := false) rfl⟩

end MulDiv

end Sys2Proof.Machine
end

section
/-! CRC32 and CRC32C: the reduction of a polynomial over the two-element field (00 R19; 44 R391, R392). -/

namespace Sys2Proof.Machine

open Sys2Proof.Forms

/-! ## Products of polynomials -/

section PolyMul

variable {w : Nat}

theorem polyMul_below_succ (q p : BitVec w) (k : Nat) :
    polyMul.below q p (k + 1) = polyMul.below q p k ^^^ (if q.getLsbD k then p <<< k else 0#w) := rfl

theorem polyMul_below_xor (q p p' : BitVec w) (k : Nat) :
    polyMul.below q (p ^^^ p') k = polyMul.below q p k ^^^ polyMul.below q p' k := by
  induction k with
  | zero => exact BitVec.xor_zero.symm
  | succ k ih =>
    rw [polyMul_below_succ, polyMul_below_succ, polyMul_below_succ, ih]
    split
    · rw [BitVec.shiftLeft_xor_distrib]
      ac_rfl
    · simp only [BitVec.xor_zero]

theorem polyMul_xor (q p p' : BitVec w) : polyMul q (p ^^^ p') = polyMul q p ^^^ polyMul q p' :=
  polyMul_below_xor q p p' w

/-- The bits of the multiplier from `m` on add nothing to the product when they are clear. -/
theorem polyMul_eq_below (q p : BitVec w) {m : Nat} (hm : m ≤ w) (hq : ∀ k, m ≤ k → q.getLsbD k = false) :
    polyMul q p = polyMul.below q p m := by
  suffices h : ∀ k, m ≤ k → polyMul.below q p k = polyMul.below q p m from h w hm
  intro k hk
  induction k, hk using Nat.le_induction with
  | base => rfl
  | succ k hk ih => rw [polyMul_below_succ, hq k hk, ih, if_neg Bool.false_ne_true, BitVec.xor_zero]

theorem getLsbD_polyMul_below_twoPow (q : BitVec w) (m k i : Nat) :
    (polyMul.below q (BitVec.twoPow w m) k).getLsbD i = (decide (i < m + k) && (q <<< m).getLsbD i) := by
  induction k with
  | zero => by_cases h : i < m <;> simp [polyMul.below, h]
  | succ k ih =>
    have hshift : BitVec.twoPow w m <<< k = BitVec.twoPow w (m + k) := (BitVec.shiftLeft_add _ m k).symm
    have hstep : (if q.getLsbD k then BitVec.twoPow w (m + k) else 0#w).getLsbD i =
        (decide (i = m + k) && (q <<< m).getLsbD i) := by
      by_cases hi : i = m + k
      · cases hq : q.getLsbD k <;> simp [BitVec.getLsbD_twoPow, hi, hq]
      · cases q.getLsbD k <;> simp [BitVec.getLsbD_twoPow, hi, Ne.symm hi]
    have hrange : decide (i < m + (k + 1)) = (decide (i < m + k) ^^ decide (i = m + k)) := by
      rcases Nat.lt_trichotomy i (m + k) with h | h | h
      · simp [h, h.ne, ← Nat.add_assoc, Nat.lt_succ_of_lt h]
      · simp [h]
      · have hnot : ¬i < m + (k + 1) := by omega
        simp [h.ne', h.not_gt, hnot]
    rw [polyMul_below_succ, hshift, BitVec.getLsbD_xor, ih, hstep, ← Bool.and_xor_distrib_right, hrange]

/-- To multiply by a power of the variable is to shift. -/
theorem polyMul_twoPow (q : BitVec w) (m : Nat) : polyMul q (BitVec.twoPow w m) = q <<< m := by
  apply BitVec.eq_of_getLsbD_eq
  intro i hi
  rw [polyMul, getLsbD_polyMul_below_twoPow, decide_eq_true (by omega), Bool.true_and]

end PolyMul

/-! ## The reduction -/

section Reduction

variable {w : Nat} (poly : BitVec 32)

theorem polyReduce_succ (k : Nat) (data : BitVec w) :
    polyReduce poly (k + 1) data =
      polyReduce poly k (data ^^^ if data.getLsbD (32 + k) then poly.setWidth w <<< k else 0#w) := by
  rw [polyReduce]
  split
  · rfl
  · rw [BitVec.xor_zero]

/-- A shifted divisor without its leading bit leaves alone all bits from the leading one on. -/
theorem getLsbD_xor_divisor (data : BitVec w) (c : Bool) {k i : Nat} (hi : 32 + k ≤ i) :
    (data ^^^ if c then poly.setWidth w <<< k else 0#w).getLsbD i = data.getLsbD i := by
  cases c with
  | true => simp [BitVec.getLsbD_of_ge poly (i - k) (by omega)]
  | false => simp

theorem getLsbD_polyReduce_of_le (k : Nat) (data : BitVec w) {i : Nat} (hi : 32 + k ≤ i) :
    (polyReduce poly k data).getLsbD i = data.getLsbD i := by
  induction k generalizing data with
  | zero => rfl
  | succ k ih => rw [polyReduce_succ, ih _ (by omega), getLsbD_xor_divisor poly data _ (by omega)]

/-- Each step adds the shifted divisor without its leading bit, so the leading bits that were set remain: they are the
quotient, and the result is the data with the quotient's multiple of the divisor's other bits added. -/
theorem polyReduce_xor_below (k : Nat) (data : BitVec w) :
    polyReduce poly k data ^^^ polyMul.below (polyReduce poly k data >>> 32) (poly.setWidth w) k = data := by
  induction k generalizing data with
  | zero => exact BitVec.xor_zero
  | succ k ih =>
    rw [polyReduce_succ, polyMul_below_succ, BitVec.getLsbD_ushiftRight,
      getLsbD_polyReduce_of_le poly k _ (Nat.le_refl _), getLsbD_xor_divisor poly data _ (Nat.le_refl _),
      ← BitVec.xor_assoc, ih, BitVec.xor_assoc, BitVec.xor_self, BitVec.xor_zero]

/-- The divisor is its leading power and the rest. -/
theorem divisor_eq : (1#1 ++ poly).setWidth w = BitVec.twoPow w 32 ^^^ poly.setWidth w := by
  apply BitVec.eq_of_getLsbD_eq
  intro i hi
  rw [BitVec.getLsbD_setWidth, BitVec.getLsbD_append, BitVec.getLsbD_xor, BitVec.getLsbD_twoPow,
    BitVec.getLsbD_setWidth, decide_eq_true hi, Bool.true_and, Bool.true_and]
  rcases Nat.lt_trichotomy i 32 with h | rfl | h
  · simp [h, h.ne']
  · simp [hi]
  · have htop : i - 32 ≠ 0 := by omega
    simp [h.not_gt, h.ne, htop, BitVec.getLsbD_of_ge poly i h.le]

theorem polyMul_divisor (q : BitVec w) :
    polyMul q ((1#1 ++ poly).setWidth w) = q <<< 32 ^^^ polyMul q (poly.setWidth w) := by
  rw [divisor_eq, polyMul_xor, polyMul_twoPow]

theorem eq_high_xor_low (v : BitVec w) : v = (v >>> 32) <<< 32 ^^^ (v.setWidth 32).setWidth w := by
  apply BitVec.eq_of_getLsbD_eq
  intro i hi
  rcases Nat.lt_or_ge i 32 with h | h
  · simp [h, hi]
  · simp [h.not_gt, hi, Nat.add_sub_cancel' h]

/-- `Poly32Mod2` is the remainder of the division by `x^32 + poly` (00 R19): the bits above the remainder are the
quotient. -/
theorem poly32Mod2_isRemainder (data : BitVec w) (hw : 32 ≤ w) : IsRemainder data poly (poly32Mod2 data poly) := by
  have hdata := polyReduce_xor_below poly (w - 32) data
  rw [poly32Mod2]
  generalize polyReduce poly (w - 32) data = v at hdata
  have hlt : (v >>> 32).toNat < 2 ^ (w - 32) := BitVec.toNat_ushiftRight_lt v 32 hw
  have hbelow : polyMul (v >>> 32) (poly.setWidth w) = polyMul.below (v >>> 32) (poly.setWidth w) (w - 32) :=
    polyMul_eq_below _ _ (Nat.sub_le w 32) fun k hk =>
      Nat.testBit_lt_two_pow (hlt.trans_le (Nat.pow_le_pow_right Nat.two_pos hk))
  refine ⟨v >>> 32, hlt, ?_⟩
  calc data
    _ = v ^^^ polyMul (v >>> 32) (poly.setWidth w) := (hbelow ▸ hdata).symm
    _ = ((v >>> 32) <<< 32 ^^^ (v.setWidth 32).setWidth w) ^^^ polyMul (v >>> 32) (poly.setWidth w) :=
      congrArg (· ^^^ _) (eq_high_xor_low v)
    _ = polyMul (v >>> 32) ((1#1 ++ poly).setWidth w) ^^^ (v.setWidth 32).setWidth w := by
      rw [polyMul_divisor, BitVec.xor_assoc, BitVec.xor_assoc, BitVec.xor_comm (polyMul _ _)]

end Reduction

/-! ## The instructions -/

theorem bitReverse_eq_reverse {w : Nat} (v : BitVec w) : bitReverse v = v.reverse := by
  apply BitVec.eq_of_getLsbD_eq
  intro i hi
  rw [getLsbD_bitReverse v hi, BitVec.getLsbD_reverse, BitVec.getMsbD_eq_getLsbD, decide_eq_true hi, Bool.true_and]

/-- The polynomial of a CRC: the reversed accumulator above `size` clear bits, added to the reversed value above 32
clear bits (44 R391). -/
def crcData {size : Nat} (acc : BitVec 32) (v : BitVec size) : BitVec (32 + size) :=
  (acc.reverse ++ 0#size) ^^^ (v.reverse ++ 0#32).setWidth (32 + size)

/-- To shift by 32 is to append 32 clear bits. -/
theorem shiftLeft_eq_append {size : Nat} (v : BitVec size) :
    v.setWidth (32 + size) <<< 32 = (v ++ 0#32).setWidth (32 + size) := by
  apply BitVec.eq_of_getLsbD_eq
  intro i hi
  rcases Nat.lt_or_ge i 32 with h | h
  · simp [BitVec.getLsbD_append, h]
  · simp [BitVec.getLsbD_append, hi, h.not_gt]

theorem crc32Value_eq (poly acc : BitVec 32) (val : DWord) (size : Nat) :
    crc32Value poly acc val size = (poly32Mod2 (crcData acc (val.setWidth size)) poly).reverse := by
  simp only [crc32Value, crcData, bitReverse_eq_reverse, shiftLeft_eq_append]

section Completes

variable {i : Instr} {s : State} {poly : BitVec 32} {sf : BitVec 1} {rm : Reg} {sz : BitVec 2} {rn rd : Reg}

theorem crcSize_of_iff (h : sf = 1#1 ↔ sz = 3#2) : crcSize sf sz = some (8 * 2 ^ sz.toNat) :=
  (if_pos h).trans (congrArg some (Nat.shiftLeft_eq 8 sz.toNat))

theorem Completes.of_crcUpdate (hexec : exec i s = crcUpdate poly sf rm sz rn rd s) (hsize : sf = 1#1 ↔ sz = 3#2)
    (hcrc : s.cfg.haveCRC = true) : ∃ r, IsRemainder
      (crcData (s.readXW 32 rn) (s.readXW (8 * 2 ^ sz.toNat) rm)) poly r ∧ Completes i s (.toReg rd r.reverse) := by
  refine ⟨_, poly32Mod2_isRemainder poly _ (Nat.le_add_right 32 _), ?_⟩
  refine .of_finish (hexec.trans ?_) (s.becomes_writeX rd _)
  rw [crcUpdate, crcSize_of_iff hsize, hcrc]
  exact congrArg (fun v => finish s (.ok (s.writeX rd v))) (crc32Value_eq poly _ _ _)

theorem Traps.of_crcUpdate (hexec : exec i s = crcUpdate poly sf rm sz rn rd s) (hcrc : s.cfg.haveCRC = false) :
    Traps i s .undefined := by
  refine .of_raise (hexec.trans ?_)
  rw [crcUpdate, hcrc]
  cases crcSize sf sz <;> rfl

end Completes

/-! ## The obligation -/

namespace Crc

/-- Settles O32: what the reduction leaves above the remainder is the quotient of the division. -/
theorem crc32Results : Obligations.Crc32Results := fun _ _ _ _ _ _ hsize =>
  ⟨fun hcrc => ⟨Completes.of_crcUpdate rfl hsize hcrc, Completes.of_crcUpdate rfl hsize hcrc⟩,
    fun hcrc => ⟨.of_crcUpdate rfl hcrc, .of_crcUpdate rfl hcrc⟩⟩

end Crc

end Sys2Proof.Machine
end

section
/-! Branches (45 R430 to R440). -/

namespace Sys2Proof.Machine

open Sys2Proof.Forms

/-! ## Operands -/

/-- Two zero bits below the immediate make it a count of words (45 R430(a)). -/
theorem wordOffset_eq_words {n : Nat} (imm : BitVec n) : wordOffset imm = words imm :=
  (signExtend_append_zero imm).trans (congrArg (BitVec.ofInt 64) (Int.mul_comm imm.toInt 4))

theorem toNat_append_testBit (sf : BitVec 1) (b40 : BitVec 5) :
    (sf ++ b40).toNat = 32 * sf.toNat + b40.toNat := by
  rw [BitVec.toNat_append, Nat.shiftLeft_eq, Nat.mul_comm, ← Nat.two_pow_add_eq_or_of_lt b40.isLt]

/-- The top bit of the bit number is also the width, so the bit is always one of the operand's (45 R439). -/
theorem testBit_lt_datasize (sf : BitVec 1) (b40 : BitVec 5) : 32 * sf.toNat + b40.toNat < datasize sf := by
  have hb40 : b40.toNat < 32 := b40.isLt
  rcases sf.eq_zero_or_eq_one with rfl | rfl
  case inl =>
    change 32 * 0 + b40.toNat < 32
    omega
  case inr =>
    change 32 * 1 + b40.toNat < 64
    omega

/-- The bit that TBZ and TBNZ test is the bit of that number in the whole register. -/
theorem State.getLsbD_readXW_testBit (s : State) (rt : Reg) (sf : BitVec 1) (b40 : BitVec 5) :
    (s.readXW (datasize sf) rt).getLsbD (sf ++ b40).toNat = (s.readX rt).getLsbD (32 * sf.toNat + b40.toNat) := by
  rw [State.readXW, BitVec.getLsbD_setWidth, toNat_append_testBit, decide_eq_true (testBit_lt_datasize sf b40),
    Bool.true_and]

/-! ## How a branch completes -/

section Completes

variable {i : Instr} {s t : State} {w : Writes} {target : Addr}

/-- The same writes with a branch in place of the move to the next instruction. -/
theorem State.Becomes.branch (h : s.Becomes w t.advance) (target : Addr) :
    s.Becomes { w with pc := some target } (t.branch target) :=
  { h with pc := rfl, system := { h.system with } }

theorem Completes.of_jump (hexec : exec i s = branchTo false target s) : Completes i s (.jump target) :=
  ⟨s.branch target, hexec, s.becomes_branch target⟩

/-- A call writes the return address, then branches to a target that was read before (45 R434). -/
theorem Completes.of_call (hexec : exec i s = branchTo true target s) :
    Completes i s { Writes.toReg 30#5 (s.pc + 4#64) with pc := some target } :=
  ⟨(s.writeX 30#5 s.link).branch target, hexec, (s.becomes_writeX 30#5 s.link).branch target⟩

/-- A branch whose test fails goes to the next instruction (45 R430(c)). -/
theorem Completes.of_branchIf {test taken : Bool} {n : Nat} {imm : BitVec n}
    (hexec : exec i s = branchIf test (wordOffset imm) s) (htest : test = taken) :
    Completes i s (if taken then .jump (s.pc + words imm) else .nothing) := by
  subst htest
  rw [wordOffset_eq_words] at hexec
  refine ⟨_, hexec, ?_⟩
  split
  case isTrue => exact s.becomes_branch _
  case isFalse => exact s.becomes_nothing

end Completes

/-! ## The obligation -/

namespace Branch

/-- Settles O33: BR and RET are one jump, BL and BLR one call, and the other forms differ only in their test. -/
theorem branches : Obligations.Branches := by
  intro s sf imm26 imm19 imm14 cond b40 rn rt n branchIf isZero bit
  have hoffset : wordOffset imm26 = words imm26 := wordOffset_eq_words imm26
  have hbit : (s.readXW n rt).getLsbD (sf ++ b40).toNat = bit := s.getLsbD_readXW_testBit rt sf b40
  exact ⟨hoffset ▸ .of_jump rfl, hoffset ▸ .of_call rfl, .of_branchIf rfl rfl,
    .of_jump rfl, .of_jump rfl, .of_call rfl,
    .of_branchIf rfl (beq_true isZero), .of_branchIf rfl (beq_false isZero),
    .of_branchIf rfl (hbit ▸ beq_false bit), .of_branchIf rfl (hbit ▸ beq_true bit)⟩

end Branch

end Sys2Proof.Machine
end

section
/-! Loads and stores of one register or of a pair: what each access does when it is allowed and when it is not, and where
an overlap of the base with a transfer register sends it (46 R460 to R529; 47 R540 to R545). -/

namespace Sys2Proof.Machine

open Sys2Proof.Forms

/-! ## Offsets (46 R460(c), 47 R540(b)) -/

theorem shiftLeft_eq_mul_ofNat (v : DWord) (k : Nat) : v <<< k = v * BitVec.ofNat 64 (2 ^ k) := by
  have htwo : BitVec.twoPow 64 k = BitVec.ofNat 64 (2 ^ k) := BitVec.eq_of_toNat_eq (by simp [BitVec.toNat_twoPow])
  rw [BitVec.shiftLeft_eq_mul_twoPow, htwo]

theorem scaledOffset_eq (imm12 : BitVec 12) (scale : Nat) :
    scaledOffset imm12 scale = BitVec.ofNat 64 (imm12.toNat * 2 ^ scale) := by
  rw [scaledOffset, ← BitVec.ofNat_toNat, shiftLeft_eq_mul_ofNat, ← BitVec.ofNat_mul]

theorem pairOffset_eq (imm7 : BitVec 7) (scale : Nat) :
    pairOffset imm7 scale = BitVec.ofInt 64 (imm7.toInt * (2 ^ scale : Nat)) := by
  rw [pairOffset, BitVec.signExtend, shiftLeft_eq_mul_ofNat, BitVec.ofInt_mul,
    BitVec.ofInt_natCast]

theorem wordBytes_eq (size0 : BitVec 1) : wordBytes size0 = 2 ^ wordScale size0 := by
  unfold wordBytes wordScale
  split <;> rfl

theorem wordBytes_le (size0 : BitVec 1) : wordBytes size0 ≤ 8 := by
  unfold wordBytes
  split <;> omega

theorem scaledOffset_wordScale (imm12 : BitVec 12) (size0 : BitVec 1) :
    scaledOffset imm12 (wordScale size0) = BitVec.ofNat 64 (imm12.toNat * wordBytes size0) := by
  rw [scaledOffset_eq, wordBytes_eq]

theorem pairOffset_wordScale (imm7 : BitVec 7) (size0 : BitVec 1) :
    pairOffset imm7 (wordScale size0) = BitVec.ofInt 64 (imm7.toInt * wordBytes size0) := by
  rw [pairOffset_eq, wordBytes_eq]

theorem indexOffset_eq_some (s : State) (rm : Reg) {option : BitVec 3} (h : option.getLsbD 1 = true) (shift : Nat) :
    s.indexOffset rm option shift = some (Forms.extended (s.readX rm) option shift) := by
  rw [State.indexOffset, if_pos h, extendValue_eq_extended _ (le_refl 64)]

/-! ## Extensions (46 R460(e)) -/

section Extensions

variable {n : Nat} {opc0 : BitVec 1} (v : BitVec n)

theorem Extension.apply_zero : Extension.zero.apply v = zx v := rfl

theorem Extension.apply_signedTo : (signedTo opc0).apply v = sx opc0 v := by
  unfold signedTo sx
  split
  · rfl
  · exact BitVec.setWidth_eq _

theorem Extension.apply_sign_64 : (Extension.sign 64).apply v = sx 0#1 v := BitVec.setWidth_eq _

end Extensions

/-! ## Addressing forms -/

/-- The addressing form of an access made before (`pre`) or after the write of its base. -/
def Indexing.ofPre (pre : Bool) : Indexing := if pre then .pre else .post

theorem Indexing.ofPre_writesBack (pre : Bool) : (Indexing.ofPre pre).writesBack = true := by cases pre <;> rfl

theorem Indexing.ofPre_writeback (pre : Bool) : (Indexing.ofPre pre).writeback = .address := by cases pre <;> rfl

theorem Indexing.ofPre_address (pre : Bool) (base offset : Addr) :
    (Indexing.ofPre pre).address base offset = if pre then base + offset else base := by
  cases pre <;> rfl

end Sys2Proof.Machine

namespace Sys2Proof.Forms

open Sys2Proof.Machine

/-- The addressing form of the machine. -/
def PairForm.indexing : PairForm → Indexing
  | .offset => .offset
  | .pre => .pre
  | .post => .post

theorem PairForm.indexing_writesBack {form : PairForm} (h : form ≠ .offset) : form.indexing.writesBack = true := by
  cases form with
  | offset => exact absurd rfl h
  | pre => rfl
  | post => rfl

theorem PairForm.indexing_writeback {form : PairForm} (h : form ≠ .offset) : form.indexing.writeback = .address := by
  rw [Indexing.writeback, indexing_writesBack h, if_pos rfl]

theorem PairForm.indexing_address (form : PairForm) (s : State) (rn : Reg) (offset : Addr) :
    form.indexing.address (s.readXsp rn) offset = form.address s rn offset := by
  cases form <;> rfl

end Sys2Proof.Forms

namespace Sys2Proof.Machine

open Sys2Proof.Forms

/-! ## UNKNOWN values -/

theorem State.setSpOf_drawn (s : State) (count : Nat) (level : EL) (v : DWord) :
    (s.drawn count).setSpOf level v = (s.setSpOf level v).drawn count := by
  cases level <;> rfl

theorem State.writeXsp_drawn {w : Nat} (s : State) (count : Nat) (r : Reg) (v : BitVec w) :
    (s.drawn count).writeXsp r v = (s.writeXsp r v).drawn count := by
  unfold State.writeXsp State.writeSp State.writeX
  split
  · exact s.setSpOf_drawn count _ _
  · split <;> rfl

/-- A writeback that makes the base UNKNOWN draws one value (log 34). -/
theorem State.writeBack_unknown (s : State) (n : Reg) (a : Addr) :
    s.writeBack .unknown n a = (s.writeXsp n s.unknown).drawn 1 :=
  s.writeXsp_drawn 1 n s.unknown

/-- An instruction that draws UNKNOWN values completes but for their count. -/
theorem CompletesDrawing.of_finish {i : Instr} {s t : State} {w : Writes} {count : Nat}
    (hexec : exec i s = finish s (.ok (t.drawn count))) (h : s.Becomes w t.advance) : CompletesDrawing i s w := by
  refine ⟨(t.drawn count).advance, hexec, ?_⟩
  have hdraws : s.draws = t.draws := h.system.draws.symm
  rw [hdraws]
  exact h

/-- A register that is written as the base after it was loaded holds the base (log 34). -/
theorem Writes.toReg_base {n : Nat} {v : BitVec n} {r : Reg} {a : Addr} (hr : r ≠ 31#5) :
    (Writes.toReg r v).base r a = .toReg r a := by
  rw [Writes.base, if_neg hr]
  simp only [Writes.toReg, BitVec.setWidth_eq]
  congr 1
  funext q
  split <;> rfl

/-! ## Accesses that abort -/

/-- The checks of an access give the abort that 60 R803(8) and R812 say. -/
theorem State.checkAccess_of_accessAbort {s : State} {a : Addr} {n : Nat} {acc : AccType} {kind : AccessKind} {rmw : Bool}
    {P : Prop} (hrmw : rmw = true ↔ P) {e : Exc} (h : AccessAbort s a n acc kind P e) :
    s.checkAccess a n acc kind rmw = .error e := by
  have hwnr {wnr : Bool} (h : wnr = true ↔ kind = .write ∧ ¬P) : (decide (kind = .write) && !rmw) = wnr := by
    rw [Bool.eq_iff_iff, h, ← hrmw]
    simp
  unfold State.checkAccess
  rcases h with ⟨haligned, wnr, hw, rfl⟩ | ⟨haligned, k, wnr, ⟨hk, hbefore, hbad⟩, hw, rfl⟩ |
    ⟨haligned, hmapped, k, wnr, ⟨hk, hbefore, hbad⟩, hw, rfl⟩
  case inl =>
    have hmis : s.misaligned a n acc = true := by
      simpa only [Bool.not_eq_false] using mt State.misaligned_eq_false.mp haligned
    simp only [hmis, if_true, hwnr hw]
  case inr.inl =>
    have hfirst : firstByte (fun b => !s.mapped b) a n = some (a + BitVec.ofNat 64 k) :=
      firstByte_eq_some hk (fun j hj => by simp [hbefore j hj]) (by simpa using hbad)
    simp only [State.misaligned_eq_false.mpr haligned, hfirst, hwnr hw, Bool.false_eq_true, if_false]
  case inr.inr =>
    have hnone : firstByte (fun b => !s.mapped b) a n = none := firstByte_eq_none.mpr fun j hj => by simp [hmapped j hj]
    have hfirst : firstByte (fun b => !s.permits acc kind b) a n = some (a + BitVec.ofNat 64 k) :=
      firstByte_eq_some hk (fun j hj => by simp [State.permits_eq_true.mpr (hbefore j hj)])
        (by simpa using mt State.permits_eq_true.mp hbad)
    have hw : (decide (kind = .write) && (!rmw || s.permits acc .read (a + BitVec.ofNat 64 k))) = wnr := by
      rw [Bool.eq_iff_iff, hw, ← hrmw, ← State.permits_eq_true]
      cases rmw <;> simp
    simp only [State.misaligned_eq_false.mpr haligned, hnone, hfirst, hw, Bool.false_eq_true, if_false]

section PlainAborts

variable {s : State} {a : Addr} {n : Nat} {acc : AccType} {kind : AccessKind} {e : Exc}

theorem State.checkAccess_of_plainAbort (h : AccessAbort s a n acc kind False e) :
    s.checkAccess a n acc kind false = .error e :=
  State.checkAccess_of_accessAbort (by simp) h

theorem State.memRead_of_accessAbort (h : AccessAbort s a n acc .read False e) : s.memRead a n acc = .error e := by
  rw [State.memRead, State.checkAccess_of_plainAbort h]

theorem State.memWrite_of_accessAbort {w : Nat} {v : BitVec w} (h : AccessAbort s a n acc .write False e) :
    s.memWrite a n v acc = .error e := by
  rw [State.memWrite, State.checkAccess_of_plainAbort h]

end PlainAborts

/-! ## The choice where the base is a transfer register (46 R461 step 1; 47 R540(d) step 1) -/

section Choices

variable {i : Instr} {s : State} {overlap : Bool}

/-- A load that overwrites its base does what the implementation chose. -/
theorem loadWriteback_choices {mode : Indexing} {k : Writeback → Result}
    (hexec : exec i s = atLoadWriteback s overlap mode k) (hover : overlap = true) :
    let choice := s.cfg.constrain.ldWbackOverlap
    (choice = .undef → Traps i s .undefined) ∧ (choice = .nop → Completes i s .nothing) ∧
    (choice = .wbSuppress → exec i s = k .none) ∧ (choice = .unknown → exec i s = k .unknown) := by
  rw [atLoadWriteback, if_pos hover] at hexec
  refine ⟨fun h => .of_raise ?_, fun h => ⟨s.advance, ?_, s.becomes_nothing⟩, fun h => ?_, fun h => ?_⟩
  all_goals rw [hexec, h]

/-- A store of its base does what the implementation chose. -/
theorem storeWriteback_choices {k : Bool → Result} (hexec : exec i s = atStoreWriteback s overlap k)
    (hover : overlap = true) :
    let choice := s.cfg.constrain.stWbackOverlap
    (choice = .undef → Traps i s .undefined) ∧ (choice = .nop → Completes i s .nothing) ∧
    (choice = .none → exec i s = k false) ∧ (choice = .unknown → exec i s = k true) := by
  rw [atStoreWriteback, if_pos hover] at hexec
  refine ⟨fun h => .of_raise ?_, fun h => ⟨s.advance, ?_, s.becomes_nothing⟩, fun h => ?_, fun h => ?_⟩
  all_goals rw [hexec, h]

/-- A base that is not written, the stack pointer, and a register that is not transferred meet no overlap. -/
theorem overlap_eq_false {writesBack : Bool} {n t : Reg} (h : writesBack = true → n = 31#5 ∨ n ≠ t) :
    (writesBack && decide (n = t) && decide (n ≠ 31#5)) = false := by
  cases writesBack with
  | false => rfl
  | true =>
    rcases h rfl with rfl | h
    · exact Bool.and_false _
    · rw [decide_eq_false h, Bool.and_false, Bool.false_and]

theorem Traps.of_finish {e : Exc} (hexec : exec i s = finish s (.error e)) : Traps i s e := hexec

end Choices

/-! ## Loads of one register -/

section LoadOne

/-- A load of one register, once it is known what becomes of its base (46 R461 steps 2 to 5). -/
def State.loadOne (s : State) (bytes : Nat) (ext : Extension) (acc : AccType) (mode : Indexing) (n t : Reg) (offset : Addr)
    (wb : Writeback) : Except Exc State := do
  let base ← s.baseAddress n
  let data ← s.memRead (mode.address base offset) bytes acc
  return (s.writeX t (ext.apply data)).writeBack wb n (base + offset)

variable {s : State} {bytes : Nat} {ext : Extension} {acc : AccType} {mode : Indexing} {n t : Reg} {offset a : Addr}
  {wb : Writeback}

theorem loadRegister_eq : loadRegister bytes ext acc mode n t offset s =
    atLoadWriteback s (mode.writesBack && decide (n = t) && decide (n ≠ 31#5)) mode fun wb =>
      finish s (s.loadOne bytes ext acc mode n t offset wb) := rfl

theorem loadRegister_apart (h : mode.writesBack = true → n = 31#5 ∨ n ≠ t) :
    loadRegister bytes ext acc mode n t offset s =
      finish s (s.loadOne bytes ext acc mode n t offset mode.writeback) := by
  rw [loadRegister_eq, overlap_eq_false h]
  rfl

theorem State.loadOne_ok (hb : s.BaseReady n) (haddr : mode.address (s.readXsp n) offset = a)
    (ha : s.Allowed a bytes acc .read) : s.loadOne bytes ext acc mode n t offset wb =
      .ok ((s.writeX t (ext.apply (s.loadBytes a bytes))).writeBack wb n (s.readXsp n + offset)) := by
  rw [State.loadOne, State.baseAddress_ok hb, Except.ok_bind, haddr, State.memRead_ok ha]
  rfl

theorem State.loadOne_error (hb : s.BaseReady n) (haddr : mode.address (s.readXsp n) offset = a) {e : Exc}
    (he : AccessAbort s a bytes acc .read False e) : s.loadOne bytes ext acc mode n t offset wb = .error e := by
  rw [State.loadOne, State.baseAddress_ok hb, Except.ok_bind, haddr, State.memRead_of_accessAbort he]
  rfl

end LoadOne

/-! ## Stores of one register -/

section StoreOne

/-- A store of one register, once it is known whether the value is UNKNOWN (46 R461 steps 2 to 5). -/
def State.storeOne (s : State) (bytes : Nat) (acc : AccType) (mode : Indexing) (n t : Reg) (offset : Addr)
    (isUnknown : Bool) : Except Exc State := do
  let base ← s.baseAddress n
  let stored ← s.memWrite (mode.address base offset) bytes (if isUnknown then s.unknown else s.readX t) acc
  return (stored.drawn (if isUnknown then 1 else 0)).writeBack mode.writeback n (base + offset)

variable {s : State} {bytes : Nat} {acc : AccType} {mode : Indexing} {n t : Reg} {offset a : Addr} {isUnknown : Bool}

theorem storeRegister_eq : storeRegister bytes acc mode n t offset s =
    atStoreWriteback s (mode.writesBack && decide (n = t) && decide (n ≠ 31#5)) fun isUnknown =>
      finish s (s.storeOne bytes acc mode n t offset isUnknown) := rfl

theorem storeRegister_apart (h : mode.writesBack = true → n = 31#5 ∨ n ≠ t) :
    storeRegister bytes acc mode n t offset s = finish s (s.storeOne bytes acc mode n t offset false) := by
  rw [storeRegister_eq, overlap_eq_false h]
  rfl

theorem State.storeOne_ok (hb : s.BaseReady n) (haddr : mode.address (s.readXsp n) offset = a)
    (ha : s.Allowed a bytes acc .write) : s.storeOne bytes acc mode n t offset isUnknown =
      .ok (((s.storeBytes a bytes (if isUnknown then s.unknown else s.readX t)).drawn
        (if isUnknown then 1 else 0)).writeBack mode.writeback n (s.readXsp n + offset)) := by
  rw [State.storeOne, State.baseAddress_ok hb, Except.ok_bind, haddr, State.memWrite_ok ha]
  rfl

theorem State.storeOne_error (hb : s.BaseReady n) (haddr : mode.address (s.readXsp n) offset = a) {e : Exc}
    (he : AccessAbort s a bytes acc .write False e) : s.storeOne bytes acc mode n t offset isUnknown = .error e := by
  rw [State.storeOne, State.baseAddress_ok hb, Except.ok_bind, haddr, State.memWrite_of_accessAbort he]
  rfl

end StoreOne

/-! ## Loads of a pair -/

section LoadTwo

/-- A load of a pair, once it is known whether the values are UNKNOWN and what becomes of the base (47 R540(d)). -/
def State.loadTwo (s : State) (bytes : Nat) (ext : Extension) (acc : AccType) (mode : Indexing) (n t t2 : Reg)
    (offset : Addr) (isUnknown : Bool) (wb : Writeback) : Except Exc State := do
  let base ← s.baseAddress n
  let data1 ← s.memRead (mode.address base offset) bytes acc
  let data2 ← s.memRead (mode.address base offset + BitVec.ofNat 64 bytes) bytes acc
  return (((s.writeX t (ext.apply (if isUnknown then (s.unknownAt 0).setWidth (8 * bytes) else data1))).writeX t2
    (ext.apply (if isUnknown then (s.unknownAt 1).setWidth (8 * bytes) else data2))).drawn
    (if isUnknown then 2 else 0)).writeBack wb n (base + offset)

variable {s : State} {bytes : Nat} {ext : Extension} {acc : AccType} {mode : Indexing} {n t t2 : Reg} {offset a : Addr}
  {isUnknown : Bool} {wb : Writeback}

theorem loadPair_eq : loadPair bytes ext acc mode n t t2 offset s =
    atLoadWriteback s (mode.writesBack && (decide (t = n) || decide (t2 = n)) && decide (n ≠ 31#5)) mode fun wb =>
      atLoadPair s (decide (t = t2)) fun isUnknown =>
        finish s (s.loadTwo bytes ext acc mode n t t2 offset isUnknown wb) := rfl

/-- Two registers meet no choice of their own (47 R540(d) step 2). -/
theorem loadPair_eq_of_ne (h : t ≠ t2) : loadPair bytes ext acc mode n t t2 offset s =
    atLoadWriteback s (mode.writesBack && (decide (t = n) || decide (t2 = n)) && decide (n ≠ 31#5)) mode fun wb =>
      finish s (s.loadTwo bytes ext acc mode n t t2 offset false wb) := by
  rw [loadPair_eq, decide_eq_false h]
  rfl

theorem State.loadTwo_ok (hb : s.BaseReady n) (haddr : mode.address (s.readXsp n) offset = a)
    (ha : s.Allowed a bytes acc .read) (ha2 : s.Allowed (a + BitVec.ofNat 64 bytes) bytes acc .read) :
    s.loadTwo bytes ext acc mode n t t2 offset false wb =
      .ok (((s.writeX t (ext.apply (s.loadBytes a bytes))).writeX t2
        (ext.apply (s.loadBytes (a + BitVec.ofNat 64 bytes) bytes))).writeBack wb n (s.readXsp n + offset)) := by
  rw [State.loadTwo, State.baseAddress_ok hb, Except.ok_bind, haddr, State.memRead_ok ha, Except.ok_bind,
    State.memRead_ok ha2]
  rfl

theorem State.loadTwo_error (hb : s.BaseReady n) (haddr : mode.address (s.readXsp n) offset = a) {e : Exc}
    (he : PairAborts s a bytes acc .read e) :
    s.loadTwo bytes ext acc mode n t t2 offset isUnknown wb = .error e := by
  rw [State.loadTwo, State.baseAddress_ok hb, Except.ok_bind, haddr]
  rcases he with he | ⟨ha, he⟩
  · rw [State.memRead_of_accessAbort he]
    rfl
  · rw [State.memRead_ok ha, Except.ok_bind, State.memRead_of_accessAbort he]
    rfl

end LoadTwo

/-! ## Stores of a pair -/

section StoreTwo

/-- A store of a pair, once it is known whether the value of the base is UNKNOWN (47 R540(d), R545). -/
def State.storeTwo (s : State) (bytes : Nat) (acc : AccType) (mode : Indexing) (n t t2 : Reg) (offset : Addr)
    (isUnknown : Bool) : Except Exc State := do
  let base ← s.baseAddress n
  s.checkAccess (mode.address base offset) bytes acc .write false
  s.checkAccess (mode.address base offset + BitVec.ofNat 64 bytes) bytes acc .write false
  return (((s.storeBytes (mode.address base offset) bytes
    (if isUnknown ∧ t = n then s.unknownAt 0 else s.readX t)).storeBytes (mode.address base offset + BitVec.ofNat 64 bytes)
    bytes (if isUnknown ∧ t2 = n then s.unknownAt 1 else s.readX t2)).drawn
    (if isUnknown then 2 else 0)).writeBack mode.writeback n (base + offset)

variable {s : State} {bytes : Nat} {acc : AccType} {mode : Indexing} {n t t2 : Reg} {offset a : Addr} {isUnknown : Bool}

theorem storePair_eq : storePair bytes acc mode n t t2 offset s =
    atStoreWriteback s (mode.writesBack && (decide (t = n) || decide (t2 = n)) && decide (n ≠ 31#5)) fun isUnknown =>
      finish s (s.storeTwo bytes acc mode n t t2 offset isUnknown) := rfl

theorem State.storeTwo_ok (hb : s.BaseReady n) (haddr : mode.address (s.readXsp n) offset = a)
    (ha : s.Allowed a bytes acc .write) (ha2 : s.Allowed (a + BitVec.ofNat 64 bytes) bytes acc .write) :
    s.storeTwo bytes acc mode n t t2 offset isUnknown =
      .ok ((((s.storeBytes a bytes (if isUnknown ∧ t = n then s.unknownAt 0 else s.readX t)).storeBytes
        (a + BitVec.ofNat 64 bytes) bytes (if isUnknown ∧ t2 = n then s.unknownAt 1 else s.readX t2)).drawn
        (if isUnknown then 2 else 0)).writeBack mode.writeback n (s.readXsp n + offset)) := by
  rw [State.storeTwo, State.baseAddress_ok hb, Except.ok_bind, haddr, State.checkAccess_eq_ok.mpr ha, Except.ok_bind,
    State.checkAccess_eq_ok.mpr ha2]
  rfl

theorem State.storeTwo_error (hb : s.BaseReady n) (haddr : mode.address (s.readXsp n) offset = a) {e : Exc}
    (he : PairAborts s a bytes acc .write e) :
    s.storeTwo bytes acc mode n t t2 offset isUnknown = .error e := by
  rw [State.storeTwo, State.baseAddress_ok hb, Except.ok_bind, haddr]
  rcases he with he | ⟨ha, he⟩
  · rw [State.checkAccess_of_plainAbort he]
    rfl
  · rw [State.checkAccess_eq_ok.mpr ha, Except.ok_bind, State.checkAccess_of_plainAbort he]
    rfl

end StoreTwo

end Sys2Proof.Machine
end

section
/-! The forms of memory access (46 R460 to R529; 47 R540 to R545): an instruction whose meaning is a load or store of one
register or of a pair has the form that the statements name, plain, with writeback, or with the base overlapped. -/

namespace Sys2Proof.Forms

open Sys2Proof.Machine

variable {i : Instr} {s : State} {bytes : Nat} {acc : AccType} {rn rt rt2 r : Reg} {offset a : Addr} {ext : Extension}
  {value : BitVec (8 * bytes) → DWord} {pre : Bool} {form : PairForm}

/-! ## One register, the base not overlapped -/

theorem Loads.of_loadRegister (hexec : exec i s = loadRegister bytes ext acc .offset rn rt a s) (ha : a = offset)
    (hext : ∀ v, ext.apply v = value v) : Loads i s rn rt offset bytes acc value := by
  subst ha
  obtain rfl : (fun v => ext.apply v) = value := funext hext
  intro hb hallowed
  rw [loadRegister_apart (mode := .offset) fun h => absurd h Bool.false_ne_true, State.loadOne_ok hb rfl hallowed] at hexec
  exact .of_finish hexec (s.becomes_writeX rt _)

theorem Stores.of_storeRegister (hexec : exec i s = storeRegister bytes acc .offset rn rt a s) (ha : a = offset)
    (hbytes : bytes ≤ 8) : Stores i s rn rt offset bytes acc := by
  subst ha
  intro hm hb hallowed
  rw [storeRegister_apart (mode := .offset) fun h => absurd h Bool.false_ne_true, State.storeOne_ok hb rfl hallowed] at hexec
  exact .of_finish hexec (s.becomes_storeBytes hm _ bytes (by omega) _)

theorem LoadsAndWritesBase.of_loadRegister
    (hexec : exec i s = loadRegister bytes ext .normal (.ofPre pre) rn rt offset s) (hext : ∀ v, ext.apply v = value v) :
    LoadsAndWritesBase i s pre rn rt offset bytes value := by
  obtain rfl : (fun v => ext.apply v) = value := funext hext
  intro hapart hb hallowed
  rw [loadRegister_apart fun _ => hapart, State.loadOne_ok hb (Indexing.ofPre_address ..) hallowed,
    Indexing.ofPre_writeback] at hexec
  exact .of_finish hexec ((s.becomes_writeX rt _).base rfl rn _)

theorem StoresAndWritesBase.of_storeRegister
    (hexec : exec i s = storeRegister bytes .normal (.ofPre pre) rn rt offset s) (hbytes : bytes ≤ 8) :
    StoresAndWritesBase i s pre rn rt offset bytes := by
  intro hm hapart hb hallowed
  rw [storeRegister_apart fun _ => hapart, State.storeOne_ok hb (Indexing.ofPre_address ..) hallowed,
    Indexing.ofPre_writeback] at hexec
  exact .of_finish hexec ((s.becomes_storeBytes hm _ bytes (by omega) _).base rfl rn _)

/-! ## The base is a transfer register -/

theorem LoadsOverBase.of_loadRegister
    (hexec : exec i s = loadRegister bytes ext .normal (.ofPre pre) r r offset s) (hr : r ≠ 31#5)
    (hext : ∀ v, ext.apply v = value v) : LoadsOverBase i s pre r offset bytes value := by
  obtain rfl : (fun v => ext.apply v) = value := funext hext
  unfold LoadsOverBase
  intro a choice
  have hb : s.BaseReady r := fun h => absurd h hr
  have haddr : (Indexing.ofPre pre).address (s.readXsp r) offset = a := by
    rw [Indexing.ofPre_address, State.readXsp, if_neg hr]
  obtain ⟨hundef, hnop, hkept, hunknown⟩ := loadWriteback_choices (hexec.trans loadRegister_eq)
    (by simp [Indexing.ofPre_writesBack, hr])
  refine ⟨hundef, hnop, fun hallowed => ⟨fun hc => ?kept, fun hc => ?unknown⟩, fun hc e he => ?aborts⟩
  case kept =>
    rw [State.loadOne_ok hb haddr hallowed] at hkept
    exact .of_finish (hkept hc) (s.becomes_writeX r _)
  case unknown =>
    rw [State.loadOne_ok hb haddr hallowed, State.writeBack_unknown] at hunknown
    exact ⟨_, .of_finish (hunknown hc) (Writes.toReg_base hr ▸ (s.becomes_writeX r _).base rfl r _)⟩
  case aborts =>
    rw [State.loadOne_error hb haddr he] at hkept hunknown
    exact .of_finish (hc.elim hkept hunknown)

theorem StoresOverBase.of_storeRegister
    (hexec : exec i s = storeRegister bytes .normal (.ofPre pre) r r offset s) (hr : r ≠ 31#5) (hbytes : bytes ≤ 8) :
    StoresOverBase i s pre r offset bytes := by
  unfold StoresOverBase
  intro a w choice
  have hb : s.BaseReady r := fun h => absurd h hr
  have hbase : s.readXsp r = s.readX r := if_neg hr
  have haddr : (Indexing.ofPre pre).address (s.readXsp r) offset = a := by rw [Indexing.ofPre_address, hbase]
  obtain ⟨hundef, hnop, hkept, hunknown⟩ := storeWriteback_choices (hexec.trans storeRegister_eq)
    (by simp [Indexing.ofPre_writesBack, hr])
  refine ⟨hundef, hnop, fun hm hallowed => ?stores, fun hc e he => ?aborts⟩
  case stores =>
    have hw (v : DWord) : s.Becomes (w v) ((s.storeBytes a bytes v).writeXsp r (s.readX r + offset)).advance :=
      (s.becomes_storeBytes hm a bytes (by omega) v).base rfl r _
    simp only [State.storeOne_ok hb haddr hallowed, Indexing.ofPre_writeback, State.writeBack, State.writeXsp_drawn,
      hbase] at hkept hunknown
    exact ⟨fun hc => .of_finish (hkept hc) (hw _), fun hc => ⟨_, .of_finish (hunknown hc) (hw _)⟩⟩
  case aborts =>
    rw [State.storeOne_error hb haddr he] at hkept hunknown
    exact .of_finish (hc.elim hkept hunknown)

/-- The overlap of the statements is the machine's. -/
theorem PairForm.BaseOverlaps.eq_true (h : form.BaseOverlaps rn rt rt2) :
    (form.indexing.writesBack && (decide (rt = rn) || decide (rt2 = rn)) && decide (rn ≠ 31#5)) = true := by
  obtain ⟨hform, hrn, hover⟩ := h
  have hover : rt = rn ∨ rt2 = rn := hover.imp Eq.symm Eq.symm
  simpa [PairForm.indexing_writesBack hform, hrn] using hover

theorem LoadsPairOverBase.of_loadPair
    (hexec : exec i s = loadPair bytes ext .normal form.indexing rn rt rt2 a s) (ha : a = offset)
    (hext : ∀ v, ext.apply v = value v) : LoadsPairOverBase i s form rn rt rt2 offset bytes value := by
  subst ha
  obtain rfl : (fun v => ext.apply v) = value := funext hext
  unfold LoadsPairOverBase
  intro a1 a2 w choice hover
  have ⟨_, hrn, _⟩ := hover
  have hb : s.BaseReady rn := fun h => absurd h hrn
  have haddr : form.indexing.address (s.readXsp rn) a = a1 := form.indexing_address s rn a
  obtain ⟨hundef, hnop, -⟩ := loadWriteback_choices (hexec.trans loadPair_eq) hover.eq_true
  refine ⟨hundef, hnop, fun hne h1 h2 => ?loads, fun hne hc e he => ?aborts⟩
  case loads =>
    have hw : s.Becomes w ((s.writeX rt (ext.apply (s.loadBytes a1 bytes))).writeX rt2
        (ext.apply (s.loadBytes a2 bytes))).advance := (s.becomes_writeX rt _).writeX rt2 _
    obtain ⟨-, -, hkept, hunknown⟩ := loadWriteback_choices (hexec.trans (loadPair_eq_of_ne hne)) hover.eq_true
    rw [State.loadTwo_ok hb haddr h1 h2] at hkept hunknown
    rw [State.writeBack_unknown] at hunknown
    exact ⟨fun hc => .of_finish (hkept hc) hw, fun hc => ⟨_, .of_finish (hunknown hc) (hw.base rfl rn _)⟩⟩
  case aborts =>
    obtain ⟨-, -, hkept, hunknown⟩ := loadWriteback_choices (hexec.trans (loadPair_eq_of_ne hne)) hover.eq_true
    rw [State.loadTwo_error hb haddr he] at hkept hunknown
    exact .of_finish (hc.elim hkept hunknown)

theorem StoresPairOverBase.of_storePair
    (hexec : exec i s = storePair bytes .normal form.indexing rn rt rt2 a s) (ha : a = offset) (hbytes : bytes ≤ 8) :
    StoresPairOverBase i s form rn rt rt2 offset bytes := by
  subst ha
  unfold StoresPairOverBase
  intro a1 a2 w choice hover
  have ⟨hform, hrn, _⟩ := hover
  have hb : s.BaseReady rn := fun h => absurd h hrn
  have haddr : form.indexing.address (s.readXsp rn) a = a1 := form.indexing_address s rn a
  obtain ⟨hundef, hnop, hkept, hunknown⟩ := storeWriteback_choices (hexec.trans storePair_eq) hover.eq_true
  refine ⟨hundef, hnop, fun hm h1 h2 => ?stores, fun hc e he => ?aborts⟩
  case stores =>
    have hw (v v2 : DWord) : s.Becomes (w v v2)
        (((s.storeBytes a1 bytes v).storeBytes a2 bytes v2).writeXsp rn (s.readXsp rn + a)).advance :=
      ((s.becomes_storeBytes hm a1 bytes (by omega) v).store (Memory.wf_store hm ..) rfl a2 bytes (by omega) v2).base
        rfl rn _
    simp only [State.storeTwo_ok hb haddr h1 h2, PairForm.indexing_writeback hform, State.writeBack,
      State.writeXsp_drawn] at hkept hunknown
    exact ⟨fun hc => .of_finish (hkept hc) (hw _ _), fun hc => ⟨_, _, fun hne => if_neg fun h => hne h.2,
      fun hne => if_neg fun h => hne h.2, .of_finish (hunknown hc) (hw _ _)⟩⟩
  case aborts =>
    rw [State.storeTwo_error hb haddr he] at hkept hunknown
    exact .of_finish (hc.elim hkept hunknown)

end Sys2Proof.Forms
end

section
/-! Loads, stores and prefetches at an immediate offset or a label (46 R460 to R474, R511 to R529), and the overlaps of a
written base (46 R461; 47 R540). -/

namespace Sys2Proof.Machine

open Sys2Proof.Forms

/-! ## Loads from a label, and prefetches -/

section

variable {i : Instr} {s : State} {bytes : Nat} {ext : Extension} {imm19 : BitVec 19} {rt : Reg}

theorem Completes.of_loadLiteral (hexec : exec i s = loadLiteral bytes ext imm19 rt s)
    (ha : s.Allowed (s.pc + words imm19) bytes .normal .read) {v : DWord}
    (hext : ext.apply (s.loadBytes (s.pc + words imm19) bytes) = v) : Completes i s (.toReg rt v) := by
  subst hext
  rw [loadLiteral, wordOffset_eq_words, State.memRead_ok ha] at hexec
  exact .of_finish hexec (s.becomes_writeX rt _)

theorem Completes.of_prefetch (hexec : exec i s = prefetch s) : Completes i s .nothing :=
  ⟨s.advance, hexec, s.becomes_nothing⟩

theorem prefetchIndexed_eq_prefetch {rm : Reg} {option : BitVec 3} {shift : Nat} (h : option.getLsbD 1 = true) :
    prefetchIndexed rm option shift s = prefetch s := by
  rw [prefetchIndexed, indexOffset_eq_some s rm h]

end

/-! ## The obligations -/

namespace LoadStore

open Extension

/-- Settles O34: each form is one load, and the forms differ in offset, size, extension and rights. -/
theorem offsetLoads : Obligations.OffsetLoads := by
  intro s size0 opc0 imm12 imm9 rn rt scaled offset n
  have hword : scaledOffset imm12 (wordScale size0) = scaled n := scaledOffset_wordScale imm12 size0
  exact ⟨.of_loadRegister rfl hword apply_zero, .of_loadRegister rfl (scaledOffset_eq imm12 0) apply_zero,
    .of_loadRegister rfl (scaledOffset_eq imm12 1) apply_zero,
    .of_loadRegister rfl (scaledOffset_eq imm12 0) apply_signedTo,
    .of_loadRegister rfl (scaledOffset_eq imm12 1) apply_signedTo,
    .of_loadRegister rfl (scaledOffset_eq imm12 2) apply_sign_64,
    .of_loadRegister rfl rfl apply_zero, .of_loadRegister rfl rfl apply_zero, .of_loadRegister rfl rfl apply_zero,
    .of_loadRegister rfl rfl apply_signedTo, .of_loadRegister rfl rfl apply_signedTo,
    .of_loadRegister rfl rfl apply_sign_64,
    .of_loadRegister rfl rfl apply_zero, .of_loadRegister rfl rfl apply_zero, .of_loadRegister rfl rfl apply_zero,
    .of_loadRegister rfl rfl apply_signedTo, .of_loadRegister rfl rfl apply_signedTo,
    .of_loadRegister rfl rfl apply_sign_64⟩

/-- Settles O35: each form is one store, and the forms differ in offset, size and rights. -/
theorem offsetStores : Obligations.OffsetStores := by
  intro s size0 imm12 imm9 rn rt scaled offset n
  have hword : scaledOffset imm12 (wordScale size0) = scaled n := scaledOffset_wordScale imm12 size0
  have hn : n ≤ 8 := wordBytes_le size0
  exact ⟨.of_storeRegister rfl hword hn, .of_storeRegister rfl (scaledOffset_eq imm12 0) (by decide),
    .of_storeRegister rfl (scaledOffset_eq imm12 1) (by decide),
    .of_storeRegister rfl rfl hn, .of_storeRegister rfl rfl (by decide), .of_storeRegister rfl rfl (by decide),
    .of_storeRegister rfl rfl hn, .of_storeRegister rfl rfl (by decide), .of_storeRegister rfl rfl (by decide)⟩

/-- Settles O36: no form meets an overlap, because the base is the stack pointer or is not transferred. -/
theorem writebackAccesses : Obligations.WritebackAccesses := by
  intro s size0 opc0 imm9 rn rt offset n
  have hn : n ≤ 8 := wordBytes_le size0
  exact ⟨.of_loadRegister rfl apply_zero, .of_loadRegister rfl apply_zero, .of_loadRegister rfl apply_zero,
    .of_loadRegister rfl apply_signedTo, .of_loadRegister rfl apply_signedTo, .of_loadRegister rfl apply_sign_64,
    .of_loadRegister rfl apply_zero, .of_loadRegister rfl apply_zero, .of_loadRegister rfl apply_zero,
    .of_loadRegister rfl apply_signedTo, .of_loadRegister rfl apply_signedTo, .of_loadRegister rfl apply_sign_64,
    .of_storeRegister rfl hn, .of_storeRegister rfl (by decide), .of_storeRegister rfl (by decide),
    .of_storeRegister rfl hn, .of_storeRegister rfl (by decide), .of_storeRegister rfl (by decide)⟩

/-- Settles O37: each form goes to the site of its kind, and its accesses are those of the form without the overlap. -/
theorem writebackOverlaps : Obligations.WritebackOverlaps := by
  intro s size0 opc0 imm9 imm7 r rt rt2 hr offset n pairOffset
  have hn : n ≤ 8 := wordBytes_le size0
  have hpair : Machine.pairOffset imm7 (wordScale size0) = pairOffset n := pairOffset_wordScale imm7 size0
  have hpair4 : Machine.pairOffset imm7 2 = pairOffset 4 := pairOffset_eq imm7 2
  exact ⟨⟨.of_loadRegister rfl hr apply_zero, .of_loadRegister rfl hr apply_zero, .of_loadRegister rfl hr apply_zero,
      .of_loadRegister rfl hr apply_signedTo, .of_loadRegister rfl hr apply_signedTo,
      .of_loadRegister rfl hr apply_sign_64⟩,
    ⟨.of_loadRegister rfl hr apply_zero, .of_loadRegister rfl hr apply_zero, .of_loadRegister rfl hr apply_zero,
      .of_loadRegister rfl hr apply_signedTo, .of_loadRegister rfl hr apply_signedTo,
      .of_loadRegister rfl hr apply_sign_64⟩,
    ⟨.of_storeRegister rfl hr hn, .of_storeRegister rfl hr (by decide), .of_storeRegister rfl hr (by decide),
      .of_storeRegister rfl hr hn, .of_storeRegister rfl hr (by decide), .of_storeRegister rfl hr (by decide)⟩,
    ⟨.of_loadPair rfl hpair apply_zero, .of_loadPair rfl hpair apply_zero, .of_loadPair rfl hpair4 apply_sign_64,
      .of_loadPair rfl hpair4 apply_sign_64⟩,
    ⟨.of_storePair rfl hpair hn, .of_storePair rfl hpair hn⟩⟩

/-- Settles O39: a prefetch at a register offset needs its check to pass, and the others have none. -/
theorem literalLoadsAndPrefetches : Obligations.LiteralLoadsAndPrefetches := by
  intro s opc0 s1 imm12 imm9 imm19 option rm rn rt a
  have hword : 8 * wordBytes opc0 ≤ 64 := Nat.mul_le_mul_left 8 (wordBytes_le opc0)
  exact ⟨fun ha => Writes.toReg_setWidth rt (s.loadBytes a (wordBytes opc0)) hword ▸ .of_loadLiteral rfl ha rfl,
    fun ha => .of_loadLiteral rfl ha (Extension.apply_sign_64 _),
    .of_prefetch rfl, .of_prefetch rfl, fun h => .of_prefetch (prefetchIndexed_eq_prefetch h), .of_prefetch rfl⟩

end LoadStore

end Sys2Proof.Machine
end

section
/-! A step raises the level only by an exception entry (60 R830, R833). -/

namespace Sys2Proof.Machine

variable {s t : State}

/-- What an exception entry from a lower level leaves: the masks, the stack pointer select, the Open monitor, the level it
came from, and one of the four vectors for a lower level (60 R830, R833). -/
def State.EnteredFrom (t : State) (source : EL) : Prop :=
  t.p.d = true ∧ t.p.a = true ∧ t.p.i = true ∧ t.p.f = true ∧ t.p.sp = true ∧ t.p.il = false ∧ t.monitor = none ∧
  (t.elRegs t.p.el).spsr.extractLsb' 2 2 = source.bits ∧
  ∃ offset, (offset = 0x400#11 ∨ offset = 0x480#11 ∨ offset = 0x500#11 ∨ offset = 0x580#11) ∧
    t.pc = (t.elRegs t.p.el).vbar.extractLsb' 11 53 ++ offset

/-- The level in the image of PSTATE (10 R65). -/
theorem PState.extractLsb'_image_el (p : PState) : p.image.extractLsb' 2 2 = p.el.bits := by
  apply BitVec.eq_of_getLsbD_eq
  intro i hi
  rw [BitVec.getLsbD_extractLsb', p.getLsbD_image (by omega)]
  interval_cases i <;> simp [PState.imageBit]

theorem State.enteredFrom_takeException {target : EL} (hlt : s.p.el.toNat < target.toNat) (esr : Option DWord)
    (far : FarEffect) (ret : Addr) {vect : BitVec 11}
    (hvect : vect = 0x000#11 ∨ vect = 0x080#11 ∨ vect = 0x100#11 ∨ vect = 0x180#11) :
    (s.takeException target esr far ret vect).EnteredFrom s.p.el := by
  have hregs := s.elRegs_takeException target esr far ret vect
  have hentry := s.enters_takeException target esr far ret vect
  have hel : (s.takeException target esr far ret vect).p.el = target := rfl
  refine ⟨rfl, rfl, rfl, rfl, rfl, rfl, rfl, ?_, vect + 0x400#11, ?_, ?_⟩
  · rw [hel, hregs]
    exact s.p.extractLsb'_image_el
  · rcases hvect with rfl | rfl | rfl | rfl <;> decide
  · rw [hentry.pc, hel, hentry.control.1, if_pos hlt]

theorem State.enteredFrom_takeInterrupt {k : Interrupt} (ret : Addr)
    (hlt : s.p.el.toNat < (s.takeInterrupt k ret).p.el.toNat) : (s.takeInterrupt k ret).EnteredFrom s.p.el :=
  State.enteredFrom_takeException hlt _ _ _ (by cases k <;> decide)

theorem State.enteredFrom_raised {e : Exc} (hlt : s.p.el.toNat < (s.raised e).p.el.toNat) :
    (s.raised e).EnteredFrom s.p.el := by
  unfold State.raised at hlt ⊢
  split at hlt
  · exact absurd hlt (lt_irrefl _)
  · rw [if_neg ‹_›]
    exact State.enteredFrom_takeException hlt _ _ _ (.inl rfl)

/-- A return goes to no higher level (60 R841(a)). -/
theorem State.returnPState_el_le (s : State) (spsr : DWord) : (s.returnPState spsr).el.toNat ≤ s.p.el.toNat := by
  change (if s.illegalReturn spsr then s.p.el else EL.ofBits (spsr.extractLsb' 2 2)).toNat ≤ _
  split
  · exact le_rfl
  · next hlegal =>
    rw [State.illegalReturn_eq_true, State.ReturnIsIllegal, not_or] at hlegal
    rw [EL.ofBits_toNat]
    exact Nat.le_of_not_lt hlegal.1

theorem PState.writeField_el (p : PState) (field : PStateField) (operand : BitVec 4) :
    (p.writeField field operand).el = p.el := by
  cases field <;> rfl

theorem State.writeSysReg_el (s : State) (reg : SysReg) (v : DWord) : (s.writeSysReg reg v).p.el = s.p.el := by
  cases reg with
  | spsr level | elr level | esr level | far level | vbar level | sctlr level => cases level <;> rfl
  | _ => rfl

/-- Of the effects of an instruction only an exception entry raises the level. -/
theorem State.Effect.enteredFrom (h : s.Effect t) (hlt : s.p.el.toNat < t.p.el.toNat) : t.EnteredFrom s.p.el := by
  cases h with
  | ordinary h => exact absurd hlt (by rw [h.el]; exact lt_irrefl _)
  | raised h => exact State.enteredFrom_raised hlt
  | interrupt h hk =>
    rw [← h.el] at hlt ⊢
    exact State.enteredFrom_takeInterrupt _ hlt
  | eret h => exact absurd hlt (Nat.not_lt.mpr (s.returnPState_el_le _))
  | msrImmediate h => exact absurd hlt (Nat.not_lt.mpr (s.p.writeField_el _ _ ▸ le_rfl))
  | msrRegister h => exact absurd hlt (Nat.not_lt.mpr (s.writeSysReg_el _ _ ▸ le_rfl))

/-- Settles O11: a step is an effect on a state of the same level, and the effects that raise the level are exception
entries. -/
theorem raisingLevelIsExceptionEntry : Obligations.RaisingLevelIsExceptionEntry := by
  intro s t hstep hlt
  obtain ⟨u, hsame, heffect⟩ := step_effect hstep
  rw [← hsame.el] at hlt ⊢
  exact heffect.enteredFrom hlt

end Sys2Proof.Machine
end

section
/-! Synchronous exceptions: what an entry leaves, the target, class and syndrome of each (60 R802, R807 to R814, R830 to
R833). -/

namespace Sys2Proof.Machine

open Sys2Proof.Forms

variable {s : State}

/-- Settles O49: the entry rule is proved of every target. -/
theorem takingAnException : Obligations.TakingAnException :=
  fun s target esr far ret vect _ => s.enters_takeException target esr far ret vect

/-! ## Targets (60 R807 to R809, R831) -/

/-- Rerouting by TGE, as the machine computes it and in the words of the statements (60 R831). -/
theorem State.tge_eq_true : s.tge = true ↔ Rerouted s := by
  simp [State.tge, State.el2Acts, Rerouted, and_assoc]

theorem State.generalTarget_eq_generalLevel (s : State) : s.generalTarget = generalLevel s := by
  unfold State.generalTarget generalLevel
  simp only [State.tge_eq_true]
  cases s.p.el <;> simp

/-- A trap to a level that TGE may reroute. -/
theorem State.ite_tge_eq (s : State) (level : EL) :
    (if level = .el1 ∧ s.tge then EL.el2 else level) = if level = .el1 ∧ Rerouted s then .el2 else level := by
  simp only [State.tge_eq_true]

theorem Exc.target_softwareBreakpoint (s : State) (imm : BitVec 16) :
    (Exc.softwareBreakpoint imm).target s = if s.p.el = .el1 ∧ Rerouted s then .el2 else generalLevel s := by
  have hbelow : s.p.el.toNat < 2 ↔ s.p.el = .el0 ∨ s.p.el = .el1 := by cases s.p.el <;> decide
  simp only [Exc.target, State.tge_eq_true, State.generalTarget_eq_generalLevel, generalLevel, hbelow]
  cases s.p.el <;> simp +contextual

/-- Settles O51: most exceptions have the general target, and the others name theirs. -/
theorem exceptionTargets : Obligations.ExceptionTargets := by
  intro s imm a kind wnr cm isWfe level op0 op2 op1 crn crm rt dir general
  have hgeneral : s.generalTarget = general := s.generalTarget_eq_generalLevel
  exact ⟨hgeneral, hgeneral, hgeneral, hgeneral, hgeneral, hgeneral, hgeneral, Exc.target_softwareBreakpoint s imm, rfl,
    rfl, rfl, s.ite_tge_eq level, s.ite_tge_eq level⟩

/-! ## Syndromes (60 R802, R812) -/

/-- A concatenation, as a sum of fields at their places. -/
theorem setWidth_append_eq_or {n w : Nat} (k : Nat) (x : BitVec n) (y : BitVec w) :
    (x ++ y).setWidth k = x.setWidth k <<< w ||| y.setWidth k := by
  apply BitVec.eq_of_getLsbD_eq
  intro i hi
  simp only [BitVec.getLsbD_setWidth, BitVec.getLsbD_append, BitVec.getLsbD_or, BitVec.getLsbD_shiftLeft, hi, decide_true,
    Bool.true_and]
  by_cases hlow : i < w
  · simp [hlow]
  · simp [hlow, BitVec.getLsbD_of_ge y i (by omega), show i - w < k by omega]

theorem syndrome_eq_or (ec : BitVec 6) (iss : BitVec 25) :
    syndrome ec iss = ec.setWidth 64 <<< 26 ||| 1#64 <<< 25 ||| iss.setWidth 64 := by
  rw [syndrome, ← BitVec.setWidth_eq (0#32 ++ ec ++ 1#1 ++ iss)]
  simp only [setWidth_append_eq_or, BitVec.shiftLeft_or_distrib, ← BitVec.shiftLeft_add]
  simp

theorem Exc.iss_systemRegisterTrap (level : EL) (op0 : BitVec 2) (op2 op1 : BitVec 3) (crn : BitVec 4) (rt : BitVec 5)
    (crm : BitVec 4) (dir : BitVec 1) : (Exc.systemRegisterTrap level op0 op2 op1 crn rt crm dir).iss =
      op0.setWidth 25 <<< 20 ||| op2.setWidth 25 <<< 17 ||| op1.setWidth 25 <<< 14 ||| crn.setWidth 25 <<< 10
        ||| rt.setWidth 25 <<< 5 ||| crm.setWidth 25 <<< 1 ||| dir.setWidth 25 := by
  change 0#3 ++ op0 ++ op2 ++ op1 ++ crn ++ rt ++ crm ++ dir = _
  rw [← BitVec.setWidth_eq (0#3 ++ op0 ++ op2 ++ op1 ++ crn ++ rt ++ crm ++ dir)]
  simp only [setWidth_append_eq_or, BitVec.shiftLeft_or_distrib, ← BitVec.shiftLeft_add]
  simp

theorem Exc.iss_dataAbort (a : Addr) (kind : AbortKind) (wnr cm : Bool) : (Exc.dataAbort a kind wnr cm).iss =
    (BitVec.ofBool cm).setWidth 25 <<< 8 ||| (BitVec.ofBool wnr).setWidth 25 <<< 6 ||| kind.status.setWidth 25 := by
  cases kind <;> cases wnr <;> cases cm <;> rfl

theorem Exc.iss_wfxTrap (level : EL) (isWfe : Bool) :
    (Exc.wfxTrap level isWfe).iss = 0x1E00000#25 ||| (BitVec.ofBool isWfe).setWidth 25 := by
  cases isWfe <;> rfl

/-- What becomes of FAR at a synchronous exception (60 R830 step 4). -/
def Exc.farEffect (e : Exc) (s : State) : FarEffect :=
  match e.faultAddress s with
  | some a => .address a
  | none => .unknown

/-- The class that tells an exception from a lower level from one of the same level (60 R802). -/
def Exc.ecAt (e : Exc) (s : State) : BitVec 6 := e.ec (decide (s.p.el.toNat < (e.target s).toNat))

theorem Exc.entersWith (e : Exc) (s : State) :
    EntersWith e s (e.ecAt s) e.iss (e.farEffect s) (e.returnAddress s) := by
  unfold EntersWith
  rw [← syndrome_eq_or]
  exact s.enters_takeException _ _ _ _ _

theorem Exc.ecAt_general {e : Exc} (h : e.target s = s.generalTarget) :
    e.ecAt s = e.ec (decide (s.p.el.toNat < (generalLevel s).toNat)) := by
  rw [Exc.ecAt, h, State.generalTarget_eq_generalLevel]

/-- Settles O50: each exception enters with its own class and syndrome, in the form that the statement gives them. -/
theorem synchronousExceptions : Obligations.SynchronousExceptions := by
  intro s imm level isWfe wnr cm op0 op2 op1 crn crm rt dir a _ lower code
  have hcode (kind : AbortKind) : code kind = kind.status := by cases kind <;> rfl
  have hinstruction (kind : AbortKind) : (Exc.instructionAbort a kind).ecAt s = if lower then 0x20#6 else 0x21#6 := by
    rw [Exc.ecAt_general rfl]
    exact if_congr decide_eq_true_iff rfl rfl
  have hdata (kind : AbortKind) : (Exc.dataAbort a kind wnr cm).ecAt s = if lower then 0x24#6 else 0x25#6 := by
    rw [Exc.ecAt_general rfl]
    exact if_congr decide_eq_true_iff rfl rfl
  refine ⟨Exc.entersWith _ s, ?wfx, Exc.entersWith _ s, Exc.entersWith _ s, Exc.entersWith _ s, Exc.entersWith _ s,
    Exc.entersWith _ s, ?systemRegister, fun kind => ?instruction, Exc.entersWith _ s, fun kind => ?data,
    Exc.entersWith _ s, Exc.entersWith _ s⟩
  case wfx =>
    rw [← Exc.iss_wfxTrap level]
    exact Exc.entersWith _ s
  case systemRegister =>
    rw [← Exc.iss_systemRegisterTrap level]
    exact Exc.entersWith _ s
  case instruction =>
    rw [hcode, ← hinstruction kind]
    exact Exc.entersWith _ s
  case data =>
    rw [hcode, ← hdata kind, ← Exc.iss_dataAbort a]
    exact Exc.entersWith _ s

/-! ## SVC, HVC, SMC, BRK (49 R701 to R704; 60 R848) -/

/-- HVC takes its exception or is Undefined (49 R703). -/
theorem hypervisorCall_eq (imm : BitVec 16) (s : State) : hypervisorCall imm s = raise s
    (if s.cfg.haveEL2 = true ∧ s.p.el ≠ .el0 ∧ ¬(s.p.el = .el1 ∧ s.isSecure = true) ∧
      (if s.cfg.haveEL3 = true then s.scr.getLsbD 8 = true else s.hcr.getLsbD 29 = false)
    then .hypervisorCall imm else .undefined) := by
  unfold hypervisorCall
  cases s.cfg.haveEL2 <;> cases s.cfg.haveEL3 <;> cases s.p.el <;> cases s.isSecure <;> simp [apply_ite (raise s)]

theorem State.el2Acts_eq_true : s.el2Acts = true ↔ s.cfg.haveEL2 = true ∧ s.isSecure = false := by
  simp [State.el2Acts]

/-- SMC takes its exception, is trapped to EL2, or is Undefined (49 R704; 60 R848). -/
theorem secureMonitorCall_eq (imm : BitVec 16) (s : State) : secureMonitorCall imm s = raise s
    (if s.cfg.haveEL3 = true ∧ s.p.el ≠ .el0 then
      if s.p.el = .el1 ∧ s.cfg.haveEL2 = true ∧ s.isSecure = false ∧ s.hcr.getLsbD 19 = true then .smcTrap imm
      else if s.scr.getLsbD 7 = true then .undefined else .secureMonitorCall imm
    else .undefined) := by
  unfold secureMonitorCall
  simp only [← ite_not (p := s.cfg.haveEL3 = true ∧ _), Bool.and_eq_true, Bool.or_eq_true, decide_eq_true_eq,
    State.el2Acts_eq_true, and_assoc, Bool.not_eq_true', apply_ite (raise s), Decidable.not_and_iff_not_or_not,
    Bool.not_eq_true, ne_eq, Decidable.not_not]

/-- Settles O52: SVC and BRK always take their exception; HVC and SMC by their conditions. -/
theorem exceptionGeneratingInstructions : Obligations.ExceptionGeneratingInstructions := by
  intro s imm hvc smc trapped
  have hhvc : exec (.hvc imm) s = raise s (if hvc then .hypervisorCall imm else .undefined) := hypervisorCall_eq imm s
  have hsmc : exec (.smc imm) s = raise s (if smc then if trapped then .smcTrap imm
      else if s.scr.getLsbD 7 = true then .undefined else .secureMonitorCall imm else .undefined) :=
    secureMonitorCall_eq imm s
  refine ⟨rfl, rfl, fun h => ?_, fun h => ?_, fun h htrap hdis => ?_, fun h htrap => ?_, fun h => ?_⟩
  · exact .of_raise (hhvc.trans (by rw [if_pos h]))
  · exact .of_raise (hhvc.trans (by rw [if_neg h]))
  · exact .of_raise (hsmc.trans (by rw [if_pos h, if_neg htrap, hdis]; rfl))
  · exact .of_raise (hsmc.trans (by rw [if_pos h, if_pos htrap]))
  · refine .of_raise (hsmc.trans ?_)
    by_cases hs : smc
    · obtain ⟨htrap, hdis⟩ := h.resolve_left (not_not_intro hs)
      rw [if_pos hs, if_neg htrap, if_pos hdis]
    · rw [if_neg hs]

/-! ## ERET (49 R710; 60 R840, R841) -/

namespace Exceptions

/-- Settles O53: a return is legal for the machine exactly if no case of 60 R841 holds. -/
theorem exceptionReturn : Obligations.ExceptionReturn := by
  intro s hel spsr illegal p
  have hp : s.returnPState spsr = p := by
    unfold State.returnPState p illegal
    simp only [State.illegalReturn_eq_true]
    simp [PState.withFlags, Flags.ofBits]
  have heret : exec .eret s = .next (s.exceptionReturn (s.elRegs s.p.el).elr spsr) := if_neg hel
  rw [heret, State.exceptionReturn, hp]

end Exceptions

end Sys2Proof.Machine
end

section
/-! What a step takes in place of an instruction, and the instruction that it runs else (30 R145, R149; 60 R803). -/

namespace Sys2Proof.Machine

open Sys2Proof.Forms

variable {s : State}

theorem extractLsb'_pc_eq_zero (a : Addr) : a.extractLsb' 0 2 = 0#2 ↔ a.toNat % 4 = 0 := by
  simp [← BitVec.toNat_inj]

/-- Some byte lacks a property exactly if not all have it. -/
theorem firstByte_isSome {has : Addr → Bool} {a : Addr} {n : Nat} :
    (firstByte (fun b => !has b) a n).isSome = true ↔ ¬∀ k, k < n → has (a + BitVec.ofNat 64 k) = true := by
  rw [← Option.ne_none_iff_isSome, ne_eq, firstByte_eq_none]
  simp only [Bool.not_eq_false']

/-- A step that no interrupt precedes takes the exception that its fetch raises. -/
theorem step_of_fetch_error (hrun : s.halted = false) (henv : s.env = []) (hk : s.nextInterrupt = none) {e : Exc}
    (hfetch : s.startStep.fetch = .error e) : step s = .next (s.startStep.takeSync e) := by
  have hraised : s.startStep.raised e = s.startStep.takeSync e := State.raised_eq_takeSync (.inl hrun)
  rw [step_of_not_due hrun henv hk, State.runInstruction, hfetch, ← hraised]
  rfl

theorem State.fetch_of_checkFetch {e : Exc} (h : s.checkFetch = .error e) : s.fetch = .error e := by
  rw [State.fetch, h]

/-- A word that does not decode is Undefined (30 R149). -/
theorem State.fetch_undefined (h : FetchesWord s) (hd : ∀ i, decode (wordAt s) ≠ .ok i) :
    s.fetch = .error .undefined := by
  have hword : decodeBytes s.fetchBytes = decode (wordAt s) := rfl
  rw [State.fetch, State.checkFetch_eq_ok.mpr h, hword]
  cases hw : decode (wordAt s) with
  | ok i => exact absurd hw (hd i)
  | error e => rfl

/-- Settles O5: each case is one branch of the checks before decode, or a word that does not decode. -/
theorem fetchExceptions : Obligations.FetchExceptions := by
  intro s hrun henv hk started at_ aligned mapped executable
  have hcheck {e : Exc} (h : started.checkFetch = .error e) : step s = .next (started.takeSync e) :=
    step_of_fetch_error hrun henv hk (State.fetch_of_checkFetch h)
  have haligned : ¬started.pc.extractLsb' 0 2 ≠ 0#2 ↔ aligned := not_not.trans (extractLsb'_pc_eq_zero s.pc)
  have hmapped : (firstByte (fun b => !started.mapped b) started.pc 4).isSome = true ↔ ¬mapped := firstByte_isSome
  have hexecutable : (firstByte (fun b => !started.platformAllows started.p.el .execute b) started.pc 4).isSome = true ↔
      ¬executable := firstByte_isSome
  refine ⟨fun ha => hcheck ?_, fun ha hm => hcheck ?_, fun ha hm he => hcheck ?_, fun ha hm he hil => hcheck ?_,
    fun ha hm he hil hd => ?_⟩
  · rw [State.checkFetch, if_pos (not_imp_comm.mp haligned.mp ha)]
  · rw [State.checkFetch, if_neg (haligned.mpr ha), if_pos (hmapped.mpr hm)]
  · rw [State.checkFetch, if_neg (haligned.mpr ha), if_neg (hmapped.not.mpr (not_not_intro hm)),
      if_pos (hexecutable.mpr he)]
  · rw [State.checkFetch, if_neg (haligned.mpr ha), if_neg (hmapped.not.mpr (not_not_intro hm)),
      if_neg (hexecutable.not.mpr (not_not_intro he)), if_pos hil]
  · exact step_of_fetch_error hrun henv hk (State.fetch_undefined ⟨ha, hil, fun k hlt => ⟨hm k hlt, he k hlt⟩⟩ hd)

/-- Settles O4: with nothing before decode the step is the instruction that the fetch gives. -/
theorem stepRunsDecodedInstruction : Obligations.StepRunsDecodedInstruction := by
  intro s i hrun ⟨hk, hword⟩ hdecode
  have hfetch : s.environment.startStep.fetch = .ok i := State.fetch_eq_ok.mpr ⟨hword, hdecode⟩
  simp only [step, hrun, hk, State.runInstruction, hfetch]
  rfl

end Sys2Proof.Machine
end

section
/-! Hints, barriers and events, and ESB (49 R711 to R723; 60 R846, R847, R849). -/

namespace Sys2Proof.Machine

open Sys2Proof.Forms

variable {s t : State} {w : Writes} {i : Instr}

/-! ## The monitor -/

/-- What opening the monitor adds to what has happened, the pc still to move. -/
theorem State.Becomes.clearMonitor (h : s.Becomes w t.advance) : s.Becomes (w.mark none) t.clearMonitor.advance where
  reg r hr := by simpa [Writes.mark] using h.reg r hr
  zero := by simp
  sp level := by simpa [Writes.mark] using h.sp level
  pstate := by simpa [Writes.mark] using h.pstate
  pc := by simpa [Writes.mark] using h.pc
  monitor := rfl
  mem a := by simpa [Writes.mark] using h.mem a
  system := by cases h.system; constructor <;> simp_all

/-! ## Waits (49 R714, R715; 60 R847) -/

/-- The bits that trap WFE, and those that trap WFI: in SCTLR, in HCR_EL2 and in SCR_EL3 (60 R847). -/
theorem State.checkWfx_eq (s : State) (isWfe : Bool) : s.checkWfx isWfe =
    if TrapsToEL1 s (if isWfe then 18 else 16) then .error (.wfxTrap .el1 isWfe)
    else if TrapsToEL2 s (if isWfe then 14 else 13) then .error (.wfxTrap .el2 isWfe)
    else if TrapsToEL3 s (if isWfe then 13 else 12) then .error (.wfxTrap .el3 isWfe)
    else .ok () := by
  have hhost : s.inHost = false ↔ ¬s.HostMode := by rw [← State.inHost_eq_true, Bool.not_eq_true]
  simp only [State.checkWfx, State.wfxTraps, TrapsToEL1, TrapsToEL2, TrapsToEL3, Bool.and_eq_true, decide_eq_true_eq,
    Bool.not_eq_true', State.el2Acts_eq_true, hhost, State.inHost_eq_true, and_assoc, ne_eq]

/-- A wait that does not end before it begins. -/
theorem waits_of_checkWfx {isWfe : Bool} (hexec : exec i s = finish s ((s.checkWfx isWfe).map fun _ => s)) :
    Waits i s isWfe (if isWfe then 18 else 16) (if isWfe then 14 else 13) (if isWfe then 13 else 12) := by
  rw [State.checkWfx_eq] at hexec
  refine ⟨fun h1 => ?_, fun h1 h2 => ?_, fun h1 h2 h3 => ?_, fun h1 h2 h3 => ?_⟩
  · rw [if_pos h1] at hexec
    exact .of_finish hexec
  · rw [if_neg h1, if_pos h2] at hexec
    exact .of_finish hexec
  · rw [if_neg h1, if_neg h2, if_pos h3] at hexec
    exact .of_finish hexec
  · rw [if_neg h1, if_neg h2, if_neg h3] at hexec
    exact .of_finish hexec s.becomes_nothing

/-! ## ESB (49 R718; 60 R849) -/

/-- A deferred SError, as the machine computes it and in the words of the statements (log 22). -/
theorem deferred_eq_recorded (l : DeferredLayout) (iss : BitVec 25) : deferred l iss = recorded l iss := by
  rw [deferred, recorded, shiftLeft_eq_mul_ofNat, shiftLeft_eq_mul_ofNat, BitVec.one_mul, BitVec.ofNat_mul,
    BitVec.ofNat_toNat]

/-- An SError that is pending and not taken; in Debug state none is taken (49 R718). -/
abbrev State.DefersSError (s : State) : Prop := s.serrorPending = true ∧ (s.halted = true ∨ ¬SErrorDue s)

theorem State.esbPhysical_eq (s : State) : s.esbPhysical = if s.DefersSError then
    { s with disr := recorded s.cfg.disrLayout s.serrorIss, serrorPending := false } else s := by
  rw [State.esbPhysical, deferred_eq_recorded]
  refine if_congr ?_ rfl rfl
  rw [State.DefersSError, ← State.interruptTaken_serror]
  simp

/-- Whether a virtual SError is deferred (60 R849). -/
abbrev State.DefersVSError (s : State) : Prop :=
  s.cfg.haveEL2 = true ∧ s.isSecure = false ∧ s.p.el.toNat < 2 ∧ s.vserrorPending = true ∧ (s.halted = true ∨ s.p.a = true)

theorem State.esbVirtual_eq (s : State) : s.esbVirtual = if s.DefersVSError then
    { s with vdisr := recorded s.cfg.vdisrLayout s.vserrorIss, vserrorPending := false } else s := by
  simp only [State.esbVirtual, deferred_eq_recorded, Bool.and_eq_true, Bool.or_eq_true, decide_eq_true_eq,
    State.el2Acts_eq_true, and_assoc]

/-- What ESB defers, the physical SError before the virtual one. -/
theorem State.esb_eq (s : State) : s.esbPhysical.esbVirtual =
    let done := if s.DefersSError then
      { s with disr := recorded s.cfg.disrLayout s.serrorIss, serrorPending := false } else s
    if s.DefersVSError then
      { done with vdisr := recorded s.cfg.vdisrLayout s.vserrorIss, vserrorPending := false } else done := by
  rw [State.esbVirtual_eq, State.esbPhysical_eq]
  by_cases h : s.DefersSError
  · simp only [if_pos h]; rfl
  · simp only [if_neg h]

/-- `t` has all of `s` that decides where an SError is taken, with which syndrome and return address. -/
structure SameSErrorEntry (s t : State) : Prop where
  halted : t.halted = s.halted
  pc : t.pc = s.pc
  iss : t.serrorIss = s.serrorIss
  level : interruptLevel t 3 5 = interruptLevel s 3 5

theorem SameSErrorEntry.esbVirtual (s : State) : SameSErrorEntry s s.esbVirtual := by
  unfold State.esbVirtual
  split <;> exact ⟨rfl, rfl, rfl, rfl⟩

theorem SameSErrorEntry.esb (s : State) : SameSErrorEntry s s.esbPhysical.esbVirtual := by
  have hphysical : SameSErrorEntry s s.esbPhysical := by
    unfold State.esbPhysical
    split <;> exact ⟨rfl, rfl, rfl, rfl⟩
  have hvirtual := SameSErrorEntry.esbVirtual s.esbPhysical
  exact ⟨hvirtual.halted.trans hphysical.halted, hvirtual.pc.trans hphysical.pc, hvirtual.iss.trans hphysical.iss,
    hvirtual.level.trans hphysical.level⟩

theorem State.interruptTaken_esbVirtual (s : State) (k : Interrupt) :
    s.esbVirtual.interruptTaken k = s.interruptTaken k := by
  unfold State.esbVirtual
  split <;> rfl

/-- After the deferral an SError is taken exactly if one is due outside Debug state. -/
theorem State.esb_takes_iff (s : State) :
    (!s.esbPhysical.esbVirtual.halted && s.esbPhysical.esbVirtual.interruptTaken .serror) = true ↔
      s.halted = false ∧ SErrorDue s := by
  rw [(SameSErrorEntry.esb s).halted, State.interruptTaken_esbVirtual, Bool.and_eq_true, Bool.not_eq_true',
    State.esbPhysical_eq]
  refine and_congr_right fun hrun => ?_
  by_cases hdefer : s.DefersSError
  · have hnot : ¬SErrorDue s := hdefer.2.resolve_left (by simp [hrun])
    rw [if_pos hdefer]
    exact iff_of_false Bool.false_ne_true hnot
  · rw [if_neg hdefer]
    exact State.interruptTaken_serror

theorem errorBarrier_of_not_due (hras : s.cfg.haveRAS = true) (h : ¬(s.halted = false ∧ SErrorDue s)) :
    errorBarrier s = .next s.esbPhysical.esbVirtual.advance := by
  rw [errorBarrier, if_pos hras]
  exact if_neg (s.esb_takes_iff.not.mpr h)

theorem errorBarrier_of_due (hras : s.cfg.haveRAS = true) (h : s.halted = false ∧ SErrorDue s) :
    errorBarrier s = .next (s.esbPhysical.esbVirtual.takeInterrupt .serror (s.pc + 4#64)) := by
  rw [errorBarrier, if_pos hras, ← (SameSErrorEntry.esb s).pc]
  exact if_pos (s.esb_takes_iff.mpr h)

/-! ## The obligation -/

theorem Completes.of_noEffect (hexec : exec i s = noEffect s) : Completes i s .nothing :=
  ⟨s.advance, hexec, s.becomes_nothing⟩

/-- Settles O55: the waits by their checks in order, and ESB by what it defers and whether an SError is then due. -/
theorem hintsBarriersEvents : Obligations.HintsBarriersEvents := by
  intro s crm op2 deferred virtual physicalDone done
  have hdone : s.esbPhysical.esbVirtual = done := s.esb_eq
  have hpc : done.pc = s.pc := hdone ▸ (SameSErrorEntry.esb s).pc
  refine ⟨.of_noEffect rfl, .of_noEffect rfl, .of_noEffect rfl, .of_noEffect rfl, .of_noEffect rfl, .of_noEffect rfl,
    .of_noEffect rfl, ⟨_, rfl, s.becomes_nothing.clearMonitor⟩, rfl, rfl, fun hevent => ?wfeEvent, fun hevent => ?wfe,
    fun hpending => ?wfiPending, fun hpending => ?wfi, fun hras => ?nop, fun hras h => ?deferred, fun hras hrun hdue => ?due⟩
  case wfeEvent => exact congrArg (finish s) (if_pos hevent)
  case wfe => exact waits_of_checkWfx (congrArg (finish s) (if_neg (by simp [hevent])))
  case wfiPending => exact .of_finish (congrArg (finish s) (if_pos hpending)) s.becomes_nothing
  case wfi => exact waits_of_checkWfx (congrArg (finish s) (if_neg (ne_true_of_eq_false hpending)))
  case nop => exact ⟨s.advance, if_neg (by simp [hras]), s.becomes_nothing⟩
  case deferred =>
    have hesb : exec .esb s = .next s.esbPhysical.esbVirtual.advance := errorBarrier_of_not_due hras h
    rw [hesb, hdone, State.advance, hpc]
  case due =>
    refine ⟨_, errorBarrier_of_due hras ⟨hrun, hdue⟩, ?_⟩
    obtain ⟨-, -, hiss, hlevel⟩ := SameSErrorEntry.esb s
    rw [← syndrome_serror, ← hlevel, ← hiss, ← hdone]
    exact State.enters_takeInterrupt _ .serror _

end Sys2Proof.Machine
end

section
/-! Every instruction has a next state: no meaning stops the machine. -/

namespace Sys2Proof.Machine

variable {s : State}

/-- A result that is a next state. -/
def IsNext (r : Result) : Prop := ∃ t, r = .next t

theorem isNext_next (t : State) : IsNext (.next t) := ⟨t, rfl⟩

theorem isNext_raise (s : State) (e : Exc) : IsNext (raise s e) := ⟨_, rfl⟩

theorem isNext_finish (s : State) (r : Except Exc State) : IsNext (finish s r) := by
  cases r with
  | ok t => exact isNext_next _
  | error e => exact isNext_raise s e

theorem IsNext.ite {c : Prop} [Decidable c] {r r' : Result} (h : IsNext r) (h' : IsNext r') :
    IsNext (if c then r else r') := by
  split <;> assumption

theorem isNext_whenFeature {b : Bool} {r : Result} (h : IsNext r) : IsNext (whenFeature b s r) :=
  .ite h (isNext_raise s _)

/-! ## The sites with a choice -/

section Sites

variable {overlap : Bool} {mode : Indexing} {choice : StoreExclusiveChoice}

theorem isNext_atLoadWriteback {k : Writeback → Result} (h : ∀ wb, IsNext (k wb)) :
    IsNext (atLoadWriteback s overlap mode k) := by
  unfold atLoadWriteback
  cases s.cfg.constrain.ldWbackOverlap with
  | wbSuppress | unknown => exact .ite (h _) (h _)
  | undef => exact .ite (isNext_raise s _) (h _)
  | nop => exact .ite (isNext_next _) (h _)

theorem isNext_atStoreWriteback {k : Bool → Result} (h : ∀ b, IsNext (k b)) :
    IsNext (atStoreWriteback s overlap k) := by
  unfold atStoreWriteback
  cases s.cfg.constrain.stWbackOverlap with
  | none | unknown => exact .ite (h _) (h _)
  | undef => exact .ite (isNext_raise s _) (h _)
  | nop => exact .ite (isNext_next _) (h _)

theorem isNext_atLoadPair {k : Bool → Result} (h : ∀ b, IsNext (k b)) : IsNext (atLoadPair s overlap k) := by
  unfold atLoadPair
  cases s.cfg.constrain.ldPairOverlap with
  | unknown => exact .ite (h _) (h _)
  | undef => exact .ite (isNext_raise s _) (h _)
  | nop => exact .ite (isNext_next _) (h _)

theorem isNext_atStoreExclusive {k : Bool → Result} (h : ∀ b, IsNext (k b)) :
    IsNext (atStoreExclusive s choice overlap k) := by
  unfold atStoreExclusive
  cases choice with
  | unknown | none => exact .ite (h _) (h _)
  | undef => exact .ite (isNext_raise s _) (h _)
  | nop => exact .ite (isNext_next _) (h _)

end Sites

/-! ## The shared operations -/

section Accesses

variable {bytes shift : Nat} {ext : Extension} {acc : AccType} {mode : Indexing} {n t t2 rs rm : Reg} {offset : Addr}
  {option : BitVec 3}

theorem isNext_loadRegister : IsNext (loadRegister bytes ext acc mode n t offset s) :=
  isNext_atLoadWriteback fun _ => isNext_finish s _

theorem isNext_storeRegister : IsNext (storeRegister bytes acc mode n t offset s) :=
  isNext_atStoreWriteback fun _ => isNext_finish s _

theorem isNext_loadIndexed : IsNext (loadIndexed bytes ext rm option shift n t s) := by
  unfold loadIndexed
  cases s.indexOffset rm option shift with
  | some offset => exact isNext_loadRegister
  | none => exact isNext_raise s _

theorem isNext_storeIndexed : IsNext (storeIndexed bytes rm option shift n t s) := by
  unfold storeIndexed
  cases s.indexOffset rm option shift with
  | some offset => exact isNext_storeRegister
  | none => exact isNext_raise s _

theorem isNext_prefetchIndexed : IsNext (prefetchIndexed rm option shift s) := by
  unfold prefetchIndexed
  cases s.indexOffset rm option shift with
  | some offset => exact isNext_next _
  | none => exact isNext_raise s _

theorem isNext_loadPair : IsNext (loadPair bytes ext acc mode n t t2 offset s) :=
  isNext_atLoadWriteback fun _ => isNext_atLoadPair fun _ => isNext_finish s _

theorem isNext_storePair : IsNext (storePair bytes acc mode n t t2 offset s) :=
  isNext_atStoreWriteback fun _ => isNext_finish s _

theorem isNext_loadExclusivePair {sz : BitVec 1} : IsNext (loadExclusivePair sz acc n t t2 s) :=
  isNext_atLoadPair fun _ => isNext_finish s _

theorem isNext_storeExclusive {w : Nat} {size : ExclusiveData} {dataOverlap : Bool} {data : BitVec w} :
    IsNext (storeExclusive size acc rs n dataOverlap data s) :=
  isNext_atStoreExclusive fun _ => isNext_atStoreExclusive fun _ => isNext_finish s _

end Accesses

theorem isNext_hypervisorCall (imm : BitVec 16) : IsNext (hypervisorCall imm s) :=
  hypervisorCall_eq imm s ▸ isNext_raise s _

theorem isNext_secureMonitorCall (imm : BitVec 16) : IsNext (secureMonitorCall imm s) :=
  secureMonitorCall_eq imm s ▸ isNext_raise s _

theorem isNext_errorBarrier : IsNext (errorBarrier s) := .ite (.ite (isNext_next _) (isNext_next _)) (isNext_next _)

/-! ## Every instruction and every step -/

/-- Every instruction has a next state. -/
theorem exec_isNext (i : Instr) (s : State) : IsNext (exec i s) := by
  cases i with dsimp only [exec]
  | bCond | cbnz | cbz | tbnz | tbz | b | bl | blr | br | ret | dmb | dsb | hint | isb | nop | psbCsync | yield | sev | sevl
  | clrex | prfmImmediate | prfmLiteral | prfum | sysl | svc | brk => exact ⟨_, rfl⟩
  | adc | adcs | sbc | sbcs | ngc | ngcs | adr | adrp | asrv | lslv | lsrv | rorv | asrRegister | lslRegister | lsrRegister
  | rorRegister | ccmnImmediate | ccmnRegister | ccmpImmediate | ccmpRegister | csel | csinc | csinv | csneg | cinc | cinv
  | cneg | cset | csetm | cls | clz | rbit | rev32Bit | rev64Bit | rev16 | rev32 | rev64 | madd | msub | mneg | mul | smaddl
  | smsubl | umaddl | umsubl | smnegl | smull | umnegl | umull | smulh | umulh | sdiv | udiv | movToFromSP | sxtw | uxtb
  | uxth => exact ⟨_, rfl⟩
  | ldrImmediatePostIndex | ldrImmediatePreIndex | ldrImmediateUnsignedOffset | ldrbImmediatePostIndex
  | ldrbImmediatePreIndex | ldrbImmediateUnsignedOffset | ldrhImmediatePostIndex | ldrhImmediatePreIndex
  | ldrhImmediateUnsignedOffset | ldrsbImmediatePostIndex | ldrsbImmediatePreIndex | ldrsbImmediateUnsignedOffset
  | ldrshImmediatePostIndex | ldrshImmediatePreIndex | ldrshImmediateUnsignedOffset | ldrswImmediatePostIndex
  | ldrswImmediatePreIndex | ldrswImmediateUnsignedOffset | ldtr | ldtrb | ldtrh | ldtrsb | ldtrsh | ldtrsw | ldur
  | ldurb | ldurh | ldursb | ldursh | ldursw => exact isNext_loadRegister
  | strImmediatePostIndex | strImmediatePreIndex | strImmediateUnsignedOffset | strbImmediatePostIndex
  | strbImmediatePreIndex | strbImmediateUnsignedOffset | strhImmediatePostIndex | strhImmediatePreIndex
  | strhImmediateUnsignedOffset | sttr | sttrb | sttrh | stur | sturb | sturh => exact isNext_storeRegister
  | ldrRegister | ldrbRegister | ldrhRegister | ldrsbRegister | ldrshRegister | ldrswRegister => exact isNext_loadIndexed
  | strRegister | strbRegister | strhRegister => exact isNext_storeIndexed
  | prfmRegister => exact isNext_prefetchIndexed
  | ldnp | ldpPostIndex | ldpPreIndex | ldpSignedOffset | ldpswPostIndex | ldpswPreIndex | ldpswSignedOffset =>
    exact isNext_loadPair
  | stnp | stpPostIndex | stpPreIndex | stpSignedOffset => exact isNext_storePair
  | ldaxp | ldxp => exact isNext_loadExclusivePair
  | stlxr | stlxrb | stlxrh | stxr | stxrb | stxrh | stlxp | stxp => exact isNext_storeExclusive
  | ldlarb | ldlarh | ldlar | stllrb | stllrh | stllr | ldaddb | ldaddh | ldadd | ldclrb | ldclrh | ldclr | ldeorb | ldeorh
  | ldeor | ldsetb | ldseth | ldset | ldsmaxb | ldsmaxh | ldsmax | ldsminb | ldsminh | ldsmin | ldumaxb | ldumaxh | ldumax
  | lduminb | lduminh | ldumin | swpb | swph | swp | staddb | staddh | stadd | stclrb | stclrh | stclr | steorb | steorh
  | steor | stsetb | stseth | stset | stsmaxb | stsmaxh | stsmax | stsminb | stsminh | stsmin | stumaxb | stumaxh | stumax
  | stuminb | stuminh | stumin | casb | cash | cas | casp => exact isNext_whenFeature (isNext_finish s _)
  | dcps1 | dcps2 | dcps3 | drps | eret => exact .ite (isNext_raise s _) (isNext_next _)
  | hlt => exact .ite (isNext_next _) (isNext_raise s _)
  | hvc imm => exact isNext_hypervisorCall imm
  | smc imm => exact isNext_secureMonitorCall imm
  | esb => exact isNext_errorBarrier
  | _ => exact isNext_finish s _

/-- Outside Debug state every step has a next state. -/
theorem step_isNext (hrun : s.halted = false) : IsNext (step s) := by
  rw [step, hrun, if_neg Bool.false_ne_true]
  cases s.environment.nextInterrupt with
  | some k => exact isNext_next _
  | none =>
    dsimp only [State.runInstruction]
    cases s.environment.startStep.fetch with
    | error e => exact isNext_raise _ e
    | ok i => exact exec_isNext i _

end Sys2Proof.Machine
end

section
/-! Debug state: HLT, DCPS1 to DCPS3 and DRPS (49 R705 to R709; 60 R842 to R844). -/

namespace Sys2Proof.Machine

open Sys2Proof.Forms

variable {s : State} {i : Instr}

/-- What DCPS leaves (60 R843). -/
theorem changesLevel_of_exec {target : EL} (hexec : exec i s = .next (s.changeLevel target)) : ChangesLevel i s target :=
  ⟨s.unknownAt 0, s.unknownAt 1, s.unknownAt 2, s.unknownAt 3, s.unknownAt 4, s.draws + 5, hexec⟩

theorem debugChange1_eq (s : State) : debugChange1 s =
    if s.halted = false ∨ s.p.el = .el0 ∧ Rerouted s then raise s .undefined
    else .next (s.changeLevel (s.raisedTo .el1)) := by
  simp only [debugChange1, Bool.or_eq_true, Bool.not_eq_true', Bool.and_eq_true, decide_eq_true_eq, State.tge_eq_true]

theorem debugChange2_eq (s : State) : debugChange2 s =
    if s.halted = false ∨ s.cfg.haveEL2 = false ∨ s.isSecure = true ∧ s.p.el.toNat < 2 then raise s .undefined
    else .next (s.changeLevel (s.raisedTo .el2)) := by
  simp only [debugChange2, Bool.or_eq_true, Bool.not_eq_true', Bool.and_eq_true, decide_eq_true_eq, or_assoc, and_comm]

theorem debugChange3_eq (s : State) : debugChange3 s =
    if s.halted = false ∨ s.cfg.haveEL3 = false ∨ s.edscr.getLsbD 16 = true then raise s .undefined
    else .next (s.changeLevel .el3) := by
  simp only [debugChange3, Bool.or_eq_true, Bool.not_eq_true', or_assoc]

theorem halt_eq (s : State) : halt s =
    if s.edscr.getLsbD 14 = true ∧ s.haltingAllowed = true then
      .next { s with halted := true, dlr := s.pc, dspsr := s.p.image }
    else raise s .undefined := by
  simp only [halt, Bool.and_eq_true]

theorem debugRestore_of_el0 (h : s.p.el = .el0) : debugRestore s = raise s .undefined := by
  simp [debugRestore, h]

/-- Settles O56: each instruction by its conditions, and every step outside Debug state has a next state. -/
theorem debugInstructions : Obligations.DebugInstructions := by
  intro s imm halts atLeast
  have hhlt : exec (.hlt imm) s = _ := halt_eq s
  have hdcps1 : exec (.dcps1 imm) s = _ := debugChange1_eq s
  have hdcps2 : exec (.dcps2 imm) s = _ := debugChange2_eq s
  have hdcps3 : exec (.dcps3 imm) s = _ := debugChange3_eq s
  refine ⟨fun h => ?_, fun h => ?_, step_isNext, fun h => ?_, fun hh h => ?_, fun hh h2 h => ?_, fun hh h3 h => ?_,
    fun hh h => ?_, fun h => ⟨?_, ?_, ?_, ?_⟩, fun h => ?_, fun h => ?_, fun h => ?_, fun h => ?_⟩
  · exact hhlt.trans (if_pos h)
  · exact if_pos h
  · exact .of_raise (hhlt.trans (if_neg h))
  · exact changesLevel_of_exec (hdcps1.trans (if_neg (by simp [hh, h])))
  · have hsecure : ¬(s.isSecure = true ∧ s.p.el.toNat < 2) := fun hs => h.elim (by simp [hs.1]) (Nat.not_le.mpr hs.2)
    exact changesLevel_of_exec (hdcps2.trans (if_neg (by simp only [hh, h2, hsecure]; simp)))
  · exact changesLevel_of_exec (hdcps3.trans (if_neg (by simp only [hh, h3, h]; simp)))
  · exact ⟨_, _, _, if_neg (by simp [hh, h])⟩
  · exact .of_raise (debugChange1_eq_undefined h)
  · exact .of_raise (debugChange2_eq_undefined h)
  · exact .of_raise (debugChange3_eq_undefined h)
  · exact .of_raise (debugRestore_eq_undefined h)
  · exact .of_raise (hdcps1.trans (if_pos (.inr h)))
  · exact .of_raise (hdcps2.trans (if_pos (.inr h)))
  · exact .of_raise (hdcps3.trans (if_pos (.inr h)))
  · exact .of_raise (debugRestore_of_el0 h)

end Sys2Proof.Machine
end

section
/-! MSR (immediate), and what EL0 may not do (10 R61; 49 R732; 60 R805). -/

namespace Sys2Proof.Machine

open Sys2Proof.Forms

variable {s : State}

/-- A write of PSTATE. -/
theorem State.becomes_withPState (s : State) (p : PState) : s.Becomes { pstate := some p } { s with p := p }.advance where
  reg _ _ := rfl
  zero := rfl
  sp level := by cases level <;> exact (ite_self _).symm
  pstate := rfl
  pc := rfl
  monitor := rfl
  mem _ := rfl
  system := by constructor <;> rfl

section Fields

variable {op1 op2 : BitVec 3} {m : BitVec 4} {field : PStateField}

theorem writesPState_of_field (hfield : pstateField op1 op2 = some field) (hpresent : s.pstateFieldPresent field = true)
    (htrap : ¬(op1 = 3#3 ∧ s.daifTrapped = true)) : WritesPState op1 op2 m s (s.p.writeField field m) := by
  refine Completes.of_finish (t := { s with p := s.p.writeField field m }) (congrArg (finish s) ?_)
    (s.becomes_withPState _)
  rw [hfield]
  simp only [hpresent, htrap, Bool.not_true, Bool.false_eq_true, if_false]

theorem traps_msrImmediate_absent (hfield : pstateField op1 op2 = none ∨
    ∃ field, pstateField op1 op2 = some field ∧ s.pstateFieldPresent field = false) :
    Traps (.msrImmediate op1 m op2) s .undefined := by
  refine Traps.of_finish (congrArg (finish s) ?_)
  rcases hfield with h | ⟨field, h, habsent⟩
  · rw [h]
  · rw [h]
    simp only [habsent, Bool.not_false, if_true]

theorem traps_msrImmediate_trapped (hfield : pstateField 3#3 op2 = some field) (hpresent : s.pstateFieldPresent field = true)
    (htrap : s.daifTrapped = true) :
    Traps (.msrImmediate 3#3 m op2) s (.systemRegisterTrap .el1 0#2 op2 3#3 4#4 31#5 m 0#1) := by
  refine Traps.of_finish (congrArg (finish s) ?_)
  rw [hfield]
  simp only [hpresent, htrap, Bool.not_true, Bool.false_eq_true, if_false, and_self, if_true]

end Fields

/-- Settles O58: each `op1:op2` names its field, which is there, absent, or trapped. -/
theorem pStateMoves : Obligations.PStateMoves := by
  intro s m p trap
  have hel1 {c : Prop} : ¬((0#3 : BitVec 3) = 3#3 ∧ c) := fun h => absurd h.1 (by decide)
  refine ⟨fun hel => writesPState_of_field (field := .sp) rfl (decide_eq_true hel) hel1,
    fun hel hpan => writesPState_of_field (field := .pan) rfl (by simp [State.pstateFieldPresent, hpan, hel, p]) hel1,
    fun hel huao => writesPState_of_field (field := .uao) rfl (by simp [State.pstateFieldPresent, huao, hel, p]) hel1,
    fun hpan => traps_msrImmediate_absent (.inr ⟨.pan, rfl, by simp [State.pstateFieldPresent, hpan]⟩),
    fun huao => traps_msrImmediate_absent (.inr ⟨.uao, rfl, by simp [State.pstateFieldPresent, huao]⟩),
    fun h => writesPState_of_field (field := .daifSet) rfl rfl fun ht => h (State.daifTrapped_eq_true.mp ht.2),
    fun h => writesPState_of_field (field := .daifClr) rfl rfl fun ht => h (State.daifTrapped_eq_true.mp ht.2),
    fun h => ⟨traps_msrImmediate_trapped (field := .daifSet) rfl rfl (State.daifTrapped_eq_true.mpr h),
      traps_msrImmediate_trapped (field := .daifClr) rfl rfl (State.daifTrapped_eq_true.mpr h)⟩⟩

/-! ## EL0 -/

/-- The fields of `op1` = 0 are not EL0's (49 R732). -/
theorem pstateField_zero_absent (h0 : s.p.el = .el0) (op2 : BitVec 3) : pstateField 0#3 op2 = none ∨
    ∃ field, pstateField 0#3 op2 = some field ∧ s.pstateFieldPresent field = false := by
  have hfields : ∀ op2, pstateField 0#3 op2 = none ∨ pstateField 0#3 op2 = some .uao ∨
      pstateField 0#3 op2 = some .pan ∨ pstateField 0#3 op2 = some .sp := by decide
  rcases hfields op2 with h | h | h | h
  · exact .inl h
  all_goals exact .inr ⟨_, h, by simp [State.pstateFieldPresent, h0]⟩

/-- EL0 may use only the system registers and operations of `op1` = 3 (10 R61(2)). -/
theorem State.levelAllows_el0 (h0 : s.p.el = .el0) {op1 : BitVec 3} (h : op1 ≠ 3#3) : s.levelAllows op1 = false := by
  rw [← Bool.not_eq_true, State.levelAllows_eq_true, LevelAllows]
  simp [h0, h]

theorem State.checkSysReg_el0 (h0 : s.p.el = .el0) {op0 : BitVec 2} {op1 : BitVec 3} {crn crm : BitVec 4} {op2 : BitVec 3}
    {rt : Reg} {read : Bool} (h : op1 ≠ 3#3) : s.checkSysReg op0 op1 crn crm op2 rt read = .error .undefined := by
  unfold State.checkSysReg
  split
  · rfl
  · rw [State.levelAllows_el0 h0 h]
    rfl

theorem State.checkSysOp_el0 (h0 : s.p.el = .el0) {op1 : BitVec 3} {crn crm : BitVec 4} {op2 : BitVec 3} {rt : Reg}
    (h : op1 ≠ 3#3) : s.checkSysOp op1 crn crm op2 rt = .error .undefined := by
  unfold State.checkSysOp
  split
  · rfl
  · rw [State.levelAllows_el0 h0 h]
    rfl

/-- Settles O60: the first check of each form fails at EL0. -/
theorem privilegedAtEL0AreUndefined : Obligations.PrivilegedAtEL0AreUndefined := by
  intro s imm m o0 op1 crn crm op2 rt h0
  have hhvc : hypervisorCall imm s = raise s .undefined := by rw [hypervisorCall_eq, if_neg fun h => h.2.1 h0]
  have hsmc : secureMonitorCall imm s = raise s .undefined := by rw [secureMonitorCall_eq, if_neg fun h => h.2 h0]
  refine ⟨.of_raise (if_pos h0), .of_raise (debugRestore_of_el0 h0), .of_raise hhvc, .of_raise hsmc,
    traps_msrImmediate_absent (pstateField_zero_absent h0 op2), fun h => ⟨?_, ?_, ?_⟩⟩
  · exact traps_mrs (State.checkSysReg_el0 h0 h)
  · exact traps_msrRegister (State.checkSysReg_el0 h0 h)
  · refine Traps.of_finish (congrArg (finish s) ?_)
    rw [State.checkSysOp_el0 h0 h]
    rfl

end Sys2Proof.Machine
end

section
/-! SYS and its aliases AT, DC, IC and TLBI (49 R740 to R747). -/

namespace Sys2Proof.Machine

open Sys2Proof.Forms

variable {s : State}

/-! ## The operations (49 R744 to R747) -/

/-- Where no two rows have one key, the row that a search finds is the row with the key. -/
theorem find?_key_eq_some {α β : Type} [DecidableEq α] {rows : List (α × β)} (hkeys : (rows.map Prod.fst).Nodup) {key : α}
    {value : β} : (rows.find? (fun row => row.1 = key)).map Prod.snd = some value ↔ (key, value) ∈ rows := by
  constructor
  · intro h
    obtain ⟨⟨k, v⟩, hfind, rfl⟩ := Option.map_eq_some_iff.mp h
    obtain rfl : k = key := by simpa using List.find?_some hfind
    exact List.mem_of_find?_eq_some hfind
  · intro hmem
    obtain ⟨row, hfind⟩ : ∃ row, rows.find? (fun row => row.1 = key) = some row :=
      Option.isSome_iff_exists.mp (List.find?_isSome.mpr ⟨_, hmem, by simp⟩)
    have hkey : row.1 = key := by simpa using List.find?_some hfind
    obtain rfl : row = (key, value) := List.inj_on_of_nodup_map hkeys (List.mem_of_find?_eq_some hfind) hmem hkey
    rw [hfind]
    rfl

theorem systemTable_keys_nodup : (systemTable.map Prod.fst).Nodup := by decide

/-- The operations of the machine are those of the table. -/
theorem sysOpAt_eq_some {key : BitVec 14} {op : SysOp} : sysOpAt key = some op ↔ (key, op) ∈ systemTable := by
  have hrows : atTable ++ dcTable ++ icTable ++ tlbiKeys.map (fun k => (k, SysOp.tlbi)) = systemTable := rfl
  rw [sysOpAt, hrows]
  exact find?_key_eq_some systemTable_keys_nodup

/-! ## The checks (10 R61; 49 R740) -/

theorem State.opLevelPresent_eq_true {op1 : BitVec 3} : s.opLevelPresent op1 = true ↔ LevelExists s op1 := by
  simp only [State.opLevelPresent, LevelExists, Bool.and_eq_true, Bool.or_eq_true, decide_eq_true_eq, ne_eq,
    Decidable.imp_iff_not_or]

theorem State.sysOpPresent_eq_true {op : SysOp} : s.sysOpPresent op = true ↔ FeatureOf s op := by
  cases op with
  | translate level kind pan => cases pan <;> simp [State.sysOpPresent, FeatureOf]
  | dcAddress needsWrite needsPoP => cases needsPoP <;> simp [State.sysOpPresent, FeatureOf]
  | _ => simp [State.sysOpPresent, FeatureOf]

theorem State.cacheTrapped_eq_true {op : SysOp} : s.cacheTrapped op = true ↔ CacheTrapped s op := by
  cases op <;> simp [State.cacheTrapped, CacheTrapped]

open Classical in
/-- The checks of an operation of the table, in the words of the statements. -/
theorem State.checkSysOp_of_mem {op1 : BitVec 3} {crn crm : BitVec 4} {op2 : BitVec 3} {op : SysOp}
    (h : (op1 ++ crn ++ crm ++ op2, op) ∈ systemTable) (rt : Reg) : s.checkSysOp op1 crn crm op2 rt =
      if LevelAllows s op1 ∧ LevelExists s op1 ∧ FeatureOf s op then
        if CacheTrapped s op then .error (.systemRegisterTrap .el1 1#2 op2 op1 crn rt crm 0#1) else .ok op
      else .error .undefined := by
  rw [State.checkSysOp, sysOpKey, sysOpAt_eq_some.mpr h]
  dsimp only
  rw [← ite_not]
  refine if_congr ?_ (if_congr State.cacheTrapped_eq_true rfl rfl) rfl
  rw [← State.levelAllows_eq_true, ← State.opLevelPresent_eq_true, ← State.sysOpPresent_eq_true]
  simp only [Bool.or_eq_true, Bool.not_eq_true', ← Bool.not_eq_true, not_or, not_not, and_assoc]

/-! ## AT (49 R744) -/

theorem getLsbD_shiftLeft_sub_one (n : Nat) {k : Nat} (hk : k < 64) :
    (1#64 <<< n - 1#64).getLsbD k = decide (k < n) := by
  by_cases hn : n < 64
  · have htoNat : (1#64 <<< n - 1#64).toNat = 2 ^ n - 1 := by
      have hlt : 2 ^ n < 2 ^ 64 := Nat.pow_lt_pow_right (by omega) hn
      have hpos : 0 < 2 ^ n := Nat.two_pow_pos n
      rw [BitVec.toNat_sub, BitVec.toNat_shiftLeft, Nat.shiftLeft_eq]
      simp only [BitVec.toNat_ofNat]
      omega
    rw [BitVec.getLsbD, htoNat, Nat.testBit_two_pow_sub_one]
  · have hzero : 1#64 <<< n = 0#64 := BitVec.shiftLeft_eq_zero (by omega)
    rw [hzero, show (0#64 - 1#64 : DWord) = BitVec.allOnes 64 from rfl, BitVec.getLsbD_allOnes]
    simp [hk, show k < n by omega]

/-- The bits of PAR_EL1 that hold the address. -/
theorem State.getLsbD_parAddressBits {k : Nat} (hk : k < 64) :
    s.parAddressBits.getLsbD k = decide (12 ≤ k ∧ k < s.cfg.paBits) := by
  have hlow : (~~~0xFFF#64).getLsbD k = decide (12 ≤ k) := by interval_cases k <;> rfl
  rw [State.parAddressBits, BitVec.getLsbD_and, getLsbD_shiftLeft_sub_one _ hk, hlow, Bool.and_comm, ← Bool.decide_and]

theorem State.getLsbD_parAfter_zero (success : Bool) (a : Addr) : (s.parAfter success a).getLsbD 0 = !success := by
  cases success with
  | false => rw [State.parAfter, if_neg Bool.false_ne_true, getLsbD_writeMasked, if_pos (by decide)]; rfl
  | true =>
    rw [State.parAfter, if_pos rfl, getLsbD_writeMasked, if_pos (by rw [BitVec.getLsbD_or, Bool.or_eq_true]; exact .inr rfl),
      BitVec.getLsbD_and]
    exact Bool.and_false _

theorem State.getLsbD_parAfter_address (a : Addr) {k : Nat} (h12 : 12 ≤ k) (hk : k < s.cfg.paBits) :
    (s.parAfter true a).getLsbD k = a.getLsbD k := by
  by_cases hk64 : k < 64
  · have hone : (~~~1#64).getLsbD k = true := by interval_cases k <;> rfl
    rw [State.parAfter, if_pos rfl, getLsbD_writeMasked, BitVec.getLsbD_or, State.getLsbD_parAddressBits hk64]
    simp only [h12, hk, and_self, decide_true, Bool.true_or, if_true, BitVec.getLsbD_and, hone, Bool.and_true]
  · rw [BitVec.getLsbD_of_ge _ k (by omega), BitVec.getLsbD_of_ge _ k (by omega)]

/-! ## Cache operations by address (49 R745, R746) -/

theorem State.checkCache_eq_ok {a : Addr} {n : Nat} {needsWrite : Bool}
    (h : ∀ k, k < n → s.mapped (a + BitVec.ofNat 64 k) = true ∧
      (needsWrite = true → s.Permitted .normal .write (a + BitVec.ofNat 64 k))) :
    s.checkCache a n needsWrite = .ok () := by
  rw [State.checkCache, firstByte_eq_none.mpr fun k hk => by simp [(h k hk).1]]
  dsimp only
  rw [firstByte_eq_none.mpr fun k hk => ?_]
  cases hw : needsWrite with
  | false => rfl
  | true => simp [State.permits_eq_true.mpr ((h k hk).2 hw)]

theorem State.checkCache_of_cacheAbort {a : Addr} {n : Nat} {needsWrite : Bool} {e : Exc}
    (h : CacheAbort s a n (needsWrite = true) e) : s.checkCache a n needsWrite = .error e := by
  rw [State.checkCache]
  rcases h with ⟨k, ⟨hk, hbefore, hbad⟩, rfl⟩ | ⟨hmapped, rfl, k, ⟨hk, hbefore, hbad⟩, rfl⟩
  · rw [firstByte_eq_some hk (fun j hj => by simp [hbefore j hj]) (by simpa using hbad)]
  · rw [firstByte_eq_none.mpr fun j hj => by simp [hmapped j hj]]
    dsimp only
    rw [firstByte_eq_some hk (fun j hj => by simp [State.permits_eq_true.mpr (hbefore j hj)])
      (by simpa using mt State.permits_eq_true.mp hbad)]

/-! ## The block of DC ZVA (20 R136) -/

theorem ushiftRight_eq_iff {a b : Addr} {n : Nat} : a >>> n = b >>> n ↔ a.toNat / 2 ^ n = b.toNat / 2 ^ n := by
  rw [← BitVec.toNat_inj, BitVec.toNat_ushiftRight, BitVec.toNat_ushiftRight, Nat.shiftRight_eq_div_pow,
    Nat.shiftRight_eq_div_pow]

theorem State.zvaBase_eq_blockBase (s : State) (a : Addr) : s.zvaBase a = blockBase s a := by
  apply BitVec.eq_of_toNat_eq
  rw [State.zvaBase, blockBase, BitVec.toNat_shiftLeft, BitVec.toNat_ushiftRight, Nat.shiftRight_eq_div_pow,
    Nat.shiftLeft_eq, BitVec.toNat_ofNat]

/-- A byte is in the block exactly if it is less than the size of the block above its first byte. -/
theorem inBlock_iff (s : State) (a b : Addr) : InBlock s a b ↔
    (b - blockBase s a).toNat < 2 ^ s.cfg.dczvaLog2Bytes := by
  have hn : s.cfg.dczvaLog2Bytes ≤ 64 := by
    have := s.cfg.dczvaBS.isLt
    unfold Config.dczvaLog2Bytes
    omega
  rw [InBlock, ushiftRight_eq_iff, blockBase]
  generalize s.cfg.dczvaLog2Bytes = n at hn ⊢
  have hpos : 0 < 2 ^ n := Nat.two_pow_pos n
  obtain ⟨m, hm⟩ : 2 ^ n ∣ 2 ^ 64 := Nat.pow_dvd_pow 2 hn
  have ha := a.isLt
  have hb := b.isLt
  have hbase : a.toNat / 2 ^ n * 2 ^ n ≤ a.toNat := Nat.div_mul_le_self _ _
  have hna : a.toNat < (a.toNat / 2 ^ n + 1) * 2 ^ n := Nat.lt_mul_of_div_lt (Nat.lt_succ_self _) hpos
  have hlast : (a.toNat / 2 ^ n + 1) * 2 ^ n ≤ 2 ^ 64 := by
    have hblocks : a.toNat / 2 ^ n < m := Nat.div_lt_of_lt_mul (hm ▸ ha)
    rw [hm, Nat.mul_comm]
    exact Nat.mul_le_mul_left _ hblocks
  have hiff : a.toNat / 2 ^ n = b.toNat / 2 ^ n ↔
      a.toNat / 2 ^ n * 2 ^ n ≤ b.toNat ∧ b.toNat < (a.toNat / 2 ^ n + 1) * 2 ^ n := by
    rw [← Nat.le_div_iff_mul_le hpos, ← Nat.div_lt_iff_lt_mul hpos]
    omega
  rw [hiff, BitVec.toNat_sub, BitVec.toNat_ofNat]
  generalize a.toNat / 2 ^ n = q at *
  rw [Nat.add_mul, Nat.one_mul] at *
  generalize 2 ^ n = size at *
  generalize q * size = base at *
  omega

/-- Every byte of the block is above its first byte. -/
theorem inBlock_blockBase_add (s : State) (a : Addr) {k : Nat} (hk : k < 2 ^ s.cfg.dczvaLog2Bytes) :
    InBlock s a (blockBase s a + BitVec.ofNat 64 k) := by
  rw [inBlock_iff, BitVec.add_comm, BitVec.add_sub_cancel, BitVec.toNat_ofNat]
  exact (Nat.mod_le _ _).trans_lt hk

theorem State.becomes_zeroBlock (hm : s.mem.wf) (a : Addr) :
    s.Becomes { mem := fun b => if InBlock s a b then some 0#8 else none }
      { s with mem := s.mem.zero (blockBase s a) (2 ^ s.cfg.dczvaLog2Bytes) }.advance where
  reg _ _ := rfl
  zero := rfl
  sp level := by cases level <;> exact (ite_self _).symm
  pstate := rfl
  pc := rfl
  monitor := rfl
  mem b := by
    have hsize : 2 ^ s.cfg.dczvaLog2Bytes ≤ 2 ^ 64 := by
      have := s.cfg.dczvaBS.isLt
      exact Nat.pow_le_pow_right (by omega) (by unfold Config.dczvaLog2Bytes; omega)
    rw [State.advance_mem, Memory.byte_zero hm _ b _ hsize]
    simp only [← inBlock_iff]
    split <;> rfl
  system := by constructor <;> rfl

/-! ## The effects -/

section Effects

variable {i : Instr} {a : DWord}

theorem traps_of_checkCache {e : Exc} {base : Addr} {n : Nat} {needsWrite : Bool} {t : State}
    (hexec : exec i s = finish s ((s.checkCache base n needsWrite).map fun _ => t))
    (he : CacheAbort s base n (needsWrite = true) e) : Traps i s e := by
  rw [State.checkCache_of_cacheAbort he] at hexec
  exact .of_finish hexec

theorem completes_of_checkCache {base : Addr} {n : Nat} {needsWrite : Bool} {t : State} {w : Writes}
    (hexec : exec i s = finish s ((s.checkCache base n needsWrite).map fun _ => t))
    (hok : s.checkCache base n needsWrite = .ok ()) (h : s.Becomes w t.advance) : Completes i s w := by
  rw [hok] at hexec
  exact .of_finish hexec h

/-- A single byte. -/
theorem State.checkCache_one {needsWrite : Bool} (hmapped : s.mapped a = true)
    (hpermitted : needsWrite = true → s.Permitted .normal .write a) : s.checkCache a 1 needsWrite = .ok () :=
  State.checkCache_eq_ok fun k hk => by
    obtain rfl : k = 0 := by omega
    simpa using ⟨hmapped, hpermitted⟩

theorem systemEffect_of_exec {op : SysOp} (hexec : exec i s = finish s (s.sysInstr op a)) : SystemEffect i s a op := by
  cases op with
  | translate level kind pan =>
    refine ⟨_, _, hexec, s.getLsbD_parAfter_zero _ a, fun hpar k h12 hk => ?_⟩
    have hsuccess : s.translates level kind pan a = true := by
      rw [State.getLsbD_parAfter_zero] at hpar
      simpa using hpar
    rw [hsuccess]
    exact State.getLsbD_parAfter_address a h12 hk
  | dcZva =>
    rw [State.sysInstr, State.zvaBase_eq_blockBase] at hexec
    refine ⟨fun hm hblock => completes_of_checkCache hexec (State.checkCache_eq_ok fun k hk => ?_)
      (State.becomes_zeroBlock hm a), fun e he => traps_of_checkCache hexec (by simpa using he)⟩
    obtain ⟨hmapped, hpermitted⟩ := hblock _ (inBlock_blockBase_add s a hk)
    exact ⟨hmapped, fun _ => hpermitted⟩
  | dcAddress needsWrite needsPoP =>
    exact ⟨fun hmapped hpermitted => completes_of_checkCache hexec (State.checkCache_one hmapped hpermitted)
      s.becomes_nothing, fun e he => traps_of_checkCache hexec he⟩
  | icAddress =>
    exact ⟨fun hmapped => completes_of_checkCache hexec (State.checkCache_one hmapped (by simp)) s.becomes_nothing,
      fun e he => traps_of_checkCache hexec (by simpa using he)⟩
  | dcSetWay | icAll | tlbi => exact .of_finish hexec s.becomes_nothing

theorem runsSystem_of_exec {op1 : BitVec 3} {crn crm : BitVec 4} {op2 : BitVec 3} {rt : Reg}
    (hexec : exec i s = systemInstruction op1 crn crm op2 rt s) : RunsSystem i s op1 crn crm op2 rt := by
  intro op hmem usable
  rw [systemInstruction, State.checkSysOp_of_mem hmem] at hexec
  refine ⟨fun h => ?_, fun h htrap => ?_, fun h htrap => ?_⟩
  · rw [if_neg h] at hexec
    exact .of_finish hexec
  · rw [if_pos h, if_pos htrap] at hexec
    exact .of_finish hexec
  · rw [if_pos h, if_neg htrap] at hexec
    exact systemEffect_of_exec hexec

end Effects

theorem traps_sys_of_not_mem {op1 : BitVec 3} {crn crm : BitVec 4} {op2 : BitVec 3} {rt : Reg}
    (h : ∀ op, (op1 ++ crn ++ crm ++ op2, op) ∉ systemTable) : Traps (.sys op1 crn crm op2 rt) s .undefined := by
  have hnone : sysOpAt (sysOpKey op1 crn crm op2) = none :=
    Option.eq_none_iff_forall_ne_some.mpr fun op hop => h op (sysOpAt_eq_some.mp hop)
  refine Traps.of_finish (congrArg (finish s) ?_)
  rw [State.checkSysOp, hnone]
  rfl

/-- Settles O59: the table of the machine is that of the rules, and every form runs the operation at its key. -/
theorem systemInstructions : Obligations.SystemInstructions := by
  intro s op1 crn crm crm0 op2 rt
  have hcrm : 4#3 ++ crm0 = 8#4 ||| crm0.setWidth 4 := by revert crm0; decide
  exact ⟨fun _ _ => sysOpAt_eq_some, runsSystem_of_exec rfl, hcrm ▸ runsSystem_of_exec rfl, runsSystem_of_exec rfl,
    runsSystem_of_exec rfl, runsSystem_of_exec rfl, traps_sys_of_not_mem, .of_raise rfl⟩

end Sys2Proof.Machine
end

section
/-! Loads and stores at a register offset, of pairs, and ordered ones, and the aborts of all loads and stores of one register
or of a pair (46 R500 to R510; 47 R540 to R545, R561 to R580). -/

namespace Sys2Proof.Machine

open Sys2Proof.Forms

/-! ## Register offsets (46 R500) -/

section Indexed

variable {s : State} {bytes shift : Nat} {ext : Extension} {rm n t : Reg} {option : BitVec 3}

theorem loadIndexed_eq_loadRegister (h : option.getLsbD 1 = true) : loadIndexed bytes ext rm option shift n t s =
    loadRegister bytes ext .normal .offset n t (Forms.extended (s.readX rm) option shift) s := by
  rw [loadIndexed, indexOffset_eq_some s rm h]

theorem storeIndexed_eq_storeRegister (h : option.getLsbD 1 = true) : storeIndexed bytes rm option shift n t s =
    storeRegister bytes .normal .offset n t (Forms.extended (s.readX rm) option shift) s := by
  rw [storeIndexed, indexOffset_eq_some s rm h]

end Indexed

/-! ## Ordered accesses (47 R560(c)) -/

section Ordered

variable {s : State} {bytes : Nat} {acc : AccType} {n t : Reg}

theorem State.writeX_setWidth (s : State) (r : Reg) {w : Nat} (v : BitVec w) :
    s.writeX r (v.setWidth 64) = s.writeX r v := by
  unfold State.writeX
  rw [BitVec.setWidth_eq]

/-- An acquire load is a load at no offset. -/
theorem loadOrdered_eq_loadRegister :
    loadOrdered bytes acc n t s = loadRegister bytes .zero acc .offset n t 0#64 s := by
  rw [loadRegister_apart (mode := .offset) fun h => absurd h Bool.false_ne_true]
  simp only [loadOrdered, State.loadOne, Indexing.address, BitVec.add_zero, Extension.apply, State.writeX_setWidth]
  rfl

/-- A release store is a store at no offset. -/
theorem storeOrdered_eq_storeRegister :
    storeOrdered bytes acc n t s = storeRegister bytes acc .offset n t 0#64 s := by
  rw [storeRegister_apart (mode := .offset) fun h => absurd h Bool.false_ne_true]
  simp only [storeOrdered, State.storeOne, Indexing.address, BitVec.add_zero, Bool.false_eq_true, if_false]
  cases s.baseAddress n with
  | error e => rfl
  | ok base =>
    simp only [Except.ok_bind]
    cases s.memWrite base bytes (s.readX t) acc <;> rfl

theorem whenFeature_of_true {have_ : Bool} {r : Result} (h : have_ = true) : whenFeature have_ s r = r := if_pos h

theorem traps_of_whenFeature {i : Instr} {have_ : Bool} {r : Result} (hexec : exec i s = whenFeature have_ s r)
    (h : have_ = false) : Traps i s .undefined :=
  .of_raise (hexec.trans (if_neg (by simp [h])))

end Ordered

/-! ## A pair (47 R540(d)) -/

section Pairs

variable {s : State} {bytes : Nat} {ext : Extension} {acc : AccType} {form : PairForm} {rn rt rt2 : Reg} {offset : Addr}

/-- Where the base is not written or not transferred, the machine sees no overlap. -/
theorem pairOverlap_eq_false (h : ¬form.BaseOverlaps rn rt rt2) :
    (form.indexing.writesBack && (decide (rt = rn) || decide (rt2 = rn)) && decide (rn ≠ 31#5)) = false := by
  rw [← Bool.not_eq_true]
  intro hover
  simp only [Bool.and_eq_true, Bool.or_eq_true, decide_eq_true_eq] at hover
  obtain ⟨⟨hwrites, hsame⟩, hrn⟩ := hover
  exact h ⟨fun hform => by simp [hform, PairForm.indexing, Indexing.writesBack] at hwrites, hrn,
    hsame.imp Eq.symm Eq.symm⟩

theorem loadPair_apart (hne : rt ≠ rt2) (h : ¬form.BaseOverlaps rn rt rt2) :
    loadPair bytes ext acc form.indexing rn rt rt2 offset s =
      finish s (s.loadTwo bytes ext acc form.indexing rn rt rt2 offset false form.indexing.writeback) := by
  rw [loadPair_eq_of_ne hne, pairOverlap_eq_false h]
  rfl

theorem storePair_apart (h : ¬form.BaseOverlaps rn rt rt2) :
    storePair bytes acc form.indexing rn rt rt2 offset s =
      finish s (s.storeTwo bytes acc form.indexing rn rt rt2 offset false) := by
  rw [storePair_eq, pairOverlap_eq_false h]
  rfl

/-- A load pair of one register does what the implementation chose (47 R540(d) step 2). -/
theorem loadPair_choices {i : Instr} {k : Bool → Result} {same : Bool} (hexec : exec i s = atLoadPair s same k)
    (hsame : same = true) :
    let choice := s.cfg.constrain.ldPairOverlap
    (choice = .undef → Traps i s .undefined) ∧ (choice = .nop → Completes i s .nothing) ∧
    (choice = .unknown → exec i s = k true) := by
  rw [atLoadPair, if_pos hsame] at hexec
  refine ⟨fun h => .of_raise ?_, fun h => ⟨s.advance, ?_, s.becomes_nothing⟩, fun h => ?_⟩
  all_goals rw [hexec, h]

/-- What a load pair of one register writes to its base, once the first check has let it pass. -/
def PairWriteback (form : PairForm) (rn rt rt2 : Reg) (wb : Writeback) : Prop :=
  form.BaseOverlaps rn rt rt2 ∧ (wb = .none ∨ wb = .unknown) ∨
    ¬form.BaseOverlaps rn rt rt2 ∧ wb = form.indexing.writeback

/-- A load pair of one register reaches its own choice, unless the base overlaps and that choice ends it. -/
theorem loadPair_same {i : Instr} (hexec : exec i s = loadPair bytes ext acc form.indexing rn rt rt2 offset s)
    (hbase : form.BaseOverlaps rn rt rt2 →
      s.cfg.constrain.ldWbackOverlap = .wbSuppress ∨ s.cfg.constrain.ldWbackOverlap = .unknown) :
    ∃ wb, PairWriteback form rn rt rt2 wb ∧ exec i s = atLoadPair s (decide (rt = rt2)) fun isUnknown =>
      finish s (s.loadTwo bytes ext acc form.indexing rn rt rt2 offset isUnknown wb) := by
  by_cases hover : form.BaseOverlaps rn rt rt2
  · obtain ⟨-, -, hkept, hunknown⟩ := loadWriteback_choices (hexec.trans loadPair_eq) hover.eq_true
    rcases hbase hover with hc | hc
    · exact ⟨_, .inl ⟨hover, .inl rfl⟩, hkept hc⟩
    · exact ⟨_, .inl ⟨hover, .inr rfl⟩, hunknown hc⟩
  · refine ⟨_, .inr ⟨hover, rfl⟩, hexec.trans (loadPair_eq.trans ?_)⟩
    rw [pairOverlap_eq_false hover]
    rfl

theorem State.writeX_writeX {w : Nat} (s : State) (r : Reg) (v v' : BitVec w) :
    (s.writeX r v).writeX r v' = s.writeX r v' := by
  unfold State.writeX
  split
  · simp
  · rfl

theorem State.drawn_drawn (s : State) (m n : Nat) : (s.drawn m).drawn n = s.drawn (m + n) := by
  simp [State.drawn, Nat.add_assoc]

/-- One UNKNOWN register, and what becomes of the base: of the overlap it is that register itself (47 R540(d)). -/
theorem State.becomes_pairUnknown {wb : Writeback} (hwb : PairWriteback form rn rt rt wb) (v : DWord) (a : Addr) :
    ∃ (u : DWord) (t : State) (count : Nat), ((s.writeX rt v).drawn 2).writeBack wb rn a = t.drawn count ∧
      s.Becomes (if form.BaseOverlaps rn rt rt then Writes.toReg rt u
        else if form = .offset then Writes.toReg rt u else (Writes.toReg rt u).base rn a) t.advance := by
  have hloaded : s.Becomes (.toReg rt v) (s.writeX rt v).advance := s.becomes_writeX rt v
  rcases hwb with ⟨hover, rfl | rfl⟩ | ⟨hover, rfl⟩
  · exact ⟨v, _, 2, rfl, by rw [if_pos hover]; exact hloaded⟩
  · have ⟨_, hrn, hsame⟩ := hover
    obtain rfl : rn = rt := hsame.elim id id
    refine ⟨((s.writeX rn v).drawn 2).unknown, (s.writeX rn v).writeXsp rn ((s.writeX rn v).drawn 2).unknown, 3, ?_, ?_⟩
    · rw [State.writeBack_unknown, State.writeXsp_drawn, State.drawn_drawn]
    · rw [if_pos hover, ← Writes.toReg_base (v := v) hrn]
      exact hloaded.base rfl rn _
  · simp only [if_neg hover]
    by_cases hform : form = .offset
    · subst hform
      exact ⟨v, _, 2, rfl, by rw [if_pos rfl]; exact hloaded⟩
    · refine ⟨v, _, 2, ?_, by rw [if_neg hform]; exact hloaded.base rfl rn a⟩
      rw [PairForm.indexing_writeback hform]
      exact State.writeXsp_drawn _ 2 rn a

end Pairs

/-! ## A base that cannot be used (10 R46; 60 R811) -/

section Bases

variable {s : State} {bytes : Nat} {ext : Extension} {acc : AccType} {mode : Indexing} {n t t2 : Reg} {offset : Addr}
  {isUnknown : Bool} {wb : Writeback}

theorem State.loadOne_of_not_baseReady (hb : ¬s.BaseReady n) :
    s.loadOne bytes ext acc mode n t offset wb = .error .spAlignment := by
  rw [State.loadOne, State.baseAddress_error hb]; rfl

theorem State.storeOne_of_not_baseReady (hb : ¬s.BaseReady n) :
    s.storeOne bytes acc mode n t offset isUnknown = .error .spAlignment := by
  rw [State.storeOne, State.baseAddress_error hb]; rfl

theorem State.loadTwo_of_not_baseReady (hb : ¬s.BaseReady n) :
    s.loadTwo bytes ext acc mode n t t2 offset isUnknown wb = .error .spAlignment := by
  rw [State.loadTwo, State.baseAddress_error hb]; rfl

theorem State.storeTwo_of_not_baseReady (hb : ¬s.BaseReady n) :
    s.storeTwo bytes acc mode n t t2 offset isUnknown = .error .spAlignment := by
  rw [State.storeTwo, State.baseAddress_error hb]; rfl

end Bases

end Sys2Proof.Machine

namespace Sys2Proof.Forms

open Sys2Proof.Machine

variable {i : Instr} {s : State} {bytes : Nat} {acc : AccType} {rn rt rt2 : Reg} {offset a : Addr} {ext : Extension}
  {value : BitVec (8 * bytes) → DWord} {form : PairForm} {mode : Indexing}

/-! ## The forms that complete -/

theorem Loads.of_loadIndexed {rm : Reg} {option : BitVec 3} {shift : Nat}
    (hexec : exec i s = loadIndexed bytes ext rm option shift rn rt s) (h : option.getLsbD 1 = true)
    (ha : extended (s.readX rm) option shift = offset) (hext : ∀ v, ext.apply v = value v) :
    Loads i s rn rt offset bytes .normal value :=
  .of_loadRegister (hexec.trans (loadIndexed_eq_loadRegister h)) ha hext

theorem Stores.of_storeIndexed {rm : Reg} {option : BitVec 3} {shift : Nat}
    (hexec : exec i s = storeIndexed bytes rm option shift rn rt s) (h : option.getLsbD 1 = true)
    (ha : extended (s.readX rm) option shift = offset) (hbytes : bytes ≤ 8) :
    Stores i s rn rt offset bytes .normal :=
  .of_storeRegister (hexec.trans (storeIndexed_eq_storeRegister h)) ha hbytes

theorem Loads.of_loadOrdered (hexec : exec i s = loadOrdered bytes acc rn rt s) : Loads i s rn rt 0#64 bytes acc zx :=
  .of_loadRegister (hexec.trans loadOrdered_eq_loadRegister) rfl Extension.apply_zero

theorem Stores.of_storeOrdered (hexec : exec i s = storeOrdered bytes acc rn rt s) (hbytes : bytes ≤ 8) :
    Stores i s rn rt 0#64 bytes acc :=
  .of_storeRegister (hexec.trans storeOrdered_eq_storeRegister) rfl hbytes

theorem StoresPair.of_storePair (hexec : exec i s = storePair bytes acc form.indexing rn rt rt2 a s) (ha : a = offset)
    (hbytes : bytes ≤ 8) : StoresPair i s form rn rt rt2 offset bytes acc := by
  subst ha
  unfold StoresPair
  intro a1 a2 w hm hapart hb h1 h2
  rw [storePair_apart hapart, State.storeTwo_ok hb (form.indexing_address s rn a) h1 h2] at hexec
  have hw : s.Becomes w ((s.storeBytes a1 bytes (s.readX rt)).storeBytes a2 bytes (s.readX rt2)).advance :=
    (s.becomes_storeBytes hm a1 bytes (by omega) _).store (Memory.wf_store hm ..) rfl a2 bytes (by omega) _
  by_cases hform : form = .offset
  · subst hform
    exact .of_finish hexec hw
  · rw [PairForm.indexing_writeback hform] at hexec
    rw [if_neg hform]
    exact .of_finish hexec (hw.base rfl rn _)

/-! ## The forms that abort -/

theorem aborts_of_finish {r : Except Exc State} {abort : Exc → Prop} (hexec : exec i s = finish s r)
    (hbase : ¬s.BaseReady rn → r = .error .spAlignment) (habort : s.BaseReady rn → ∀ e, abort e → r = .error e) :
    Aborts i s rn abort :=
  ⟨fun hb => .of_finish (hbase hb ▸ hexec), fun hb e he => .of_finish (habort hb e he ▸ hexec)⟩

theorem aborts_of_loadRegister (hexec : exec i s = loadRegister bytes ext acc mode rn rt offset s)
    (haddr : mode.address (s.readXsp rn) offset = a) (hapart : mode.writesBack = true → rn = 31#5 ∨ rn ≠ rt) :
    Aborts i s rn (AccessAbort s a bytes acc .read False) :=
  aborts_of_finish (hexec.trans (loadRegister_apart hapart)) State.loadOne_of_not_baseReady
    fun hb _ => State.loadOne_error hb haddr

theorem aborts_of_storeRegister (hexec : exec i s = storeRegister bytes acc mode rn rt offset s)
    (haddr : mode.address (s.readXsp rn) offset = a) (hapart : mode.writesBack = true → rn = 31#5 ∨ rn ≠ rt) :
    Aborts i s rn (AccessAbort s a bytes acc .write False) :=
  aborts_of_finish (hexec.trans (storeRegister_apart hapart)) State.storeOne_of_not_baseReady
    fun hb _ => State.storeOne_error hb haddr

/-- A form at an offset has no overlap. -/
theorem aborts_of_load (hexec : exec i s = loadRegister bytes ext acc .offset rn rt offset s)
    (haddr : s.readXsp rn + offset = a) : Aborts i s rn (AccessAbort s a bytes acc .read False) :=
  aborts_of_loadRegister (mode := .offset) hexec haddr fun h => absurd h Bool.false_ne_true

theorem aborts_of_store (hexec : exec i s = storeRegister bytes acc .offset rn rt offset s)
    (haddr : s.readXsp rn + offset = a) : Aborts i s rn (AccessAbort s a bytes acc .write False) :=
  aborts_of_storeRegister (mode := .offset) hexec haddr fun h => absurd h Bool.false_ne_true

theorem aborts_of_loadOrdered (hexec : exec i s = loadOrdered bytes acc rn rt s) :
    Aborts i s rn (AccessAbort s (s.readXsp rn) bytes acc .read False) :=
  aborts_of_load (hexec.trans loadOrdered_eq_loadRegister) (BitVec.add_zero _)

theorem aborts_of_storeOrdered (hexec : exec i s = storeOrdered bytes acc rn rt s) :
    Aborts i s rn (AccessAbort s (s.readXsp rn) bytes acc .write False) :=
  aborts_of_store (hexec.trans storeOrdered_eq_storeRegister) (BitVec.add_zero _)

theorem aborts_of_loadPair (hexec : exec i s = loadPair bytes ext acc form.indexing rn rt rt2 offset s)
    (haddr : form.address s rn offset = a) (hne : rt ≠ rt2) (hapart : ¬form.BaseOverlaps rn rt rt2) :
    Aborts i s rn (PairAborts s a bytes acc .read) :=
  aborts_of_finish (hexec.trans (loadPair_apart hne hapart)) State.loadTwo_of_not_baseReady
    fun hb _ => State.loadTwo_error hb ((form.indexing_address s rn offset).trans haddr)

theorem aborts_of_storePair (hexec : exec i s = storePair bytes acc form.indexing rn rt rt2 offset s)
    (haddr : form.address s rn offset = a) (hapart : ¬form.BaseOverlaps rn rt rt2) :
    Aborts i s rn (PairAborts s a bytes acc .write) :=
  aborts_of_finish (hexec.trans (storePair_apart hapart)) State.storeTwo_of_not_baseReady
    fun hb _ => State.storeTwo_error hb ((form.indexing_address s rn offset).trans haddr)

theorem traps_of_loadLiteral {imm19 : BitVec 19} (hexec : exec i s = loadLiteral bytes ext imm19 rt s) {e : Exc}
    (he : AccessAbort s (s.pc + words imm19) bytes .normal .read False e) : Traps i s e := by
  rw [loadLiteral, wordOffset_eq_words, State.memRead_of_accessAbort he] at hexec
  exact .of_finish hexec

/-! ## A load of a pair, one register twice included -/

theorem LoadsPair.of_loadPair (hexec : exec i s = loadPair bytes ext acc form.indexing rn rt rt2 a s) (ha : a = offset)
    (hext : ∀ v, ext.apply v = value v) : LoadsPair i s form rn rt rt2 offset bytes acc value := by
  subst ha
  obtain rfl : (fun v => ext.apply v) = value := funext hext
  unfold LoadsPair
  intro a1 a2 w withBase choice wback
  have haddr : form.indexing.address (s.readXsp rn) a = a1 := form.indexing_address s rn a
  refine ⟨fun hne hapart hb h1 h2 => ?apart, fun hsame hbase => ?same⟩
  case apart =>
    rw [loadPair_apart hne hapart, State.loadTwo_ok hb haddr h1 h2] at hexec
    have hw : s.Becomes w ((s.writeX rt (ext.apply (s.loadBytes a1 bytes))).writeX rt2
        (ext.apply (s.loadBytes a2 bytes))).advance := (s.becomes_writeX rt _).writeX rt2 _
    by_cases hform : form = .offset
    · subst hform
      exact .of_finish hexec hw
    · rw [PairForm.indexing_writeback hform] at hexec
      simp only [withBase, if_neg hform]
      exact .of_finish hexec (hw.base rfl rn _)
  case same =>
    subst hsame
    obtain ⟨wb, hwb, hpair⟩ := loadPair_same hexec hbase
    obtain ⟨hundef, hnop, hunknown⟩ := loadPair_choices hpair (decide_eq_true rfl)
    refine ⟨hundef, hnop, fun hc hb h1 h2 => ?_, fun hc => ?_⟩
    · obtain ⟨u, t, count, ht, hw⟩ := State.becomes_pairUnknown (s := s) hwb
        (ext.apply ((s.unknownAt 1).setWidth (8 * bytes))) (s.readXsp rn + a)
      refine ⟨u, .of_finish (t := t) (count := count) ?_ hw⟩
      rw [hunknown hc, State.loadTwo, State.baseAddress_ok hb, Except.ok_bind, haddr, State.memRead_ok h1, Except.ok_bind,
        State.memRead_ok h2, Except.ok_bind, if_pos rfl, if_pos rfl, if_pos rfl, State.writeX_writeX, ht]
      rfl
    · exact aborts_of_finish (hunknown hc) State.loadTwo_of_not_baseReady fun hb _ => State.loadTwo_error hb haddr

end Sys2Proof.Forms

namespace Sys2Proof.Machine.LoadStore

open Sys2Proof.Forms Extension

/-! ## The obligations -/

/-- Settles O38: with a sound option each form is a load or store at the extended register. -/
theorem registerOffset : Obligations.RegisterOffset := by
  intro s size0 opc0 s1 rm rn rt option h offset scale n
  have hbyte : Forms.extended (s.readX rm) option 0 = offset 0 := congrArg (Forms.extended (s.readX rm) option) (ite_self 0).symm
  exact ⟨.of_loadIndexed rfl h rfl apply_zero, .of_loadIndexed rfl h hbyte apply_zero, .of_loadIndexed rfl h rfl apply_zero,
    .of_loadIndexed rfl h hbyte apply_signedTo, .of_loadIndexed rfl h rfl apply_signedTo,
    .of_loadIndexed rfl h rfl apply_sign_64,
    .of_storeIndexed rfl h rfl (wordBytes_le size0), .of_storeIndexed rfl h hbyte (by decide),
    .of_storeIndexed rfl h rfl (by decide)⟩

/-- Settles O40: each form is one load or store of a pair, and the forms differ in offset, size, extension and access type. -/
theorem pairAccesses : Obligations.PairAccesses := by
  intro s opc1 imm7 rt2 rn rt n offset
  have hn : n ≤ 8 := wordBytes_le opc1
  have hpair : pairOffset imm7 (wordScale opc1) = offset n := pairOffset_wordScale imm7 opc1
  have hpair4 : pairOffset imm7 2 = offset 4 := pairOffset_eq imm7 2
  exact ⟨.of_loadPair rfl hpair apply_zero, .of_loadPair rfl hpair apply_zero, .of_loadPair rfl hpair apply_zero,
    .of_loadPair rfl hpair apply_zero, .of_loadPair rfl hpair4 apply_sign_64, .of_loadPair rfl hpair4 apply_sign_64,
    .of_loadPair rfl hpair4 apply_sign_64, .of_storePair rfl hpair hn, .of_storePair rfl hpair hn,
    .of_storePair rfl hpair hn, .of_storePair rfl hpair hn⟩

/-- Settles O41: each form is a load or store at no offset, if its feature is there. -/
theorem orderedAccesses : Obligations.OrderedAccesses := by
  intro s size0 rn rt n
  have hn : n ≤ 8 := wordBytes_le size0
  exact ⟨.of_loadOrdered rfl, .of_loadOrdered rfl, .of_loadOrdered rfl, .of_storeOrdered rfl hn,
    .of_storeOrdered rfl (by decide), .of_storeOrdered rfl (by decide),
    fun h => ⟨.of_loadOrdered (whenFeature_of_true h), .of_loadOrdered (whenFeature_of_true h),
      .of_loadOrdered (whenFeature_of_true h), .of_storeOrdered (whenFeature_of_true h) hn,
      .of_storeOrdered (whenFeature_of_true h) (by decide), .of_storeOrdered (whenFeature_of_true h) (by decide)⟩,
    fun h => ⟨traps_of_whenFeature rfl h, traps_of_whenFeature rfl h, traps_of_whenFeature rfl h,
      traps_of_whenFeature rfl h, traps_of_whenFeature rfl h, traps_of_whenFeature rfl h⟩⟩

/-- Settles O48: each form is one of the four kinds of access, and aborts as its kind does. -/
theorem accessFaults : Obligations.AccessFaults := by
  intro s size0 opc0 s1 imm12 imm9 imm7 imm19 option rm rt2 rn rt n base load store two scaled near indexed pair literal
  have hscaled (scale : Nat) : base + scaledOffset imm12 scale = scaled (2 ^ scale) :=
    congrArg (base + ·) (scaledOffset_eq imm12 scale)
  have hword : base + scaledOffset imm12 (wordScale size0) = scaled n :=
    congrArg (base + ·) (scaledOffset_wordScale imm12 size0)
  have hbyte : base + Forms.extended (s.readX rm) option 0 = indexed 0 :=
    congrArg (base + Forms.extended (s.readX rm) option ·) (ite_self 0).symm
  have hpair : base + pairOffset imm7 (wordScale size0) = pair n :=
    congrArg (base + ·) (pairOffset_wordScale imm7 size0)
  have hpair4 : base + pairOffset imm7 2 = pair 4 := congrArg (base + ·) (pairOffset_eq imm7 2)
  have hoffset : ¬PairForm.offset.BaseOverlaps rn rt rt2 := fun h => h.1 rfl
  have hapart {form : PairForm} (h : rn = 31#5 ∨ (rn ≠ rt ∧ rn ≠ rt2)) : ¬form.BaseOverlaps rn rt rt2 :=
    fun ⟨_, hrn, hover⟩ => h.elim hrn fun hne => hover.elim hne.1 hne.2
  refine ⟨⟨aborts_of_load rfl hword, aborts_of_load rfl (hscaled 0), aborts_of_load rfl (hscaled 1),
      aborts_of_load rfl (hscaled 0), aborts_of_load rfl (hscaled 1), aborts_of_load rfl (hscaled 2),
      aborts_of_store rfl hword, aborts_of_store rfl (hscaled 0), aborts_of_store rfl (hscaled 1)⟩,
    ⟨aborts_of_load rfl rfl, aborts_of_load rfl rfl, aborts_of_load rfl rfl, aborts_of_load rfl rfl,
      aborts_of_load rfl rfl, aborts_of_load rfl rfl, aborts_of_store rfl rfl, aborts_of_store rfl rfl,
      aborts_of_store rfl rfl⟩,
    ⟨aborts_of_load rfl rfl, aborts_of_load rfl rfl, aborts_of_load rfl rfl, aborts_of_load rfl rfl,
      aborts_of_load rfl rfl, aborts_of_load rfl rfl, aborts_of_store rfl rfl, aborts_of_store rfl rfl,
      aborts_of_store rfl rfl⟩,
    fun h => ⟨?pre, ?post⟩, fun h => ?registerOffset,
    ⟨fun _ => traps_of_loadLiteral rfl, fun _ => traps_of_loadLiteral rfl⟩,
    fun hne => ⟨aborts_of_loadPair (form := .offset) rfl hpair hne hoffset,
      aborts_of_loadPair (form := .offset) rfl hpair hne hoffset,
      aborts_of_loadPair (form := .offset) rfl hpair4 hne hoffset,
      fun h => ⟨aborts_of_loadPair (form := .pre) rfl hpair hne (hapart h),
        aborts_of_loadPair (form := .post) rfl rfl hne (hapart h),
        aborts_of_loadPair (form := .pre) rfl hpair4 hne (hapart h),
        aborts_of_loadPair (form := .post) rfl rfl hne (hapart h)⟩⟩,
    ⟨aborts_of_storePair (form := .offset) rfl hpair hoffset, aborts_of_storePair (form := .offset) rfl hpair hoffset,
      fun h => ⟨aborts_of_storePair (form := .pre) rfl hpair (hapart h),
        aborts_of_storePair (form := .post) rfl rfl (hapart h)⟩⟩,
    ⟨aborts_of_loadOrdered rfl, aborts_of_loadOrdered rfl, aborts_of_loadOrdered rfl, aborts_of_storeOrdered rfl,
      aborts_of_storeOrdered rfl, aborts_of_storeOrdered rfl⟩,
    fun h => ⟨aborts_of_loadOrdered (whenFeature_of_true h), aborts_of_loadOrdered (whenFeature_of_true h),
      aborts_of_loadOrdered (whenFeature_of_true h), aborts_of_storeOrdered (whenFeature_of_true h),
      aborts_of_storeOrdered (whenFeature_of_true h), aborts_of_storeOrdered (whenFeature_of_true h)⟩⟩
  case pre =>
    have hpre : Indexing.pre.writesBack = true → rn = 31#5 ∨ rn ≠ rt := fun _ => h
    exact ⟨aborts_of_loadRegister rfl rfl hpre, aborts_of_loadRegister rfl rfl hpre, aborts_of_loadRegister rfl rfl hpre,
      aborts_of_loadRegister rfl rfl hpre, aborts_of_loadRegister rfl rfl hpre, aborts_of_loadRegister rfl rfl hpre,
      aborts_of_storeRegister rfl rfl hpre, aborts_of_storeRegister rfl rfl hpre, aborts_of_storeRegister rfl rfl hpre⟩
  case post =>
    have hpost : Indexing.post.writesBack = true → rn = 31#5 ∨ rn ≠ rt := fun _ => h
    exact ⟨aborts_of_loadRegister rfl rfl hpost, aborts_of_loadRegister rfl rfl hpost,
      aborts_of_loadRegister rfl rfl hpost, aborts_of_loadRegister rfl rfl hpost, aborts_of_loadRegister rfl rfl hpost,
      aborts_of_loadRegister rfl rfl hpost, aborts_of_storeRegister rfl rfl hpost,
      aborts_of_storeRegister rfl rfl hpost, aborts_of_storeRegister rfl rfl hpost⟩
  case registerOffset =>
    exact ⟨aborts_of_load (loadIndexed_eq_loadRegister h) rfl, aborts_of_load (loadIndexed_eq_loadRegister h) hbyte,
      aborts_of_load (loadIndexed_eq_loadRegister h) rfl, aborts_of_load (loadIndexed_eq_loadRegister h) hbyte,
      aborts_of_load (loadIndexed_eq_loadRegister h) rfl, aborts_of_load (loadIndexed_eq_loadRegister h) rfl,
      aborts_of_store (storeIndexed_eq_storeRegister h) rfl, aborts_of_store (storeIndexed_eq_storeRegister h) hbyte,
      aborts_of_store (storeIndexed_eq_storeRegister h) rfl⟩

end Sys2Proof.Machine.LoadStore
end

section
/-! Accesses to a pair that one access makes (20 R96): the elements of its value, and the order of its checks. -/

namespace Sys2Proof.Machine

open Sys2Proof.Forms

variable {s : State}

/-! ## The bytes of two elements -/

theorem byteOf_setWidth {w m i : Nat} (v : BitVec w) (h : 8 * i + 8 ≤ m) : byteOf (v.setWidth m) i = byteOf v i := by
  apply BitVec.eq_of_getLsbD_eq
  intro j hj
  rw [getLsbD_byteOf _ _ _ hj, getLsbD_byteOf _ _ _ hj, BitVec.getLsbD_setWidth, decide_eq_true (by omega), Bool.true_and]

theorem byteOf_append {n m i : Nat} (x : BitVec m) (y : BitVec (8 * n)) :
    byteOf (x ++ y) i = if i < n then byteOf y i else byteOf x (i - n) := by
  apply BitVec.eq_of_getLsbD_eq
  intro j hj
  rw [getLsbD_byteOf _ _ _ hj, BitVec.getLsbD_append]
  by_cases h : i < n
  · rw [if_pos h, if_pos (by omega), getLsbD_byteOf _ _ _ hj]
  · rw [if_neg h, if_neg (by omega), getLsbD_byteOf _ _ _ hj]
    congr 1
    omega

/-- Splitting a pair gives the two elements that were joined. -/
theorem State.splitPair_joinPair {w : Nat} (s : State) (e1 e2 : BitVec w) : s.splitPair (s.joinPair e1 e2) = (e1, e2) := by
  have happend (x y : BitVec w) : (x ++ y).extractLsb' w w = x ∧ (x ++ y).extractLsb' 0 w = y := by
    constructor
    all_goals
      apply BitVec.eq_of_getLsbD_eq
      intro i hi
      rw [BitVec.getLsbD_extractLsb', BitVec.getLsbD_append]
      simp [hi]
  unfold State.splitPair State.joinPair
  cases s.bigEndian with
  | false => exact Prod.ext (happend e2 e1).2 (happend e2 e1).1
  | true => exact Prod.ext (happend e1 e2).1 (happend e1 e2).2

theorem State.joinPair_inj {w : Nat} {e1 e2 f1 f2 : BitVec w} :
    s.joinPair e1 e2 = s.joinPair f1 f2 ↔ e1 = f1 ∧ e2 = f2 := by
  refine ⟨fun h => ?_, fun ⟨h1, h2⟩ => h1 ▸ h2 ▸ rfl⟩
  have hsplit := congrArg s.splitPair h
  rwa [State.splitPair_joinPair, State.splitPair_joinPair, Prod.mk.injEq] at hsplit

/-- Byte `i` of a joined pair: the first element is the lower one in little-endian order, the upper one in big-endian order. -/
theorem State.byteOf_joinPair {n : Nat} (s : State) (e1 e2 : BitVec (8 * n)) (i : Nat) : byteOf (s.joinPair e1 e2) i =
    if i < n then byteOf (if s.bigEndian then e2 else e1) i else byteOf (if s.bigEndian then e1 else e2) (i - n) := by
  unfold State.joinPair
  cases s.bigEndian <;> exact byteOf_append _ _

/-- One access to two elements reads what two accesses read (20 R96). -/
theorem State.loadBytes_pair (s : State) (a : Addr) (n : Nat) : (s.loadBytes a (2 * n)).setWidth (8 * n + 8 * n) =
    s.joinPair (s.loadBytes a n) (s.loadBytes (a + BitVec.ofNat 64 n) n) := by
  have hnext (k : Nat) : a + BitVec.ofNat 64 n + BitVec.ofNat 64 k = a + BitVec.ofNat 64 (n + k) := by
    rw [BitVec.add_assoc, BitVec.ofNat_add]
  have hwidth : 8 * n + 8 * n = 8 * (2 * n) := by omega
  have hbytes : ∀ i, i < 2 * n → byteOf ((s.loadBytes a (2 * n)).setWidth (8 * n + 8 * n)) i =
      byteOf (s.joinPair (s.loadBytes a n) (s.loadBytes (a + BitVec.ofNat 64 n) n)) i := by
    intro i hi
    rw [byteOf_setWidth _ (by omega), State.byteOf_joinPair, State.loadBytes, Memory.byteOf_load _ _ _ hi]
    simp only [State.loadBytes]
    by_cases hlow : i < n
    · rw [if_pos hlow]
      cases s.bigEndian with
      | false =>
        rw [if_neg Bool.false_ne_true, Memory.byteOf_load _ _ _ hlow]
        rfl
      | true =>
        rw [if_pos rfl, Memory.byteOf_load _ _ _ hlow, byteAddress, byteAddress, if_pos rfl, if_pos rfl, hnext]
        congr 3
        omega
    · have hhigh : i - n < n := by omega
      rw [if_neg hlow]
      cases s.bigEndian with
      | false =>
        rw [if_neg Bool.false_ne_true, Memory.byteOf_load _ _ _ hhigh, byteAddress, byteAddress, if_neg Bool.false_ne_true,
          if_neg Bool.false_ne_true, hnext]
        congr 3
        omega
      | true =>
        rw [if_pos rfl, Memory.byteOf_load _ _ _ hhigh, byteAddress, byteAddress, if_pos rfl, if_pos rfl]
        congr 3
        omega
  generalize (s.loadBytes a (2 * n)).setWidth (8 * n + 8 * n) = x at hbytes ⊢
  generalize s.joinPair (s.loadBytes a n) (s.loadBytes (a + BitVec.ofNat 64 n) n) = y at hbytes ⊢
  revert x y
  rw [hwidth]
  exact fun x y => eq_of_byteOf_eq

theorem State.splitPair_loadBytes (s : State) (a : Addr) (n : Nat) :
    s.splitPair ((s.loadBytes a (2 * n)).setWidth (8 * n + 8 * n)) =
      (s.loadBytes a n, s.loadBytes (a + BitVec.ofNat 64 n) n) := by
  rw [State.loadBytes_pair, State.splitPair_joinPair]

/-- A store writes the low bytes of its value only. -/
theorem Writes.store_setWidth {m : Nat} (w : Writes) (s : State) (a : Addr) (n : Nat) (v : BitVec m) :
    w.store s a n (v.setWidth (8 * n)) = w.store s a n v := by
  unfold Writes.store
  congr 1
  funext b
  split
  · next h => rw [byteOf_setWidth v (by split <;> omega)]
  · rfl

/-- The byte at offset `d` of a pair of elements in memory is of the first element below `n`, and of the second above. -/
theorem State.byteOf_joinPair_at (s : State) {n d : Nat} (v1 v2 : DWord) (hd : d < 2 * n) :
    byteOf (s.joinPair (v1.setWidth (8 * n)) (v2.setWidth (8 * n))) (if s.bigEndian then 2 * n - 1 - d else d) =
      if d < n then byteOf v1 (if s.bigEndian then n - 1 - d else d)
      else byteOf v2 (if s.bigEndian then n - 1 - (d - n) else d - n) := by
  rw [State.byteOf_joinPair]
  cases s.bigEndian with
  | false =>
    simp only [Bool.false_eq_true, if_false]
    exact ite_congr rfl (fun h => byteOf_setWidth v1 (by omega)) fun h => byteOf_setWidth v2 (by omega)
  | true =>
    simp only [if_true]
    by_cases hlow : d < n
    · rw [if_neg (by omega), if_pos hlow, show 2 * n - 1 - d - n = n - 1 - d by omega]
      exact byteOf_setWidth v1 (by omega)
    · rw [if_pos (by omega), if_neg hlow, show n - 1 - (d - n) = 2 * n - 1 - d by omega]
      exact byteOf_setWidth v2 (by omega)

/-- The offset of a byte from the second element. -/
theorem toNat_sub_add_ofNat (a b : Addr) {n : Nat} (hn : n < 2 ^ 64) : (b - (a + BitVec.ofNat 64 n)).toNat =
    if (b - a).toNat < n then (b - a).toNat + (2 ^ 64 - n) else (b - a).toNat - n := by
  have hlt := (b - a).isLt
  rw [← BitVec.sub_sub, BitVec.toNat_sub (b - a), BitVec.toNat_ofNat]
  split <;> omega

/-- One access to two elements stores what two accesses store (20 R96). -/
theorem Writes.store_joinPair (w : Writes) (s : State) (a : Addr) {n : Nat} (hn : n ≤ 8) (v1 v2 : DWord) :
    w.store s a (2 * n) (s.joinPair (v1.setWidth (8 * n)) (v2.setWidth (8 * n))) =
      (w.store s a n v1).store s (a + BitVec.ofNat 64 n) n v2 := by
  unfold Writes.store
  congr 1
  funext b
  rw [toNat_sub_add_ofNat a b (show n < 2 ^ 64 by omega)]
  dsimp only
  by_cases hlow : (b - a).toNat < n
  · have hin : (b - a).toNat < 2 * n := by omega
    have hout : ¬(b - a).toNat + (2 ^ 64 - n) < n := by omega
    rw [if_pos hin, s.byteOf_joinPair_at v1 v2 hin, if_pos hlow, if_pos hlow, if_neg hout, if_pos hlow]
  · rw [if_neg hlow, if_neg hlow]
    by_cases hhigh : (b - a).toNat < 2 * n
    · have hin : (b - a).toNat - n < n := by omega
      rw [if_pos hhigh, s.byteOf_joinPair_at v1 v2 hhigh, if_neg hlow, if_pos hin]
    · have hout : ¬(b - a).toNat - n < n := by omega
      rw [if_neg hhigh, if_neg hout]

/-! ## The checks -/

section Checks

variable {a : Addr} {n : Nat} {acc : AccType} {kind : AccessKind}

theorem wordBytes_cases (sz : BitVec 1) : wordBytes sz = 4 ∨ wordBytes sz = 8 := by
  unfold wordBytes
  split <;> simp

theorem State.misaligned_eq_true : s.misaligned a n acc = true ↔ ¬s.Aligned a n acc := by
  rw [← State.misaligned_eq_false, Bool.not_eq_false]

/-- The checks of two adjacent elements give the abort that 60 R803(8) says (log 38). -/
theorem State.checkPair_of_pairAbort {rmw : Bool} {P : Prop} (hrmw : rmw = true ↔ P) {e : Exc}
    (h : PairAbort s a n acc kind P e) : s.checkPair a n acc kind rmw = .error e := by
  unfold State.checkPair
  rcases h with ⟨haligned, wnr, hw, rfl⟩ | ⟨haligned, he | ⟨hallowed, he⟩⟩
  · have hwnr : (decide (kind = .write) && !rmw) = wnr := by
      rw [Bool.eq_iff_iff, hw, ← hrmw]
      simp
    rw [if_pos (State.misaligned_eq_true.mpr haligned), hwnr]
  · rw [State.misaligned_eq_false.mpr haligned, if_neg Bool.false_ne_true, State.checkAccess_of_accessAbort hrmw he]
  · rw [State.misaligned_eq_false.mpr haligned, if_neg Bool.false_ne_true, State.checkAccess_eq_ok.mpr hallowed]
    exact State.checkAccess_of_accessAbort hrmw he

/-- An access to two elements is allowed only if the access to each is. -/
theorem State.allowed_halves (hn : n = 4 ∨ n = 8) (h : s.Allowed a (2 * n) acc kind) :
    s.Allowed a n acc kind ∧ s.Allowed (a + BitVec.ofNat 64 n) n acc kind := by
  have hcheck := (State.checkPair_eq_ok (rmw := false) hn).mpr h
  rw [State.checkPair, State.misaligned_eq_false.mpr h.1, if_neg Bool.false_ne_true] at hcheck
  split at hcheck
  · next hfirst => exact ⟨State.checkAccess_eq_ok.mp hfirst, State.checkAccess_eq_ok.mp hcheck⟩
  · cases hcheck

end Checks

/-! ## The monitor -/

/-- What marking a range adds to what has happened, the pc still to move. -/
theorem State.Becomes.setMonitor {t : State} {w : Writes} (h : s.Becomes w t.advance) (a : Addr) (n : Nat) :
    s.Becomes (w.mark (some ⟨a, n⟩)) (t.setMonitor a n).advance where
  reg r hr := by simpa [Writes.mark] using h.reg r hr
  zero := by simp
  sp level := by simpa [Writes.mark] using h.sp level
  pstate := by simpa [Writes.mark] using h.pstate
  pc := by simpa [Writes.mark] using h.pc
  monitor := rfl
  mem a := by simpa [Writes.mark] using h.mem a
  system := by cases h.system; constructor <;> simp_all

theorem State.writeX_drawn {w : Nat} (s : State) (count : Nat) (r : Reg) (v : BitVec w) :
    (s.drawn count).writeX r v = (s.writeX r v).drawn count := by
  unfold State.writeX
  split <;> rfl

end Sys2Proof.Machine
end

section
/-! Load-exclusives (47 R564 to R567, R571 to R574). -/

namespace Sys2Proof.Machine

/-- A load-exclusive of two registers (47 R560(e)). -/
def State.loadExclusiveTwo (s : State) (sz : BitVec 1) (acc : AccType) (n t t2 : Reg) : Except Exc State := do
  let address ← s.baseAddress n
  s.checkPair address (wordBytes sz) acc .read false
  if sz = 0#1 then
    let elements := s.splitPair (w := 32) (s.loadBytes address 8)
    return ((s.setMonitor address 8).writeX t elements.1).writeX t2 elements.2
  else
    return ((s.setMonitor address 16).writeX t (s.loadBytes address 8)).writeX t2 (s.loadBytes (address + 8#64) 8)

variable {s : State} {sz : BitVec 1} {acc : AccType} {n t t2 : Reg}

theorem loadExclusivePair_of_ne (h : t ≠ t2) :
    loadExclusivePair sz acc n t t2 s = finish s (s.loadExclusiveTwo sz acc n t t2) := by
  rw [loadExclusivePair, decide_eq_false h]
  rfl

/-- Two words in one access, or two doublewords in two (47 R560(e)). -/
theorem State.loadExclusiveTwo_ok (hb : s.BaseReady n) (ha : s.Allowed (s.readXsp n) (2 * wordBytes sz) acc .read) :
    s.loadExclusiveTwo sz acc n t t2 = .ok (((s.setMonitor (s.readXsp n) (2 * wordBytes sz)).writeX t
      (s.loadBytes (s.readXsp n) (wordBytes sz))).writeX t2
        (s.loadBytes (s.readXsp n + BitVec.ofNat 64 (wordBytes sz)) (wordBytes sz))) := by
  rw [State.loadExclusiveTwo, State.baseAddress_ok hb, Except.ok_bind, (State.checkPair_eq_ok (wordBytes_cases sz)).mpr ha,
    Except.ok_bind]
  obtain rfl | rfl : sz = 0#1 ∨ sz = 1#1 := BitVec.eq_zero_or_eq_one sz
  · have hsplit := s.splitPair_loadBytes (s.readXsp n) 4
    rw [BitVec.setWidth_eq] at hsplit
    rw [if_pos rfl]
    change Except.ok (((s.setMonitor (s.readXsp n) 8).writeX t (s.splitPair (w := 32) (s.loadBytes (s.readXsp n) 8)).1).writeX
      t2 (s.splitPair (w := 32) (s.loadBytes (s.readXsp n) 8)).2) = _
    rw [show s.splitPair (w := 32) (s.loadBytes (s.readXsp n) 8) = _ from hsplit]
    rfl
  · rfl

theorem State.loadExclusiveTwo_error (hb : s.BaseReady n) {e : Exc}
    (he : Forms.PairAbort s (s.readXsp n) (wordBytes sz) acc .read False e) :
    s.loadExclusiveTwo sz acc n t t2 = .error e := by
  rw [State.loadExclusiveTwo, State.baseAddress_ok hb, Except.ok_bind, State.checkPair_of_pairAbort (by simp) he]
  rfl

theorem State.loadExclusiveTwo_of_not_baseReady (hb : ¬s.BaseReady n) :
    s.loadExclusiveTwo sz acc n t t2 = .error .spAlignment := by
  rw [State.loadExclusiveTwo, State.baseAddress_error hb]
  rfl

end Sys2Proof.Machine

namespace Sys2Proof.Forms

open Sys2Proof.Machine

variable {i : Instr} {s : State} {bytes : Nat} {sz : BitVec 1} {acc : AccType} {rn rt rt2 : Reg}

theorem LoadsExclusive.of_loadExclusive (hexec : exec i s = loadExclusive bytes acc rn rt s) :
    LoadsExclusive i s rn rt bytes acc := by
  rw [loadExclusive] at hexec
  refine ⟨fun hb ha => ?_, aborts_of_finish hexec (fun hb => ?_) fun hb e he => ?_⟩
  · rw [State.baseAddress_ok hb, Except.ok_bind, State.memRead_ok ha, Except.ok_bind] at hexec
    exact .of_finish hexec ((s.becomes_nothing.setMonitor _ bytes).writeX rt _)
  · rw [State.baseAddress_error hb, Except.error_bind]
  · rw [State.baseAddress_ok hb, Except.ok_bind, State.memRead_of_accessAbort he, Except.error_bind]

theorem LoadsExclusivePair.of_loadExclusivePair (hexec : exec i s = loadExclusivePair sz acc rn rt rt2 s) :
    LoadsExclusivePair i s rn rt rt2 (wordBytes sz) acc := by
  unfold LoadsExclusivePair
  intro a choice marked
  refine ⟨fun hne => ?two, fun hsame => ?same⟩
  case two =>
    rw [loadExclusivePair_of_ne hne] at hexec
    refine ⟨fun hb ha => ?_, aborts_of_finish hexec State.loadExclusiveTwo_of_not_baseReady fun hb _ =>
      State.loadExclusiveTwo_error hb⟩
    rw [State.loadExclusiveTwo_ok hb ha] at hexec
    exact .of_finish hexec (((s.becomes_nothing.setMonitor _ _).writeX rt _).writeX rt2 _)
  case same =>
    obtain ⟨hundef, hnop, hunknown⟩ := loadPair_choices hexec (decide_eq_true hsame)
    refine ⟨hundef, hnop, fun hc hb => ?_, fun hc hb => ?_⟩
    · have hok := hunknown hc
      rw [State.baseAddress_ok hb, Except.ok_bind, if_pos rfl] at hok
      exact ⟨_, .of_finish hok ((s.becomes_nothing.setMonitor _ _).writeX rt s.unknown)⟩
    · have herror := hunknown hc
      rw [State.baseAddress_error hb, Except.error_bind] at herror
      exact .of_finish herror

end Sys2Proof.Forms

namespace Sys2Proof.Machine.LoadStore

open Sys2Proof.Forms

/-- Settles O42: each form is one load-exclusive of one register or of a pair. -/
theorem exclusiveLoads : Obligations.ExclusiveLoads := by
  intro s size0 rt2 rn rt n
  exact ⟨.of_loadExclusive rfl, .of_loadExclusive rfl, .of_loadExclusive rfl, .of_loadExclusive rfl, .of_loadExclusive rfl,
    .of_loadExclusive rfl, .of_loadExclusivePair rfl, .of_loadExclusivePair rfl⟩

end Sys2Proof.Machine.LoadStore
end

section
/-! Store-exclusives (47 R581 to R588). -/

namespace Sys2Proof.Machine

open Sys2Proof.Forms

variable {s : State} {size : ExclusiveData} {acc : AccType} {a : Addr} {rs n : Reg}

/-! ## The memory part (20 R126) -/

section Store

variable {w : Nat} {v : BitVec w}

theorem State.exclusiveStore_held (hheld : MonitorHolds s a) (hcheck : s.checkExclusive size a acc = .ok ()) :
    s.exclusiveStore size acc a v rs = .ok ((s.storeBytes a size.bytes v).clearMonitor.writeX rs 0#32) := by
  rw [State.exclusiveStore, if_pos (State.monitorPasses_eq_true.mpr hheld), hcheck]
  rfl

theorem State.exclusiveStore_not_held (hheld : ¬MonitorHolds s a)
    (hcheck : s.cfg.exFailAborts = false ∨ s.checkExclusive size a acc = .ok ()) :
    s.exclusiveStore size acc a v rs = .ok (s.clearMonitor.writeX rs 1#32) := by
  rw [State.exclusiveStore, if_neg (State.monitorPasses_eq_true.not.mpr hheld)]
  rcases hcheck with h | h
  · rw [h]
    rfl
  · rw [h]
    cases s.cfg.exFailAborts <;> rfl

theorem State.exclusiveStore_error {e : Exc} (hcheck : s.checkExclusive size a acc = .error e)
    (h : MonitorHolds s a ∨ s.cfg.exFailAborts = true) : s.exclusiveStore size acc a v rs = .error e := by
  rw [State.exclusiveStore, hcheck]
  by_cases hheld : MonitorHolds s a
  · rw [if_pos (State.monitorPasses_eq_true.mpr hheld)]
    rfl
  · rw [if_neg (State.monitorPasses_eq_true.not.mpr hheld), if_pos (h.resolve_left hheld)]
    rfl

/-- The count of UNKNOWN values has no part in it. -/
theorem State.exclusiveStore_drawn (s : State) (count : Nat) : (s.drawn count).exclusiveStore size acc a v rs =
    (s.exclusiveStore size acc a v rs).map fun t => t.drawn count := by
  have hcheck : (s.drawn count).checkExclusive size a acc = s.checkExclusive size a acc := by cases size <;> rfl
  have hpasses : (s.drawn count).monitorPasses a = s.monitorPasses a := rfl
  have hstore : ((s.drawn count).storeBytes a size.bytes v).clearMonitor.writeX rs 0#32 =
      ((s.storeBytes a size.bytes v).clearMonitor.writeX rs 0#32).drawn count :=
    State.writeX_drawn (s.storeBytes a size.bytes v).clearMonitor count rs 0#32
  have hfail : (s.drawn count).clearMonitor.writeX rs 1#32 = (s.clearMonitor.writeX rs 1#32).drawn count :=
    State.writeX_drawn s.clearMonitor count rs 1#32
  simp only [State.exclusiveStore, hcheck, hpasses, hstore, hfail, State.drawn_cfg]
  split
  · cases s.checkExclusive size a acc <;> rfl
  · cases s.cfg.exFailAborts
    · rfl
    · cases s.checkExclusive size a acc <;> rfl

end Store

/-! ## The choices at an overlap (47 R560(d)) -/

/-- What a site of an overlap leaves to do, once the choice is known. -/
theorem storeExclusive_choices {i : Instr} {choice : StoreExclusiveChoice} {overlap : Bool} {P : Prop} {k : Bool → Result}
    (hexec : exec i s = atStoreExclusive s choice overlap k) (hoverlap : overlap = true ↔ P) :
    (P → choice = .undef → Traps i s .undefined) ∧ (P → choice = .nop → Completes i s .nothing) ∧
    ((P → choice = .none) → exec i s = k false) ∧ (P ∧ choice = .unknown → exec i s = k true) := by
  unfold atStoreExclusive at hexec
  refine ⟨fun hp hc => .of_raise ?_, fun hp hc => ⟨s.advance, ?_, s.becomes_nothing⟩, fun hc => ?_, fun ⟨hp, hc⟩ => ?_⟩
  · rw [hexec, if_pos (hoverlap.mpr hp), hc]
  · rw [hexec, if_pos (hoverlap.mpr hp), hc]
  · by_cases hp : P
    · rw [hexec, if_pos (hoverlap.mpr hp), hc hp]
    · rw [hexec, if_neg (hoverlap.not.mpr hp)]
  · rw [hexec, if_pos (hoverlap.mpr hp), hc]

section Inner

variable {w : Nat}

/-- A store-exclusive, once it is known which values are UNKNOWN (47 R560(d) steps 3 to 7). -/
def State.storeExclusiveAt (s : State) (size : ExclusiveData) (acc : AccType) (rs n : Reg) (data : BitVec w)
    (dataUnknown addressUnknown : Bool) : Except Exc State := do
  let base ← s.baseAddress n
  (s.drawn (if dataUnknown ∨ addressUnknown then 3 else 0)).exclusiveStore size acc
    (if addressUnknown then s.unknownAt 0 else base)
    (if dataUnknown then (s.unknownAt 2 ++ s.unknownAt 1).setWidth w else data) rs

theorem storeExclusive_eq (dataOverlap : Bool) (data : BitVec w) : storeExclusive size acc rs n dataOverlap data s =
    atStoreExclusive s s.cfg.constrain.stxStatusDataOverlap dataOverlap fun dataUnknown =>
      atStoreExclusive s s.cfg.constrain.stxStatusBaseOverlap (decide (rs = n) && decide (n ≠ 31#5)) fun addressUnknown =>
        finish s (s.storeExclusiveAt size acc rs n data dataUnknown addressUnknown) := rfl

variable {data : BitVec w} {dataUnknown addressUnknown : Bool}

theorem State.storeExclusiveAt_of_not_baseReady (hb : ¬s.BaseReady n) :
    s.storeExclusiveAt size acc rs n data dataUnknown addressUnknown = .error .spAlignment := by
  rw [State.storeExclusiveAt, State.baseAddress_error hb]
  rfl

/-- With a base that can be used, only the memory part is left. -/
theorem State.storeExclusiveAt_of_baseReady (hb : s.BaseReady n)
    (ha : (if addressUnknown then s.unknownAt 0 else s.readXsp n) = a) :
    s.storeExclusiveAt size acc rs n data dataUnknown addressUnknown =
      (s.exclusiveStore size acc a (if dataUnknown then (s.unknownAt 2 ++ s.unknownAt 1).setWidth w else data) rs).map
        fun t => t.drawn (if dataUnknown ∨ addressUnknown then 3 else 0) := by
  rw [State.storeExclusiveAt, State.baseAddress_ok hb, Except.ok_bind, ha, State.exclusiveStore_drawn]

theorem State.storeExclusiveAt_error (hb : s.BaseReady n)
    (ha : (if addressUnknown then s.unknownAt 0 else s.readXsp n) = a) {e : Exc}
    (hcheck : s.checkExclusive size a acc = .error e) (h : MonitorHolds s a ∨ s.cfg.exFailAborts = true) :
    s.storeExclusiveAt size acc rs n data dataUnknown addressUnknown = .error e := by
  rw [State.storeExclusiveAt_of_baseReady hb ha, State.exclusiveStore_error hcheck h]
  rfl

end Inner

end Sys2Proof.Machine

namespace Sys2Proof.Forms

open Sys2Proof.Machine

variable {i : Instr} {s : State} {size : ExclusiveData} {acc : AccType} {a : Addr} {rs rn rt rt2 : Reg} {sz : BitVec 1}

/-- A memory part that draws UNKNOWN values stores if the monitor is held, `done` being a way to complete. -/
theorem StoresIfHeld.of_exec {done : Writes → Prop} {w count : Nat} {v : BitVec w} (hm : s.mem.wf)
    (hbytes : size.bytes ≤ 16) (hok : s.Allowed a size.bytes acc .write → s.checkExclusive size a acc = .ok ())
    (hexec : exec i s = finish s ((s.exclusiveStore size acc a v rs).map fun t => t.drawn count))
    (hdone : ∀ {t : State} {writes : Writes}, exec i s = finish s (.ok (t.drawn count)) → s.Becomes writes t.advance → done writes) :
    StoresIfHeld done s rs a size.bytes acc (Writes.nothing.store s a size.bytes v) := by
  refine ⟨fun hheld ha => ?_, fun hheld ha => ?_⟩
  · rw [State.exclusiveStore_held hheld (hok ha)] at hexec
    exact hdone hexec ((s.becomes_storeBytes hm a size.bytes (by omega) v).clearMonitor.writeX rs 0#32)
  · rw [State.exclusiveStore_not_held hheld (ha.imp_right hok)] at hexec
    exact hdone hexec (s.becomes_nothing.clearMonitor.writeX rs 1#32)

section

variable {w : Nat} {data : BitVec w} {dataOverlap : Bool} {P : Prop} {abort : Addr → Exc → Prop} {writes : Addr → Writes}

/-- A store-exclusive whose checks and stored bytes are those of the statement. -/
theorem StoresExclusive.of_storeExclusive (hexec : exec i s = storeExclusive size acc rs rn dataOverlap data s)
    (hoverlap : dataOverlap = true ↔ P) (hbytes : size.bytes ≤ 16)
    (hok : ∀ a, s.Allowed a size.bytes acc .write → s.checkExclusive size a acc = .ok ())
    (habort : ∀ a e, abort a e → s.checkExclusive size a acc = .error e)
    (hwrites : ∀ a, Writes.nothing.store s a size.bytes data = writes a) :
    StoresExclusive i s rs rn P size.bytes acc abort writes := by
  unfold StoresExclusive
  intro base baseOverlap dataChoice address dataKept dataUnknown addressKept addressUnknown aborts storesUnknown
  have hbase : (decide (rs = rn) && decide (rn ≠ 31#5)) = true ↔ baseOverlap := by simp [baseOverlap]
  have hready (h : addressUnknown) : s.BaseReady rn := fun hrn => absurd hrn h.1.2
  obtain ⟨hundef, hnop, hkept, hunknown⟩ := storeExclusive_choices (hexec.trans (storeExclusive_eq ..)) hoverlap
  have hstep (h : dataKept ∨ dataUnknown) : ∃ du, exec i s = atStoreExclusive s s.cfg.constrain.stxStatusBaseOverlap
      (decide (rs = rn) && decide (rn ≠ 31#5)) fun au => finish s (s.storeExclusiveAt size acc rs rn data du au) :=
    h.elim (fun h => ⟨_, hkept h⟩) fun h => ⟨_, hunknown h⟩
  have haborts {a : Addr} {du au : Bool} (hb : s.BaseReady rn) (ha : (if au then s.unknownAt 0 else base) = a)
      (hinner : exec i s = finish s (s.storeExclusiveAt size acc rs rn data du au)) : aborts a := by
    intro e he hheld
    rw [State.storeExclusiveAt_error hb ha (habort a e he) hheld] at hinner
    exact .of_finish hinner
  have hunknownValue {a : Addr} {au : Bool} (hm : s.mem.wf) (hb : s.BaseReady rn)
      (ha : (if au then s.unknownAt 0 else base) = a)
      (hinner : exec i s = finish s (s.storeExclusiveAt size acc rs rn data true au)) : storesUnknown a := by
    refine ⟨((s.unknownAt 2 ++ s.unknownAt 1).setWidth w).setWidth _, ?_⟩
    rw [Writes.store_setWidth]
    rw [State.storeExclusiveAt_of_baseReady hb ha] at hinner
    exact .of_exec hm hbytes (hok a) hinner .of_finish
  refine ⟨hundef, hnop, fun hd hover => ?base, fun hd hkeep => ?kept, fun hd hu => ?unknown, fun hm hb => ?stores⟩
  case base =>
    obtain ⟨du, hdu⟩ := hstep hd
    obtain ⟨hundef, hnop, -, -⟩ := storeExclusive_choices hdu hbase
    exact ⟨hundef hover, hnop hover⟩
  case kept =>
    obtain ⟨du, hdu⟩ := hstep hd
    obtain ⟨-, -, hinner, -⟩ := storeExclusive_choices hdu hbase
    refine ⟨fun hb => ?_, fun hb => haborts hb rfl (hinner hkeep)⟩
    have hinner := hinner hkeep
    rw [State.storeExclusiveAt_of_not_baseReady hb] at hinner
    exact .of_finish hinner
  case unknown =>
    obtain ⟨du, hdu⟩ := hstep hd
    obtain ⟨-, -, -, hinner⟩ := storeExclusive_choices hdu hbase
    exact haborts (hready hu) rfl (hinner hu)
  case stores =>
    refine ⟨fun hd hk => ?_, fun hd hk => ?_, fun hd hu => ?_, fun hd hu => ?_⟩
    · obtain ⟨-, -, hinner, -⟩ := storeExclusive_choices (hkept hd) hbase
      have hinner := hinner hk
      rw [State.storeExclusiveAt_of_baseReady hb rfl] at hinner
      rw [← hwrites]
      exact .of_exec hm hbytes (hok base) hinner .of_finish
    · obtain ⟨-, -, hinner, -⟩ := storeExclusive_choices (hunknown hd) hbase
      exact hunknownValue hm hb rfl (hinner hk)
    · obtain ⟨-, -, -, hinner⟩ := storeExclusive_choices (hkept hd) hbase
      have hinner := hinner hu
      rw [State.storeExclusiveAt_of_baseReady hb rfl] at hinner
      rw [← hwrites]
      exact .of_exec hm hbytes (hok _) hinner .of_finish
    · obtain ⟨-, -, -, hinner⟩ := storeExclusive_choices (hunknown hd) hbase
      exact hunknownValue hm hb rfl (hinner hu)

end

theorem StoresExclusive.of_storeExclusiveOne {bytes : Nat} (hexec : exec i s = storeExclusiveOne bytes acc rs rn rt s)
    (hbytes : bytes ≤ 8) : StoresExclusive i s rs rn (rs = rt) bytes acc (fun a => AccessAbort s a bytes acc .write True)
      (fun a => Writes.nothing.store s a bytes (s.readX rt)) :=
  .of_storeExclusive (size := .one bytes) hexec decide_eq_true_iff (hbytes.trans (by decide))
    (fun _ ha => State.checkAccess_eq_ok.mpr ha) (fun _ _ he => State.checkAccess_of_accessAbort (by simp) he) fun _ => rfl

theorem StoresExclusive.of_storeExclusivePair (hexec : exec i s = storeExclusivePair sz acc rs rt2 rn rt s) :
    StoresExclusive i s rs rn (rs = rt ∨ rs = rt2) (2 * wordBytes sz) acc
      (fun a => PairAbort s a (wordBytes sz) acc .write True)
      (fun a => (Writes.nothing.store s a (wordBytes sz) (s.readX rt)).store s (a + BitVec.ofNat 64 (wordBytes sz))
        (wordBytes sz) (s.readX rt2)) :=
  .of_storeExclusive (size := .pair (wordBytes sz)) hexec (by simp) (Nat.mul_le_mul_left 2 (wordBytes_le sz))
    (fun _ ha => (State.checkPair_eq_ok (wordBytes_cases sz)).mpr ha)
    (fun _ _ he => State.checkPair_of_pairAbort (by simp) he)
    fun a => Writes.store_joinPair _ s a (wordBytes_le sz) (s.readX rt) (s.readX rt2)

end Sys2Proof.Forms

namespace Sys2Proof.Machine.LoadStore

open Sys2Proof.Forms

/-- Settles O43: each form is one store-exclusive of one register or of a pair. -/
theorem exclusiveStores : Obligations.ExclusiveStores := by
  intro s size0 rs rt2 rn rt n one two single pair
  have hn : n ≤ 8 := wordBytes_le size0
  exact ⟨.of_storeExclusiveOne rfl hn, .of_storeExclusiveOne rfl (by decide), .of_storeExclusiveOne rfl (by decide),
    .of_storeExclusiveOne rfl hn, .of_storeExclusiveOne rfl (by decide), .of_storeExclusiveOne rfl (by decide),
    .of_storeExclusivePair rfl, .of_storeExclusivePair rfl⟩

end Sys2Proof.Machine.LoadStore
end

section
/-! Compare and swap, and the atomic memory operations (48 R610 to R665). -/

namespace Sys2Proof.Machine

open Sys2Proof.Forms

variable {s : State} {a : Addr} {n : Nat} {ld st ordered : Bool}

/-! ## The checks (48 R610(h); log 14) -/

/-- Both halves of an atomic instruction have the same rights and alignment, ordered or not. -/
theorem State.misaligned_atomicAcc (s : State) (a : Addr) (n : Nat) (ordered : Bool) :
    s.misaligned a n (atomicAcc ordered) = s.misaligned a n .atomicRW := by
  cases ordered <;> rfl

theorem State.checkAccess_atomicAcc (s : State) (a : Addr) (n : Nat) (ordered : Bool) (kind : AccessKind) :
    s.checkAccess a n (atomicAcc ordered) kind true = s.checkAccess a n .atomicRW kind true := by
  have hlevel : s.accessLevel (atomicAcc ordered) = s.accessLevel .atomicRW := by
    cases ordered <;> simp [atomicAcc, State.accessLevel]
  have hpermits : s.permits (atomicAcc ordered) = s.permits .atomicRW := by
    funext kind b
    rw [State.permits, State.permits, hlevel]
    cases ordered <;> rfl
  rw [State.checkAccess, State.checkAccess, State.misaligned_atomicAcc, hpermits]

theorem State.checkAtomic_ok (hread : s.Allowed a n .atomicRW .read) (hwrite : s.Allowed a n .atomicRW .write) :
    s.checkAtomic a n (atomicAcc ld) (atomicAcc st) = .ok () := by
  rw [State.checkAtomic, State.checkAccess_atomicAcc, State.checkAccess_atomicAcc, State.checkAccess_eq_ok.mpr hread,
    Except.ok_bind, State.checkAccess_eq_ok.mpr hwrite]

theorem State.checkAtomic_of_atomicAbort {e : Exc} (h : AtomicAbort s a n e) :
    s.checkAtomic a n (atomicAcc ld) (atomicAcc st) = .error e := by
  rw [State.checkAtomic, State.checkAccess_atomicAcc, State.checkAccess_atomicAcc]
  rcases h with he | ⟨hallowed, he⟩
  · rw [State.checkAccess_of_accessAbort (by simp) he, Except.error_bind]
  · rw [State.checkAccess_eq_ok.mpr hallowed, Except.ok_bind, State.checkAccess_of_accessAbort (by simp) he]

theorem State.checkAtomicPair_ok (hn : n = 4 ∨ n = 8) (hread : s.Allowed a (2 * n) .atomicRW .read)
    (hwrite : s.Allowed a (2 * n) .atomicRW .write) :
    s.checkAtomicPair a n (atomicAcc ld) (atomicAcc st) = .ok () := by
  obtain ⟨hread1, hread2⟩ := State.allowed_halves hn hread
  obtain ⟨hwrite1, hwrite2⟩ := State.allowed_halves hn hwrite
  rw [State.checkAtomicPair, State.misaligned_atomicAcc, State.misaligned_eq_false.mpr hread.1, Bool.not_false,
    require_true, Except.ok_bind, State.checkAtomic_ok hread1 hwrite1, Except.ok_bind, State.checkAtomic_ok hread2 hwrite2]

/-- The abort of an atomic access to a pair: alignment of the whole, the lower element, the other one (log 38). -/
def AtomicPairAbort (s : State) (a : Addr) (n : Nat) (e : Exc) : Prop :=
  (¬s.Aligned a (2 * n) .atomicRW ∧ e = .dataAbort a .alignment false false) ∨
  (s.Aligned a (2 * n) .atomicRW ∧ TwoAborts (AtomicAbort s a n) (AtomicAbort s (a + BitVec.ofNat 64 n) n)
    (s.Allowed a n .atomicRW .read ∧ s.Allowed a n .atomicRW .write) e)

theorem State.checkAtomicPair_of_abort {e : Exc} (h : AtomicPairAbort s a n e) :
    s.checkAtomicPair a n (atomicAcc ld) (atomicAcc st) = .error e := by
  rw [State.checkAtomicPair, State.misaligned_atomicAcc]
  rcases h with ⟨haligned, rfl⟩ | ⟨haligned, he⟩
  · rw [State.misaligned_eq_true.mpr haligned, Bool.not_true, require_false, Except.error_bind]
  · rw [State.misaligned_eq_false.mpr haligned, Bool.not_false, require_true, Except.ok_bind]
    rcases he with he | ⟨⟨hread, hwrite⟩, he⟩
    · rw [State.checkAtomic_of_atomicAbort he, Except.error_bind]
    · rw [State.checkAtomic_ok hread hwrite, Except.ok_bind, State.checkAtomic_of_atomicAbort he]

/-! ## The operations (48 R610(d)) -/

section Operations

variable {w : Nat} (x y : BitVec w)

theorem AtomicOp.apply_smax : AtomicOp.smax.apply x y = if x.toInt < y.toInt then y else x := by
  change (if x.toInt > y.toInt then x else y) = _
  rcases lt_trichotomy x.toInt y.toInt with h | h | h
  · rw [if_neg (by omega), if_pos h]
  · rw [BitVec.toInt_inj.mp h, ite_self]
  · rw [if_pos h, if_neg (by omega)]

theorem AtomicOp.apply_smin : AtomicOp.smin.apply x y = if x.toInt < y.toInt then x else y := by
  change (if x.toInt > y.toInt then y else x) = _
  rcases lt_trichotomy x.toInt y.toInt with h | h | h
  · rw [if_neg (by omega), if_pos h]
  · rw [BitVec.toInt_inj.mp h, ite_self]
  · rw [if_pos h, if_neg (by omega)]

theorem AtomicOp.apply_umax : AtomicOp.umax.apply x y = if x.toNat < y.toNat then y else x := by
  change (if x.toNat > y.toNat then x else y) = _
  rcases lt_trichotomy x.toNat y.toNat with h | h | h
  · rw [if_neg (by omega), if_pos h]
  · rw [BitVec.toNat_inj.mp h, ite_self]
  · rw [if_pos h, if_neg (by omega)]

theorem AtomicOp.apply_umin : AtomicOp.umin.apply x y = if x.toNat < y.toNat then x else y := by
  change (if x.toNat > y.toNat then y else x) = _
  rcases lt_trichotomy x.toNat y.toNat with h | h | h
  · rw [if_neg (by omega), if_pos h]
  · rw [BitVec.toNat_inj.mp h, ite_self]
  · rw [if_pos h, if_neg (by omega)]

end Operations

end Sys2Proof.Machine

namespace Sys2Proof.Forms

open Sys2Proof.Machine

variable {i : Instr} {s : State} {bytes : Nat} {rs rn rt : Reg}

/-- A form of the atomic extension works as its meaning does, or is Undefined. -/
theorem needsAtomics_of_exec {r : Result} {works : Prop} (hexec : exec i s = whenFeature s.cfg.haveAtomics s r)
    (h : exec i s = r → works) : NeedsAtomics i s works :=
  ⟨fun hfeature => h (hexec.trans (whenFeature_of_true hfeature)), traps_of_whenFeature hexec⟩

theorem Atomically.of_atomicLoad {op : AtomicOp} {a r : BitVec 1}
    {f : BitVec (8 * bytes) → BitVec (8 * bytes) → BitVec (8 * bytes)}
    (hexec : exec i s = atomicLoad op bytes a r rs rn rt s) (hbytes : bytes ≤ 8) (hop : ∀ x y, op.apply x y = f x y) :
    Atomically i s rs rn rt bytes f := by
  obtain rfl : (fun x y => op.apply x y) = f := funext fun x => funext (hop x)
  refine needsAtomics_of_exec hexec fun hexec => ⟨fun hm hb hread hwrite => ?_,
    aborts_of_finish hexec (fun hb => ?_) fun hb e he => ?_⟩
  · rw [State.baseAddress_ok hb, Except.ok_bind, State.checkAtomic_ok hread hwrite, Except.ok_bind] at hexec
    exact .of_finish hexec ((s.becomes_storeBytes hm _ bytes (by omega) _).writeX rt _)
  · rw [State.baseAddress_error hb, Except.error_bind]
  · rw [State.baseAddress_ok hb, Except.ok_bind, State.checkAtomic_of_atomicAbort he, Except.error_bind]

theorem Compares.of_compareAndSwap {l o0 : BitVec 1} (hexec : exec i s = compareAndSwap bytes l rs o0 rn rt s)
    (hbytes : bytes ≤ 8) : Compares i s rs rn rt bytes := by
  refine needsAtomics_of_exec hexec fun hexec => ⟨fun hm hb hread hwrite => ?_,
    aborts_of_finish hexec (fun hb => ?_) fun hb e he => ?_⟩
  · rw [State.baseAddress_ok hb, Except.ok_bind, State.checkAtomic_ok hread hwrite, Except.ok_bind] at hexec
    by_cases hequal : s.loadBytes (s.readXsp rn) bytes = s.readXW (8 * bytes) rs
    · simp only [if_pos hequal] at hexec ⊢
      exact .of_finish hexec ((s.becomes_storeBytes hm _ bytes (by omega) _).writeX rs _)
    · simp only [if_neg hequal] at hexec ⊢
      exact .of_finish hexec (s.becomes_writeX rs _)
  · rw [State.baseAddress_error hb, Except.error_bind]
  · rw [State.baseAddress_ok hb, Except.ok_bind, State.checkAtomic_of_atomicAbort he, Except.error_bind]

end Sys2Proof.Forms

namespace Sys2Proof.Machine

open Sys2Proof.Forms

/-! ## Compare and swap of a pair (48 R613) -/

section Pair

/-- A compare and swap of a pair in even registers. -/
def State.compareAndSwapTwo (s : State) (sz l : BitVec 1) (rs : Reg) (o0 : BitVec 1) (n t : Reg) : Except Exc State := do
  let w := 8 * wordBytes sz
  let address ← s.baseAddress n
  s.checkAtomicPair address (wordBytes sz) (atomicAcc (l = 1#1)) (atomicAcc (o0 = 1#1))
  let data := (s.loadBytes address (2 * wordBytes sz)).setWidth (w + w)
  let expected := s.joinPair (s.readXW w rs) (s.readXW w (rs + 1#5))
  let replacement := s.joinPair (s.readXW w t) (s.readXW w (t + 1#5))
  let stored := if data = expected then s.storeBytes address (2 * wordBytes sz) replacement else s
  let elements := s.splitPair data
  return (stored.writeX rs elements.1).writeX (rs + 1#5) elements.2

variable {i : Instr} {s : State} {sz l o0 : BitVec 1} {rs rn rt : Reg}

theorem compareAndSwapPair_of_even (hs : rs.getLsbD 0 = false) (ht : rt.getLsbD 0 = false) :
    compareAndSwapPair sz l rs o0 rn rt s =
      whenFeature s.cfg.haveAtomics s (finish s (s.compareAndSwapTwo sz l rs o0 rn rt)) := by
  rw [compareAndSwapPair, hs, ht]
  rfl

theorem State.compareAndSwapTwo_ok (hb : s.BaseReady rn)
    (hread : s.Allowed (s.readXsp rn) (2 * wordBytes sz) .atomicRW .read)
    (hwrite : s.Allowed (s.readXsp rn) (2 * wordBytes sz) .atomicRW .write) :
    let n := wordBytes sz
    let old := s.loadBytes (s.readXsp rn) n
    let old2 := s.loadBytes (s.readXsp rn + BitVec.ofNat 64 n) n
    s.compareAndSwapTwo sz l rs o0 rn rt = .ok (((if old = s.readXW (8 * n) rs ∧ old2 = s.readXW (8 * n) (rs + 1#5) then
      s.storeBytes (s.readXsp rn) (2 * n) (s.joinPair (s.readXW (8 * n) rt) (s.readXW (8 * n) (rt + 1#5))) else s).writeX
      rs old).writeX (rs + 1#5) old2) := by
  rw [State.compareAndSwapTwo, State.baseAddress_ok hb, Except.ok_bind,
    State.checkAtomicPair_ok (wordBytes_cases sz) hread hwrite, Except.ok_bind]
  simp only [State.loadBytes_pair, State.splitPair_joinPair, State.joinPair_inj]
  rfl

theorem State.compareAndSwapTwo_of_not_baseReady (hb : ¬s.BaseReady rn) :
    s.compareAndSwapTwo sz l rs o0 rn rt = .error .spAlignment := by
  rw [State.compareAndSwapTwo, State.baseAddress_error hb]
  rfl

theorem State.compareAndSwapTwo_error (hb : s.BaseReady rn) {e : Exc}
    (he : AtomicPairAbort s (s.readXsp rn) (wordBytes sz) e) : s.compareAndSwapTwo sz l rs o0 rn rt = .error e := by
  rw [State.compareAndSwapTwo, State.baseAddress_ok hb, Except.ok_bind, State.checkAtomicPair_of_abort he]
  rfl

theorem completes_of_compareAndSwapTwo (hexec : exec i s = finish s (s.compareAndSwapTwo sz l rs o0 rn rt))
    (hm : s.mem.wf) (hb : s.BaseReady rn) (hread : s.Allowed (s.readXsp rn) (2 * wordBytes sz) .atomicRW .read)
    (hwrite : s.Allowed (s.readXsp rn) (2 * wordBytes sz) .atomicRW .write) :
    let n := wordBytes sz
    let a := s.readXsp rn
    let a2 := a + BitVec.ofNat 64 n
    let loaded := Writes.toRegs rs (rs + 1#5) (s.loadBytes a n) (s.loadBytes a2 n)
    Completes i s (if s.loadBytes a n = s.readXW (8 * n) rs ∧ s.loadBytes a2 n = s.readXW (8 * n) (rs + 1#5)
      then (loaded.store s a n (s.readX rt)).store s a2 n (s.readX (rt + 1#5)) else loaded) := by
  intro n a a2 loaded
  rw [State.compareAndSwapTwo_ok hb hread hwrite] at hexec
  have hn : n ≤ 8 := wordBytes_le sz
  by_cases hequal : s.loadBytes a n = s.readXW (8 * n) rs ∧ s.loadBytes a2 n = s.readXW (8 * n) (rs + 1#5)
  · simp only [n, a, a2] at hequal
    simp only [if_pos hequal] at hexec
    rw [if_pos hequal, ← Writes.store_joinPair _ s a hn]
    exact .of_finish hexec
      (((s.becomes_storeBytes hm a (2 * n) (by omega) _).writeX rs _).writeX (rs + 1#5) _)
  · simp only [n, a, a2] at hequal
    simp only [if_neg hequal] at hexec
    rw [if_neg hequal]
    exact .of_finish hexec ((s.becomes_writeX rs _).writeX (rs + 1#5) _)

end Pair

namespace LoadStore

/-- Settles O44: CAS of one register, and of a pair by whether its registers are even. -/
theorem compareAndSwap : Obligations.CompareAndSwap := by
  intro s size0 l o0 rs rn rt n a a2 old old2 loaded
  have hn : n ≤ 8 := wordBytes_le size0
  have hcasp : exec (.casp size0 l rs o0 rn rt) s = compareAndSwapPair size0 l rs o0 rn rt s := rfl
  refine ⟨.of_compareAndSwap rfl (by decide), .of_compareAndSwap rfl (by decide), .of_compareAndSwap rfl hn,
    fun hfeature => ⟨fun hodd => ?_, fun hs ht => ?_⟩, traps_of_whenFeature rfl⟩
  · have hinvalid : (WellFormed.validEven rs && WellFormed.validEven rt) = false :=
      Bool.and_eq_false_iff.mpr (hodd.imp (congrArg not) (congrArg not))
    exact .of_raise (hcasp.trans (compareAndSwapPair_of_odd hinvalid))
  · rw [compareAndSwapPair_of_even hs ht, whenFeature_of_true hfeature] at hcasp
    exact ⟨completes_of_compareAndSwapTwo hcasp, aborts_of_finish hcasp State.compareAndSwapTwo_of_not_baseReady
      fun hb _ => State.compareAndSwapTwo_error hb⟩

open AtomicOp in
/-- Settles O45: each form is one atomic load with its operation and size, a store form with the zero register. -/
theorem atomicReadModifyWrite : Obligations.AtomicReadModifyWrite := by
  intro s size0 a r rs rn rt n z smax smin umax umin
  have hn : n ≤ 8 := wordBytes_le size0
  have h1 : 1 ≤ 8 := by decide
  have h2 : 2 ≤ 8 := by decide
  have hsame {w : Nat} {f : BitVec w → BitVec w → BitVec w} (x y : BitVec w) : f x y = f x y := rfl
  exact ⟨⟨.of_atomicLoad rfl h1 hsame, .of_atomicLoad rfl h2 hsame, .of_atomicLoad rfl hn hsame⟩,
    ⟨.of_atomicLoad rfl h1 hsame, .of_atomicLoad rfl h2 hsame, .of_atomicLoad rfl hn hsame⟩,
    ⟨.of_atomicLoad rfl h1 hsame, .of_atomicLoad rfl h2 hsame, .of_atomicLoad rfl hn hsame⟩,
    ⟨.of_atomicLoad rfl h1 hsame, .of_atomicLoad rfl h2 hsame, .of_atomicLoad rfl hn hsame⟩,
    ⟨.of_atomicLoad rfl h1 apply_smax, .of_atomicLoad rfl h2 apply_smax, .of_atomicLoad rfl hn apply_smax⟩,
    ⟨.of_atomicLoad rfl h1 apply_smin, .of_atomicLoad rfl h2 apply_smin, .of_atomicLoad rfl hn apply_smin⟩,
    ⟨.of_atomicLoad rfl h1 apply_umax, .of_atomicLoad rfl h2 apply_umax, .of_atomicLoad rfl hn apply_umax⟩,
    ⟨.of_atomicLoad rfl h1 apply_umin, .of_atomicLoad rfl h2 apply_umin, .of_atomicLoad rfl hn apply_umin⟩,
    ⟨.of_atomicLoad rfl h1 hsame, .of_atomicLoad rfl h2 hsame, .of_atomicLoad rfl hn hsame⟩,
    ⟨.of_atomicLoad rfl h1 hsame, .of_atomicLoad rfl h2 hsame, .of_atomicLoad rfl hn hsame⟩,
    ⟨.of_atomicLoad rfl h1 hsame, .of_atomicLoad rfl h2 hsame, .of_atomicLoad rfl hn hsame⟩,
    ⟨.of_atomicLoad rfl h1 hsame, .of_atomicLoad rfl h2 hsame, .of_atomicLoad rfl hn hsame⟩,
    ⟨.of_atomicLoad rfl h1 hsame, .of_atomicLoad rfl h2 hsame, .of_atomicLoad rfl hn hsame⟩,
    ⟨.of_atomicLoad rfl h1 apply_smax, .of_atomicLoad rfl h2 apply_smax, .of_atomicLoad rfl hn apply_smax⟩,
    ⟨.of_atomicLoad rfl h1 apply_smin, .of_atomicLoad rfl h2 apply_smin, .of_atomicLoad rfl hn apply_smin⟩,
    ⟨.of_atomicLoad rfl h1 apply_umax, .of_atomicLoad rfl h2 apply_umax, .of_atomicLoad rfl hn apply_umax⟩,
    ⟨.of_atomicLoad rfl h1 apply_umin, .of_atomicLoad rfl h2 apply_umin, .of_atomicLoad rfl hn apply_umin⟩⟩

end LoadStore

end Sys2Proof.Machine
end
